-- ==== Sys2Proof/Word.lean ====
section
/-! DEFINITION. The words of the Renmer model, its keyed tables and its byte memories, with their plainest operations. -/

namespace Sys2Proof

/-- One byte. -/
abbrev Byte := BitVec 8
/-- One 32-bit register word. -/
abbrev W32 := BitVec 32
/-- One 64-bit word. -/
abbrev W64 := BitVec 64
/-- A byte sequence, lowest address first. -/
abbrev Bytes := List Byte

/-- A table keyed by number, keys rising. -/
abbrev Tbl (α : Type) := List (Nat × α)

namespace Tbl

/-- The entry at a key. -/
def find? {α : Type} : Tbl α → Nat → Option α
  | [], _ => none
  | (k, v) :: r, n => if k = n then some v else find? r n

/-- Writes the entry at a key, keeping the keys in rising order. -/
def put {α : Type} : Tbl α → Nat → α → Tbl α
  | [], n, w => [(n, w)]
  | (k, v) :: r, n, w =>
    if k = n then (n, w) :: r else if n < k then (n, w) :: (k, v) :: r else (k, v) :: put r n w

/-- Removes the entry at a key. -/
def del {α : Type} (t : Tbl α) (n : Nat) : Tbl α := t.filter fun p => p.1 ≠ n

/-- The entry at a key, or the default an unlisted key stands for. -/
def getD {α : Type} (t : Tbl α) (n : Nat) (d : α) : α := (t.find? n).getD d

/-- Changes the entry at a key, starting from the default where it is unlisted. -/
def upd {α : Type} (t : Tbl α) (n : Nat) (d : α) (f : α → α) : Tbl α := t.put n (f (t.getD n d))

/-- Changes every listed entry. -/
def mapVal {α : Type} (t : Tbl α) (f : Nat → α → α) : Tbl α := t.map fun p => (p.1, f p.1 p.2)

end Tbl

/-- Replaces position `n` of a list; out of range it changes nothing. -/
def setNth {α : Type} : List α → Nat → α → List α
  | [], _, _ => []
  | _ :: r, 0, w => w :: r
  | v :: r, n + 1, w => v :: setNth r n w

/-- Position `n` of a list, or a default. -/
def nthD {α : Type} : List α → Nat → α → α
  | [], _, d => d
  | v :: _, 0, _ => v
  | _ :: r, n + 1, d => nthD r n d

/-- Changes position `n` of a list; out of range it changes nothing. -/
def modNth {α : Type} : List α → Nat → (α → α) → List α
  | [], _, _ => []
  | v :: r, 0, f => f v :: r
  | v :: r, n + 1, f => v :: modNth r n f

/-- The numbers from `a`, `n` of them. -/
def seqFrom (a : Nat) : Nat → List Nat
  | 0 => []
  | n + 1 => a :: seqFrom (a + 1) n

/-- A counter that saturates at 0xFFFF_FFFF (R27, R94, R95 and the other register maps). -/
def satAdd (n d : Nat) : Nat := if 4294967295 < n + d then 4294967295 else n + d

/-- One more on a saturating counter. -/
def satInc (n : Nat) : Nat := satAdd n 1

/-- A Boolean as the number of its bit. -/
def b2n (b : Bool) : Nat := if b then 1 else 0

/-- Bit `i` of a register word. -/
def bitOf (w : W32) (i : Nat) : Bool := w.getLsbD i

/-- A register word with bit `i` set. -/
def setBit (w : W32) (i : Nat) : W32 := w ||| (1#32 <<< i)

/-- A register word with bit `i` cleared. -/
def clrBit (w : W32) (i : Nat) : W32 := w &&& ~~~(1#32 <<< i)

/-- The field `[lo + n - 1 : lo]` of a register word, as a number. -/
def field (w : W32) (lo n : Nat) : Nat := (w.toNat / 2 ^ lo) % 2 ^ n

/-- A register word from a number. -/
def w32 (n : Nat) : W32 := BitVec.ofNat 32 n

/-- Packs fields, each with its lowest bit, into a number. -/
def pack : List (Nat × Nat) → Nat
  | [] => 0
  | (lo, v) :: r => v * 2 ^ lo + pack r

/-- Writing a W1C register: each 1 clears its bit, each 0 has no effect (R13). -/
def w1c (old v : W32) : W32 := old &&& ~~~v

/-- A byte memory: address and byte pairs, addresses strictly rising. -/
abbrev Mem := List Host.Cell

end Sys2Proof
end

