-- ==== Sys2Proof/Machine/Bytes.lean ====
section
/-! DEFINITION. Byte order (all integers of the spec are little-endian), CRC-32C, and the operations over a sparse byte memory in canonical form. -/

namespace Sys2Proof.Machine

/-- The little-endian value of a byte sequence. -/
def leNat : Bytes → Nat
  | [] => 0
  | b :: r => b.toNat + 256 * leNat r

/-- The `n` little-endian bytes of a number. -/
def natLe (n : Nat) : Nat → Bytes
  | 0 => []
  | k + 1 => BitVec.ofNat 8 n :: natLe (n / 256) k

/-- The big-endian value of a byte sequence. -/
def beNat (bs : Bytes) : Nat := leNat bs.reverse

/-- The `k` big-endian bytes of a number. -/
def natBe (n k : Nat) : Bytes := (natLe n k).reverse

/-- `n` bytes of a sequence from offset `off`; past the end they read zero. -/
def slice (bs : Bytes) (off n : Nat) : Bytes := (seqFrom off n).map fun i => bs.getD i 0

/-- The `n`-byte little-endian field at offset `off`. -/
def fieldAt (bs : Bytes) (off n : Nat) : Nat := leNat (slice bs off n)

/-- Pads a byte sequence with zeros to a multiple of `m`. -/
def padTo (m : Nat) (bs : Bytes) : Bytes := bs ++ List.replicate ((m - bs.length % m) % m) 0

/-- `n` zero bytes. -/
def zeros (n : Nat) : Bytes := List.replicate n 0

/-- Byte-wise exclusive or. -/
def xorBytes (a b : Bytes) : Bytes := List.zipWith (· ^^^ ·) a b

/-- The bytes of an ASCII text. -/
def ascii (s : String) : Bytes := s.toList.map fun c => BitVec.ofNat 8 c.toNat

/-- `n` shifts of the reflected CRC-32C register. -/
def crcShift (c : W32) : Nat → W32
  | 0 => c
  | k + 1 => crcShift (if c.getLsbD 0 then (c >>> 1) ^^^ 0x82F63B78#32 else c >>> 1) k

/-- The CRC-32C register after a byte sequence. -/
def crcRun (c : W32) : Bytes → W32
  | [] => c
  | b :: r => crcRun (crcShift (c ^^^ b.setWidth 32) 8) r

/-- CRC-32C (Castagnoli) of a byte sequence. -/
def crc32c (bs : Bytes) : W32 := ~~~(crcRun 0xFFFFFFFF#32 bs)

namespace Mem

/-- What address `a` holds where the memory lists nothing else than `d`. -/
def readByte (d : Byte) : Mem → Nat → Byte
  | [], _ => d
  | (k, v) :: r, a => if k = a then v else readByte d r a

/-- Removes address `a`. -/
def erase (m : Mem) (a : Nat) : Mem := m.filter fun c => c.1 ≠ a

/-- Lists a byte at `a`, keeping the addresses in rising order. -/
def insert : Mem → Nat → Byte → Mem
  | [], a, b => [(a, b)]
  | (k, v) :: r, a, b =>
    if a < k then (a, b) :: (k, v) :: r else if k = a then (a, b) :: r else (k, v) :: insert r a b

/-- Writes one byte: the value an unlisted address reads as is not listed. -/
def writeByte (d : Byte) (m : Mem) (a : Nat) (b : Byte) : Mem :=
  if b = d then erase m a else insert m a b

/-- Writes bytes at rising addresses. -/
def write (d : Byte) : Mem → Nat → Bytes → Mem
  | m, _, [] => m
  | m, a, b :: r => write d (writeByte d m a b) (a + 1) r

/-- Reads `n` bytes at rising addresses. -/
def read (d : Byte) (m : Mem) (a n : Nat) : Bytes := (seqFrom a n).map (readByte d m)

/-- Returns the addresses from `a`, `n` of them, to what an unlisted address reads as. -/
def clear (m : Mem) (a n : Nat) : Mem := m.filter fun c => c.1 < a ∨ a + n ≤ c.1

/-- The canonical form: addresses strictly rising, and no entry equal to what an unlisted address reads as. -/
def wf (d : Byte) : Mem → Bool
  | [] => true
  | [(_, v)] => v != d
  | (k, v) :: (k', v') :: r => v != d && decide (k < k') && wf d ((k', v') :: r)

end Mem

end Sys2Proof.Machine
end

