-- ==== Sys2Proof/Machine/CommonState.lean ====
section
/-! DEFINITION. What several units share: who issued an access, what leaves the block, and the reports that go up the fault path. -/

namespace Sys2Proof.Machine

/-- Who waits for an external read: a command under its queue and handle, a fetch of a queue, or a unit of the device. -/
inductive Owner where
  | cmd (fn q : Nat) (handle : Nat)
  | fetch (fn q : Nat)
  | unit (code : Nat)
deriving DecidableEq, Repr

/-- A started command, named by its function, its local queue and its handle (R115). -/
structure CmdRef where
  fn : Nat
  q : Nat
  handle : Nat
deriving DecidableEq, Repr

/-- A record held for a frozen function (R321). -/
structure HeldRecord where
  /-- The function, or 15 + m for member m's queue window. -/
  fn : Nat
  q : Nat
  bytes : Bytes
deriving DecidableEq, Repr

/-- A BAR as enumeration finds it on an accelerator (R274). -/
structure BarInfo where
  wide : Bool
  prefetchable : Bool
  size : Nat
deriving DecidableEq, Repr

/-- What leaves the block. -/
inductive Output where
  /-- A posted write into a function's host address space, with its relaxed-ordering attribute (R110, R312). -/
  | hostWrite (fn addr : Nat) (bytes : Bytes) (relaxed : Bool)
  /-- A read request into a function's host address space under a tag (R314). -/
  | hostRead (fn tag addr len : Nat)
  /-- Assert_INTx or Deassert_INTx of a function (R119, R311). -/
  | intx (fn : Nat) (assert : Bool)
  /-- A completion returned on the host link: status 0 successful, 1 unsupported request, 2 completer abort. -/
  | hostCpl (fn status : Nat) (bytes : Bytes)
  /-- A posted write on an accelerator port, with its relaxed-ordering attribute (R276). -/
  | accelWrite (port addr : Nat) (bytes : Bytes) (relaxed : Bool)
  /-- A read request on an accelerator port under a tag. -/
  | accelRead (port tag addr len : Nat)
  /-- A completion returned on an accelerator port. -/
  | accelCpl (port status : Nat) (bytes : Bytes)
  /-- A write forwarded to a cohort member (R280). -/
  | cohortWrite (member tenant addr : Nat) (bytes : Bytes)
  /-- A message to a cohort member over a cohort link. -/
  | cohortMsg (member code : Nat) (bytes : Bytes)
  /-- A job message to a rank: its type and its bytes. -/
  | peer (rank code : Nat) (bytes : Bytes)
  /-- A write of an onward leg: kind 3 drive or 4 remote, its namespace or target, the epoch area and the offset in it (R227). -/
  | onward (kind target area off : Nat) (bytes : Bytes)
  /-- A flush of everything an onward leg has written to its namespace (R227). -/
  | onwardFlush (target : Nat)
  /-- A command handed to a local drive. -/
  | drive (drive tag opcode lba count : Nat) (bytes : Bytes)
  /-- A SEND to a remote target (R419). -/
  | replica (target : Nat) (bytes : Bytes)
  /-- A frame on an Ethernet port. -/
  | frame (port : Nat) (bytes : Bytes)
  /-- A PFC frame on a port: a priority and its quanta (R355). -/
  | pfc (port prio quanta : Nat)
  /-- A sideband or VDM response: a status and its payload. -/
  | sideband (status : Nat) (bytes : Bytes)
  /-- A sideband address or data not acknowledged. -/
  | nack
  /-- An I3C in-band interrupt with its data byte (R508). -/
  | ibi (data : Nat)
  /-- A PCIe message on the host link (PME, error or vendor-defined): a code and its bytes. -/
  | hostMsg (fn code : Nat) (bytes : Bytes)
  /-- A link reset or retrain request on a link of the given kind. -/
  | link (kind index event : Nat)
  /-- The value a pop of a mailbox FIFO returned. -/
  | popped (fifo entry : Nat)
  /-- The value a register read returned: its block and offset. -/
  | readData (block off value : Nat)
  /-- Bits driven on JTAG_TDO. -/
  | tdo (bit : Bool)
deriving DecidableEq, Repr

/-- A fault a unit reports on the path of R541, before core 0 turns it into an entry: the fields of R545. -/
structure Report where
  typ : Nat := 1
  source : Nat
  severity : Nat
  status : Nat := 0
  bit : Nat := 0
  reg : Nat := 0
  block : Nat := 0
  d0 : Nat := 0
  d1 : Nat := 0
  d2 : Nat := 0
  member : Nat := 0
deriving DecidableEq, Repr

end Sys2Proof.Machine
end

