-- ==== Sys2Proof/Machine/NetState.lean ====
section
/-! DEFINITION. The state of the network ports, the Marver pipeline and the traffic manager (spec/13_network_ports_and_marver.md, spec/14_traffic_manager.md). -/

namespace Sys2Proof.Machine

/-- A packet on its way through the pipeline (R356 to R373). -/
structure Pkt where
  /-- The frame from destination address to its end, FCS stripped. -/
  bytes : Bytes
  port : Nat := 0
  prio : Nat := 0
  /-- Arrival sequence of its port (R356). -/
  seq : Nat := 0
  /-- Entered the parser a second time (R368). -/
  reinjected : Bool := false
  /-- Template selected, 0xFF for none. -/
  template : Nat := 0xFF
  /-- Class (R362). -/
  cls : Nat := 1023
  /-- Group mask of the pattern matcher (R360). -/
  groups : Nat := 0
  firstPattern : Nat := 0xFFFF
  l4ok : Bool := false
  ce : Bool := false
  /-- Decrypted by ESP inbound, with the SA. -/
  esp : Bool := false
  sa : Nat := 0
deriving DecidableEq, Repr

/-- One Ethernet port (R350 to R356, R377). -/
structure NetPort where
  linkUp : Bool := false
  anDone : Bool := false
  aligned : Bool := false
  /-- NET_PORT_EVENTS. -/
  events : W32 := 0
  fecCorr : Nat := 0
  fecUncorr : Nat := 0
  rxFrames : Nat := 0
  rxErr : Nat := 0
  pfcTx : Nat := 0
  pfcRx : Nat := 0
  pauseDiscard : Nat := 0
  prioSel : Nat := 0
  /-- Cells held by each priority. -/
  cells : Tbl Nat := []
  /-- NET_PRIO_DROP_COUNT of each priority. -/
  drops : Tbl Nat := []
  /-- Priorities under XOFF. -/
  xoff : List Nat := []
  /-- Priorities paused by the peer. -/
  paused : List Nat := []
  /-- Complete frames waiting for the parser, in arrival order. -/
  inbox : List Pkt := []
  /-- Next arrival sequence. -/
  seq : Nat := 0
  /-- Priority the parser serves and frames left of its share (R356). -/
  wrrPrio : Nat := 0
  wrrLeft : Nat := 0
  /-- Sequence the reorder stage releases next (R365). -/
  expected : Nat := 0
  /-- Packets in the reorder stage by sequence; none where the packet was dropped or went to the slow path. -/
  done : Tbl (Option Pkt) := []
  /-- Sequences skipped whose packet has not arrived. -/
  skipped : List Nat := []
deriving DecidableEq, Repr

/-- A security association (R369 to R372). -/
structure Sa where
  tenant : Nat
  spi : Nat
  /-- [0] outbound, [1] ESN, [2] tunnel, [3] 256-bit key. -/
  flags : Nat
  /-- Destination address, 16 bytes. -/
  dst : Bytes
  /-- Handle of its key. -/
  handle : Nat
  /-- Outbound: sequence numbers used. Inbound: highest sequence seen. -/
  top : Nat := 0
  /-- Inbound: sequences of the window already seen. -/
  seen : List Nat := []
  /-- Outbound: stopped at its last sequence. -/
  exhausted : Bool := false
deriving DecidableEq, Repr

/-- The runtime state of a packet ring (R373, R374). -/
structure Ring where
  /-- Receive: frames written. Transmit: slots consumed. Modulo 2^31. -/
  count : Nat := 0
  error : Bool := false
deriving DecidableEq, Repr

/-- A datagram in reassembly on core 2 (R368). -/
structure Frag where
  /-- IP version, addresses, identification and protocol. -/
  key : Bytes
  port : Nat
  prio : Nat
  /-- The headers before the payload, from the fragment at offset 0. -/
  head : Bytes
  /-- Payload pieces by offset. -/
  pieces : Tbl Bytes
  /-- Payload bytes in all, once the last fragment is known. -/
  total : Option Nat
deriving DecidableEq, Repr

/-- The Marver pipeline. -/
structure Marver where
  /-- MRV_EVENTS. -/
  events : W32 := 0
  malformed : Nat := 0
  slow : Nat := 0
  slowDrop : Nat := 0
  reorderSkip : Nat := 0
  headroomOvf : Nat := 0
  espAuthFail : Nat := 0
  espReplay : Nat := 0
  espBadSa : Nat := 0
  classSel : Nat := 0
  classPkts : Tbl Nat := []
  classDrops : Tbl Nat := []
  /-- Port the parser asks first, and the lane that takes the next packet. -/
  lastPort : Nat := 0
  nextLane : Nat := 0
  /-- Packets in each of the 64 lanes, oldest first. -/
  lanes : Tbl (List Pkt) := []
  /-- Slow-path queues of cores 2, 6 and 7. -/
  slowQ : Tbl (List Pkt) := []
  frags : List Frag := []
  /-- Keys of datagrams whose timeout has won: a fragment that follows the first is late (R68, R368). -/
  lateFrags : List Bytes := []
  saIn : Tbl Sa := []
  saOut : Tbl Sa := []
  rings : Tbl Ring := []
  /-- Packets delivered to the remote memory engine, oldest first. -/
  toRme : List Pkt := []
  /-- Writes of RSV fields and refused writes (R14). -/
  faultCount : Nat := 0
deriving DecidableEq, Repr

/-- The Ethernet ports. -/
structure Net where
  ports : Tbl NetPort := []
  /-- NET_EVENTS. -/
  events : W32 := 0
  faultCount : Nat := 0
deriving DecidableEq, Repr

/-- Who places a frame in a leaf queue (R380). -/
inductive TxSrc where
  /-- The next slot of a transmit packet ring. -/
  | ring (r : Nat)
  /-- The remote memory engine: its oldest frame. -/
  | rme
  /-- Core 2, for a tenant (16 the device). -/
  | core2 (tenant leaf : Nat) (frame : Bytes)
deriving DecidableEq, Repr

/-- A frame in a leaf queue. -/
structure TxFrame where
  bytes : Bytes
  /-- Outbound SA, where the ESP flag is set (R372). -/
  sa : Option Nat := none
  /-- Tenant that placed it; 16 the device. -/
  tenant : Nat
  /-- Placed by a packet ring. -/
  ofRing : Bool := false
  /-- The tally at admission (R393). -/
  stamp : Nat := 0
deriving DecidableEq, Repr

/-- A leaf queue at run time (R380, R390, R393). -/
structure Leaf where
  frames : List TxFrame := []
  hwmCells : Nat := 0
  hwmSojourn : Nat := 0
  drops : Nat := 0
  ecn : Nat := 0
  /-- A no_drop source waits for room. -/
  sourceHeld : Bool := false
deriving DecidableEq, Repr

/-- A node of the tree at run time: its shaper and its tags (R383, R386). -/
structure TmNode where
  /-- Shaper level in bytes. -/
  level : Int := 0
  /-- Refill not yet a whole byte, in 1/8,000 bytes. -/
  frac : Nat := 0
  start : Nat := 0
  finish : Nat := 0
  /-- Eligible at its parent. -/
  eligible : Bool := false
deriving DecidableEq, Repr

/-- A policer at run time (R391, R392); buckets in 1/8,000 bytes. -/
structure Policer where
  tc : Nat := 0
  te : Nat := 0
  /-- Tally of the last update; none before the first. -/
  last : Option Nat := none
  green : Nat := 0
  yellow : Nat := 0
  red : Nat := 0
deriving DecidableEq, Repr

/-- The traffic manager. -/
structure Tm where
  /-- TM_EVENTS. -/
  events : W32 := 0
  poolHwm : Nat := 0
  poolDrops : Nat := 0
  foreignDrops : Nat := 0
  qSel : Nat := 0
  nodeSel : Nat := 0
  polSel : Nat := 0
  leaves : Tbl Leaf := []
  /-- Nodes: leaf l at l, class node i at 0x10000 + i, tenant node i at 0x11000 + i. -/
  nodes : Tbl TmNode := []
  /-- Virtual time of each priority group: parent × 8 + priority, port p as parent 0x12000 + p. -/
  vtime : Tbl Nat := []
  policers : Tbl Policer := []
  faultCount : Nat := 0
deriving DecidableEq, Repr

end Sys2Proof.Machine
end

