-- ==== Sys2Proof/Machine/StorageState.lean ====
section
/-! DEFINITION. The state of the storage controller (spec/12_storage_controller.md). -/

namespace Sys2Proof.Machine

/-- A submission queue: queue 0 is the admin queue. -/
structure NvSq where
  /-- Address in the function's PCIe space, or offset in the accelerator's aperture. -/
  base : Nat
  size : Nat
  cq : Nat
  tail : Nat := 0
  head : Nat := 0
  /-- Broke doorbell rules: nothing more is accepted (R329). -/
  dead : Bool := false
deriving DecidableEq, Repr

/-- A completion queue. -/
structure NvCq where
  base : Nat
  size : Nat
  /-- Interrupts enabled (R326). -/
  ien : Bool := false
  tail : Nat := 0
  head : Nat := 0
  phase : Bool := true
deriving DecidableEq, Repr

/-- A completion entry not yet posted: queue, command identifier, the admitted command that still runs, the 15-bit status field and Dword 0. -/
structure NvEntry where
  sq : Nat
  cid : Nat
  cmd : Option Nat
  status : Nat
  dw0 : Nat := 0
deriving DecidableEq, Repr

/-- The controller of a function; the accelerator pairs of a port have a record of their own at 256 + port, pair k as queue k + 1. -/
structure NvCtrl where
  /-- CC. -/
  cc : W32 := 0
  /-- CSTS.RDY. -/
  rdy : Bool := false
  /-- CSTS.SHST: 0 normal, 1 in progress, 2 complete. -/
  shst : Nat := 0
  /-- INTMS bit 0. -/
  masked : Bool := false
  aqa : W32 := 0
  asq : Nat := 0
  acq : Nat := 0
  sqs : Tbl NvSq := []
  cqs : Tbl NvCq := []
  /-- Entries to post, in admission order. -/
  entries : List NvEntry := []
  /-- The command fetched and not yet admitted of each queue. -/
  fetched : Tbl Bytes := []
  /-- Asynchronous Event Requests outstanding, by command identifier. -/
  aers : List Nat := []
  /-- Asynchronous events not yet reported: Dword 0. -/
  pendingEvents : List Nat := []
  /-- Event types reported and not cleared by their log page. -/
  reported : List Nat := []
  /-- Asynchronous Event Configuration. -/
  aeConfig : Nat := 0
  /-- Changed namespaces since the log was last read. -/
  changed : List Nat := []
deriving DecidableEq, Repr

/-- A namespace (R331). -/
structure Namespace where
  tenant : Nat
  nsid : Nat
  /-- 512-byte LBAs; else 4 KiB. -/
  small : Bool
  striped : Bool
  size : Nat
  /-- The drives it uses, in stripe order. -/
  drives : List Nat
  /-- Runs on the drives: drive, first MiB, MiBs. -/
  runs : List (Nat × Nat × Nat)
  /-- Serial number of each drive it uses. -/
  serials : Tbl Bytes := []
  /-- The XTS key pair wrapped under the tenant's TRK (R333, R431). -/
  wrapped : Bytes
  keyGen : Nat := 1
  /-- Remote targets still in the namespace. -/
  replicas : List Nat := []
  /-- Remote targets dropped and to be rebuilt. -/
  dropped : List Nat := []
  /-- The data of a drive that came back is not intact: only NS_FORMAT or NS_DELETE helps (R342). -/
  broken : Bool := false
  /-- A format runs, or waits for lost drives, and the NS_FORMAT that waits for it. -/
  formatting : Bool := false
  format : Option CmdRef := none
  /-- The keys of the running format are replaced. -/
  rekeyed : Bool := false
  /-- An NS_DELETE has begun. -/
  deleting : Option CmdRef := none
deriving DecidableEq, Repr

/-- What an admitted command has still to do. -/
inductive NvStage where
  /-- Waits on an overlap, on a drive reset or on the write inhibit. -/
  | waiting
  /-- Handed to its drives and replicas. -/
  | handed
  /-- FUA: the flushes after the write run. -/
  | flushing
  /-- Ended for the host; a drive resets, and overlapping commands still wait (R341). -/
  | ghost
deriving DecidableEq, Repr

/-- A part of a command at a drive, or at remote target `drive − 256`. -/
structure NvPart where
  drive : Nat
  tag : Nat
  /-- Byte offset in the namespace, and bytes. -/
  off : Nat
  len : Nat
  done : Bool := false
deriving DecidableEq, Repr

/-- What a write to a drive replica slot stores: the segment of a rank's epoch, and whether its origin waits for an acknowledgement (R225, R226). -/
structure SlotWrite where
  rank : Nat
  epoch : Nat
  seg : Nat
  bytes : Bytes
  ack : Bool := true
deriving DecidableEq, Repr

/-- What a write of a drive leg stores (R227). -/
inductive LegPart where
  /-- The area header, state writing. -/
  | header
  /-- A segment of the shard. -/
  | seg (i : Nat)
  /-- The signed manifest. -/
  | manifest
  /-- The flush before the final write. -/
  | flush
  /-- The area header, state complete. -/
  | complete
deriving DecidableEq, Repr

/-- A write or flush of an epoch's drive leg. -/
structure LegWrite where
  epoch : Nat
  part : LegPart
deriving DecidableEq, Repr

/-- An admitted command (R335). -/
structure NvCmd where
  id : Nat
  /-- Controller and queue. -/
  ctrl : Nat
  sq : Nat
  cid : Nat
  /-- NVMe opcode; 0x80 the deallocation of a format, 0x81 the flush of a shutdown, 0x82 a write to a replica slot, 0x83 a write of a drive leg, 0x84 its flush. -/
  op : Nat
  tenant : Nat
  /-- The namespaces it touches. -/
  nsids : List Nat
  /-- Byte ranges it touches; a Flush touches all. -/
  ranges : List (Nat × Nat)
  fua : Bool := false
  deac : Bool := false
  /-- Plaintext of a write; what a read has brought so far. -/
  data : Bytes := []
  /-- Addresses and lengths that the data of a read goes to. -/
  prps : List (Nat × Nat) := []
  stage : NvStage := .waiting
  parts : List NvPart := []
  /-- Status field of a part that failed. -/
  failed : Nat := 0
  /-- It posts no entry (R344). -/
  silent : Bool := false
  /-- Drives in reset that it waits for after its timeout. -/
  resetOn : List Nat := []
  /-- Of a peer's replica write: the target it came over and its tag. -/
  peer : Option (Nat × Nat) := none
  /-- What a write to a replica slot stores. -/
  slot : Option SlotWrite := none
  /-- What a write or flush of a drive leg is for. -/
  leg : Option LegWrite := none
deriving DecidableEq, Repr

/-- An entry of a drive's label (R342): tenant, NSID, key generation, first MiB and MiBs. -/
structure LabelEntry where
  tenant : Nat
  nsid : Nat
  keyGen : Nat
  first : Nat
  count : Nat
deriving DecidableEq, Repr

/-- What enumeration finds on a drive: link, capacity, serial number, DLFEAT, and the label's module serial, drive serial and entries. -/
structure DriveInfo where
  speed : Nat
  width : Nat
  capacity : Nat
  serial : Bytes
  dlfeat : Bool
  awupf : Nat
  labelModule : Bytes
  labelSerial : Bytes
  entries : List LabelEntry
deriving DecidableEq, Repr

/-- A drive (R340 to R342). -/
structure Drive where
  present : Bool := false
  speed : Nat := 0
  width : Nat := 0
  /-- Trained and enumerated. -/
  ready : Bool := false
  lost : Bool := false
  resetting : Bool := false
  dlfeat : Bool := false
  /-- Bytes written atomically on power fail. -/
  awupf : Nat := 0
  capacity : Nat := 0
  serial : Bytes := []
  events : W32 := 0
  timeouts : Nat := 0
  trainFails : Nat := 0
deriving DecidableEq, Repr

/-- The storage controller. -/
structure Storage where
  /-- Functions 0 to 15, and 256 + port for the accelerator pairs of a port. -/
  ctrls : Tbl NvCtrl := []
  spaces : List Namespace := []
  /-- Admitted commands, in admission order. -/
  cmds : List NvCmd := []
  drives : Tbl Drive := []
  /-- Next number of an admitted command, and next tag at a drive or replica. -/
  nextId : Nat := 0
  nextTag : Nat := 0
  /-- STO_EVENTS. -/
  events : W32 := 0
  overlapWaits : Nat := 0
  lateCpl : Nat := 0
  entryAborts : Nat := 0
  /-- Writes of the controller held by the inhibit since AOD power-on: its part of AOD_NVW_HELD (R27). -/
  heldWrites : Nat := 0
  /-- Device totals of host reads and writes: commands and bytes (R330). -/
  readCmds : Nat := 0
  readBytes : Nat := 0
  writeCmds : Nat := 0
  writeBytes : Nat := 0
  /-- The labels of the drives are to be written once the inhibit lifts (R24, R342). -/
  labelsDue : Bool := false
  /-- Replica messages whose timeout has won, by target and tag: an answer that still comes is late (R68, R419). -/
  lateTags : List (Nat × Nat) := []
deriving DecidableEq, Repr

end Sys2Proof.Machine
end

