-- ==== Sys2Proof/Syntax.lean ====
section
/-! DEFINITION. The commands of the Renmer as a block: every row of spec/opcode_table.json is one constructor of Instr, its operands what the sender, the link partner or the surroundings supply. -/

namespace Sys2Proof

open Sys2Proof.Machine

/-- Who makes a register access: a Gaffer core, a host function, or the sideband window. -/
inductive Master where
  | core (n : Nat)
  | fn (n : Nat)
  | sideband
deriving DecidableEq, Repr

/-- Where a sideband-type message comes from: the sideband itself, or a PCIe vendor-defined message of a function (R511). -/
inductive MsgSrc where
  | sideband
  | vdm (fn : Nat)
deriving DecidableEq, Repr

/-- Where an inbound request comes from (R278, R280, R292, R294, R296). -/
inductive Inbound where
  /-- The accelerator on the port itself. -/
  | accelerator
  /-- A write that another cohort member received on its port and forwards into this member's region (R280). -/
  | forwarded (member : Nat)
  /-- At the lead, a transaction of one member for another that it has no link to: its message code and bytes (R292). -/
  | transit (member dest code : Nat)
  /-- A part of a group, or a write that reports earlier ones, from another member for the accelerator on this device's port (R296). -/
  | group (member : Nat) (reports : Bool)
  /-- At the lead, a host access of a member whose queues it carries; a read's bytes hold its length, and its answer goes back under the tag (R294). -/
  | hostAccess (member : Nat) (reports : Bool) (tag : Nat)
  /-- At the lead, a fault entry of a member (R294, R541). -/
  | fault (member : Nat)
  /-- Another member's access to a tenant's device memory here, through contract space 0x3; a read's bytes hold its length (R292). -/
  | memory (member tenant tag : Nat)
deriving DecidableEq, Repr



/-- The commands of the block: one constructor per row of spec/opcode_table.json, in its order. -/
inductive Instr where
  /-- INPUT_SAG (R22). Input below 36.0 V continuously for 10 µs asserts the non-volatile write inhibit and sets the sag event. -/
  | inputSag (vinMv : Nat)
  /-- RAIL_OUT_OF_WINDOW (R22). A rail outside its window for 1 µs asserts the inhibit and sets rail_window. -/
  | railOutOfWindow (rail mv : Nat)
  /-- UNDERVOLTAGE_LOCKOUT (R16). Input falling to 34.0 V asserts the inhibit and starts the ordered power-down of the main rails. -/
  | undervoltageLockout (vinMv : Nat)
  /-- LOCKOUT_END (R16). Input rising through 37.0 V with MOD_EN high ends the lockout and starts a cold reset. -/
  | lockoutEnd (vinMv : Nat)
  /-- OVERVOLTAGE_CUT_OFF (R16). Input above 56.0 V for 10 µs asserts the inhibit and switches the main rails off. -/
  | overvoltageCutOff (vinMv : Nat)
  /-- CUT_OFF_END (R16). Input at or below 54.0 V for 1 ms ends the cut-off and, with MOD_EN high, starts a cold reset. -/
  | cutOffEnd (vinMv : Nat)
  /-- MOD_EN_FALL (R29). MOD_EN falling asserts the inhibit and starts the ordered power-down. -/
  | modEnFall
  /-- MOD_EN_RISE (R28). MOD_EN high after strap sampling ramps the main rails in order and raises PWRGD_OUT. -/
  | modEnRise
  /-- INHIBIT_LIFT (R23). Input at or above 38.0 V for 1 ms with rails in window and MOD_EN high lifts the inhibit and admits held writes in order. -/
  | inhibitLift (vinMv : Nat)
  /-- INPUT_GLITCH (R23). A dip below 36.0 V ending within 10 µs sets the glitch event and is counted without asserting the inhibit. -/
  | inputGlitch (vinMv : Nat)
  /-- JUNCTION_THROTTLE (R19). The hottest junction reaching the throttle threshold starts the AOD pace governor lowering every core rail. -/
  | junctionThrottle (tempC : Nat)
  /-- THROTTLE_STEP (R19). Every 100 µs of throttling the governor lowers or raises every core rail by 10 mV. -/
  | throttleStep (tempC : Nat)
  /-- THERMAL_TRIP (R19). A sensor at 115 °C asserts THERM_TRIP_N, latches the trip and switches all rails but VAOD and V1P8_SB off within 100 µs. -/
  | thermalTrip (sensor tempC : Nat)
  /-- CORE_RAIL_OVERVOLTAGE (R19). A core rail measured above 0.92 V for 1 µs shuts down the main rails and sets the trip latch without THERM_TRIP_N. -/
  | coreRailOvervoltage (rail mv : Nat)
  /-- INPUT_CURRENT_LIMIT (R19). Input current reaching the limit engages the input stage limiter and sets ilim. -/
  | inputCurrentLimit (ma : Nat)
  /-- AOD_LIMIT_CTRL_WRITE (R20). A write to AOD_LIMIT_CTRL lowers fields field by field and refuses raises and out-of-range values. -/
  | aodLimitCtrlWrite (value : W32)
  /-- AOD_POWER_ON (R28). VAOD entering its window releases the AOD power-on reset, samples the straps and starts the sideband. -/
  | aodPowerOn (vinMv cohortId hostEn sbAddr recover : Nat)
  /-- MOD_RST_N_ASSERT (R61). MOD_RST_N low starts an immediate warm reset with no orderly phase. -/
  | modRstNAssert
  /-- ORDERLY_PHASE_END (R62). The end or 20 ms expiry of the orderly phase makes the warm reset take effect. -/
  | orderlyPhaseEnd
  /-- BOOT_ROM_START (R42). After PWRGD_OUT rises core 0 runs self-tests, selects and verifies a bank and hands over to the supervisor. -/
  | bootRomStart (selfTest trained dies : Nat)
  /-- COHORT_MEMBER_JOIN (R60). A member appearing on a cohort link is accepted by the lead and enters the merged descriptor table. -/
  | cohortMemberJoin (port member size hostEn serial : Nat) (sections : List (Nat × Bytes))
  /-- MEMBER_WAIT_EXPIRY (R60). member_wait_ms running out reports absent members as faults on the lead or leaves a member running alone. -/
  | memberWaitExpiry
  /-- LINK_FLIT_REPLAY (R76). A die-link flit failing its CRC is replayed and counted. -/
  | linkFlitReplay (link : Nat) (failed : Bool)
  /-- BRIDGE_ENTRY_OVERFLOW (R79). Outside the operating range an entry overflowing a receive bridge is dropped and counted. -/
  | bridgeEntryOverflow (domain : Nat)
  /-- PATROL_SCRUB (R89). The controller reads the next block of its stack, correcting and writing back correctable errors. -/
  | patrolScrub (ctrl : Nat) (errors : List (Nat × Byte))
  /-- PANE_ERROR_AGE_OUT (R90). A corrected-error table entry with no new event for age_hours ages out. -/
  | paneErrorAgeOut (ctrl pane : Nat)
  /-- PANE_WITHDRAW (R90). The placement engine moves a withdrawal candidate's contents to another pane and switches its translation entry. -/
  | paneWithdraw (pane : Nat)
  /-- ARMED_PANE_WRITE (R91). A write reaching an armed pane is held at its controller and a priority copy request is sent to Lehr. -/
  | armedPaneWrite (pa : Nat) (bytes : Bytes)
  /-- PANE_COPY_DONE (R91). Lehr's copy of a pane into the parison area completes, sets done(p) = parity and releases held writes in arrival order. -/
  | paneCopyDone (pane stallNs waitUs sram : Nat)
  /-- SELF_REFRESH_ENTER (R500). An HBM quadrant with no traffic for 100 µs in P1 enters self-refresh after writing admitted writes. -/
  | selfRefreshEnter (stack quadrant : Nat) (enter : Bool)
  /-- MEM_CTRL_WRITE (R96). A write to MEM_WITHDRAW_CTRL or MEM_SCRUB_CTRL sets in-range fields, or traps from a core not allowed. -/
  | memCtrlWrite (core offset : Nat) (value : W32)
  /-- REGISTER_WRITE (R13). A write to a register with no row of its own acts by its access code, with W1C clears settled by R69. -/
  | registerWrite (who : Master) (block offset : Nat) (value : W32)
  /-- QUEUE_ENABLE (R102). Writing enable = 1 resets the queue counters, advances the generation and enters RUNNING or PAUSED, or sets config_invalid. -/
  | queueEnable (fn q : Nat) (ctrl : W32)
  /-- QUEUE_DISABLE (R102). Writing enable = 0 enters STOPPING and completes fetched but unstarted commands with 0x21. -/
  | queueDisable (fn q : Nat)
  /-- QUEUE_DOORBELL (R104). A doorbell write advances the submission tail, or is ignored, or is refused and puts the queue in ERROR. -/
  | queueDoorbell (fn q tail : Nat)
  /-- CQ_HEAD_WRITE (R104). A write of HEP_QCQ_HEAD consumes records and re-evaluates the INTx level, or is ignored and sets bad_cq_head. -/
  | cqHeadWrite (fn q head : Nat)
  /-- COMMAND_FETCH (R106). A fetchable command is read from its submission slot with two completion slots reserved and given its handle. -/
  | commandFetch (fn q : Nat)
  /-- COMMAND_START (R109). A fetched command starts once its predecessor has started and its fence and wait are met, or completes with 0x80 on a failed counter. -/
  | commandStart (fn q : Nat)
  /-- SYNC_COUNTER_WRITE (R108). A software write to a sync counter sets its value, ordered against device signals. -/
  | syncCounterWrite (fn index : Nat) (value : W32)
  /-- COPY (R114). MOVER copies length bytes between two contract addresses. -/
  | copy (r : CmdRef)
  /-- FILL (R114). MOVER fills a destination with a repeated 8-byte pattern. -/
  | fill (r : CmdRef)
  /-- COPY_TENSOR (R114). MOVER copies a tensor between two descriptors of equal format, rank and dims. -/
  | copyTensor (r : CmdRef)
  /-- WRITE_IMM (R114). MOVER writes one 8-byte value, always acting as if fenced. -/
  | writeImm (r : CmdRef)
  /-- QUERY_DEVICE (R114). SERVICE writes the 64-byte capability block. -/
  | queryDevice (r : CmdRef)
  /-- PLACEMENT_QUERY (R267). SERVICE writes a device, tenant or job-rank placement block. -/
  | placementQuery (r : CmdRef)
  /-- TENANT_SET (R114). SERVICE changes a tenant quota, tile allotment or shaper rate, or the job's epoch settings, and appends a settings-store record. -/
  | tenantSet (r : CmdRef)
  /-- TENANT_QUIESCE (R111). SERVICE moves every queue of the tenant's function to PAUSED. -/
  | tenantQuiesce (r : CmdRef)
  /-- TENANT_RESUME (R111). SERVICE returns every queue of the tenant's function to RUNNING. -/
  | tenantResume (r : CmdRef)
  /-- PANE_MAP (R112). SERVICE maps every unmapped pane of a range, cleared to zero, all or nothing within quota. -/
  | paneMap (r : CmdRef)
  /-- PANE_UNMAP (R112). SERVICE unmaps every mapped pane of a range. -/
  | paneUnmap (r : CmdRef)
  /-- PROFILE_STAGE (R57). SERVICE checks a new profile, writes it to the inactive slot and sets pending_profile. -/
  | profileStage (r : CmdRef)
  /-- RESTART (R114). SERVICE starts the warm reset of R61 and R62 without a record of its own. -/
  | restart (r : CmdRef)
  /-- DIAG_READ (R548). SERVICE reads a register, the fault log or the telemetry ring into memory, optionally waiting for a fault entry. -/
  | diagRead (r : CmdRef)
  /-- MODEL_REGISTER (R167). TENSOR checks a model image and copies it into the tenant's memory as the registry copy. -/
  | modelRegister (r : CmdRef)
  /-- MODEL_LOAD (R168). TENSOR makes a registered model resident, optionally pinned. -/
  | modelLoad (r : CmdRef)
  /-- MODEL_EVICT (R168). TENSOR drops a model's residency and pin, optionally unregistering it after its running work units finish. -/
  | modelEvict (r : CmdRef)
  /-- MODEL_RUN (R169). TENSOR runs a registered model on a batch of rows. -/
  | modelRun (r : CmdRef)
  /-- MATMUL (R160). TENSOR computes D = op(A)·op(B), optionally from C, in fast or exact mode. -/
  | matmul (r : CmdRef)
  /-- PROJECT (R163). TENSOR multiplies by a basis Q in the down or up direction. -/
  | project (r : CmdRef)
  /-- WORK_UNIT_GRANT (R156). A work unit is granted a quarter at the quarter's element and starts on it. -/
  | workUnitGrant (r : CmdRef) (quarter : Nat) (others : List Nat) (k l lo n : Nat)
  /-- WORK_UNIT_DONE (R153). A work unit finishes on its tiles and writes its outputs. -/
  | workUnitDone (quarter tile sram : Nat)
  /-- QUARTER_REASSIGN (R156). A quarter whose allotment changes finishes its work unit, is cleared and changes owner. -/
  | quarterReassign (quarter : Nat)
  /-- MODEL_FETCH_DONE (R171). A model fetch from the registry copy into bench SRAM and tiles completes and its run starts. -/
  | modelFetchDone (tenant id : Nat)
  /-- RESIDENCY_MIGRATION (R173). Every 10 ms the placement engine may migrate resident models between a tenant's quarters. -/
  | residencyMigration (tenant id : Nat) (seats : List (Nat × Nat))
  /-- SHARD_DEFINE (R182). ANNEAL defines the job's parameter space and this rank's shard and writes the intake table. -/
  | shardDefine (r : CmdRef)
  /-- BUCKET_DEFINE (R184). ANNEAL defines a gradient bucket and copies its projection basis. -/
  | bucketDefine (r : CmdRef)
  /-- RULE_LOAD (R186). ANNEAL loads an optimizer rule, constants, program and factor table. -/
  | ruleLoad (r : CmdRef)
  /-- GROUP_MAP (R185). ANNEAL defines or replaces a layer group for write-back. -/
  | groupMap (r : CmdRef)
  /-- START (R188). STEP_CONTROL START opens exchange connections and runs the start barrier. -/
  | start (r : CmdRef)
  /-- START_BARRIER_DIGEST (R188). A member's barrier digest arrives; when all agree the job seed is set, initial weights are written and the job runs. -/
  | startBarrierDigest (rank : Nat) (digest chain : Bytes)
  /-- START_BARRIER_TIMEOUT (R188). The barrier not completing within exchange_timeout_ms completes START with 0x20. -/
  | startBarrierTimeout
  /-- SET_CONST (R187). STEP_CONTROL SET_CONST replaces a rule constant from a later step. -/
  | setConst (r : CmdRef)
  /-- RETRY (R187). STEP_CONTROL RETRY reruns a held step and restarts every ring's sequence and credit. -/
  | retry (r : CmdRef)
  /-- STOP (R181). STEP_CONTROL STOP moves the job to STOPPED after the current write-back or at once if held. -/
  | stop (r : CmdRef)
  /-- QUERY (R187). STEP_CONTROL QUERY writes the 64-byte job status block. -/
  | query (r : CmdRef)
  /-- INTAKE_TOKEN (R190). A token written to a token port is settled at its ring's element as accepted, duplicate, late, bad or a protocol error. -/
  | intakeToken (contributor : Nat) (token : Bytes)
  /-- INTAKE_TIMEOUT (R193). intake_timeout_ms winning against a bucket's last token holds the step with 0x20. -/
  | intakeTimeout
  /-- PARTIAL_MESSAGE (R195). A partials message arrives and the owner combines it into the gradient area. -/
  | partialMessage (imm : Nat) (payload : Bytes)
  /-- EXCHANGE_TIMEOUT (R196). exchange_timeout_ms winning before every owned slice is combined holds the step with 0x20. -/
  | exchangeTimeout (bucket : Option Nat)
  /-- SCALAR_MESSAGE (R198). A scalar message arrives on the fan-in tree; when complete the norm, flags and CRC decide the update. -/
  | scalarMessage (imm : Nat) (payload : Bytes)
  /-- GROUP_UPDATE_DONE (R207). The rule finishes on a layer group and its working weights are converted and sent as gather messages. -/
  | groupUpdateDone (sram : Nat)
  /-- GATHER_MESSAGE (R207). A gather message arrives; once the whole group is held it is written to the accelerators. -/
  | gatherMessage (imm : Nat) (payload : Bytes)
  /-- WEIGHTS_READY (R207). After a group's accelerator writes are visible the device writes s + 1 to its weights-ready flag. -/
  | weightsReady (group : Nat)
  /-- ABORT (R180). An ABORT message from a member holds step s before state write with the member's reason. -/
  | abort (src step reason : Nat)
  /-- EPOCH_TIMER_DUE (R216). epoch_timer_ms of the recorder's tally passing since the previous epoch point makes an epoch due. -/
  | epochTimerDue
  /-- EPOCH_ANNOUNCE (R217). A member receives the recorder's announcement of epoch e for step s_e and acknowledges it. -/
  | epochAnnounce (gen epoch step : Nat) (nonce : Bytes)
  /-- ANNOUNCE_ACK (R217). An acknowledgement of an announcement arrives on the fan-in tree at the recorder. -/
  | announceAck (gen src epoch : Nat)
  /-- SEGMENT_STAGE (R230). A segment is staged from the parison area, digested, encrypted and sent to every buddy. -/
  | segmentStage (sram : Nat)
  /-- SEGMENT_RECEIVE (R226). A buddy checks a segment's tag and digest, stores it in the incoming slot and acknowledges, or refuses it. -/
  | segmentReceive (gen src : Nat) (bytes : Bytes)
  /-- SEGMENT_ACK (R226). A buddy's acknowledgement frees parison panes; the last one sends the shard report. -/
  | segmentAck (gen buddy epoch seg kind : Nat)
  /-- SEGMENT_REFUSED (R226). A refused segment is sent again up to three times, and a fourth failure discards the epoch with 0x31. -/
  | segmentRefused (gen buddy epoch seg : Nat)
  /-- SHARD_REPORT (R231). The recorder receives a shard report; with all reports it builds, signs and sends the manifest to the standby. -/
  | shardReport (gen epoch rank segments scope first count : Nat) (digest : Bytes) (buddies legs : List (Nat × Nat))
  /-- MANIFEST_STORE (R230). The standby checks the manifest signature, stores it as COMMITTED and acknowledges, the commit point. -/
  | manifestStore (gen : Nat) (manifest : Bytes)
  /-- MANIFEST_ACK (R230). The recorder marks the manifest COMMITTED and sends COMMIT down the fan-out tree. -/
  | manifestAck (gen epoch : Nat)
  /-- COMMIT (R234). A member stores the manifest, releases older slots and manifests and ends TAKE commands with 0x00. -/
  | commit (gen : Nat) (manifest : Bytes)
  /-- DISCARD (R232). A member releases held writes, frees parison panes, abandons legs and empties incoming slots of the epoch. -/
  | discard (gen epoch cause : Nat)
  /-- ONWARD_LEG_DONE (R227). An onward leg has written a segment, or finishes writing its segments and manifest, and frees parison panes. -/
  | onwardLegDone (epoch kind : Nat) (seg : Option Nat) (ok : Bool)
  /-- TAKE (R239). CHECKPOINT TAKE makes an epoch due and completes when that epoch ends. -/
  | take (ref : Option CmdRef)
  /-- POLICY (R239). CHECKPOINT POLICY sets this member's onward legs from the next epoch point. -/
  | policy (r : CmdRef)
  /-- EPOCH_QUERY (R240). LEHR writes the epoch status block. -/
  | epochQuery (r : CmdRef)
  /-- RESTORE (R235). LEHR fills this member's shard from a committed epoch with the same membership. -/
  | restore (r : CmdRef) (chains : List Bytes) (confirmed : Bool)
  /-- SEGMENT_PULL_DONE (R236). A pulled segment arrives, is checked and written to scope, or is pulled from the next holder. -/
  | segmentPullDone (holder rank : Nat) (seg : Option Nat) (bytes : Bytes)
  /-- PULL_TIMEOUT (R559). A pull not answered within 500 ms moves to the next holder and its late data is discarded. -/
  | pullTimeout (rank : Nat) (seg : Option Nat)
  /-- PANE_REPAIR (R238). Lehr repairs a pane from the parison copy or a buddy replica and Anneal reruns the update. -/
  | paneRepair (pane : Nat)
  /-- HEARTBEAT_SEND (R248). Every 1.0 ms a member sends a heartbeat to each member of its watch set. -/
  | heartbeatSend
  /-- HEARTBEAT (R248). A heartbeat arrives and restarts the watcher's suspicion timer, or is refused for a stale generation. -/
  | heartbeat (src gen : Nat)
  /-- SUSPICION_TIMEOUT (R249). 3.0 ms without a heartbeat makes a peer suspect and sends a suspect report to its confirmer. -/
  | suspicionTimeout (rank : Nat)
  /-- SUSPICION_LAPSE (R249). probe_window_us plus 10 ms without a LOST naming the suspect ends the suspicion. -/
  | suspicionLapse (rank : Nat)
  /-- SUSPECT_REPORT (R251). A confirmer receives a suspect report and starts probing the suspect. -/
  | suspectReport (gen suspect watcher : Nat) (recent relay : Bool)
  /-- PROBE (R252). A probe arrives and is answered with a probe reply. -/
  | probe (src gen : Nat)
  /-- PROBE_REPLY (R252). A probe reply clears the suspicion and is counted as a path fault. -/
  | probeReply (gen src : Nat)
  /-- PROBE_WINDOW_EXPIRY (R252). No reply within probe_window_us declares the suspect lost and sends LOST. -/
  | probeWindowExpiry (suspect : Nat)
  /-- LOST (R253). A member adopts the new generation, errors QPs and windows to the lost ranks and holds the step. -/
  | lost (lost : List Nat) (gen epoch root : Nat)
  /-- SELF_FENCE (R250). self_fence_ms without any watch-set heartbeat holds the step, stops accelerator writes and fences the device. -/
  | selfFence
  /-- WITHDRAW (R287). The recorder receiving WITHDRAW declares the device lost without a probe. -/
  | withdraw (rank gen : Nat)
  /-- RESHARD (R259). LEHR re-shards a committed epoch onto a target member table. -/
  | reshard (ref : Option CmdRef) (status epoch flags : Nat) (exclude : List Nat) (table manifest : Bytes)
  /-- RESHARD_COMPLETE (R262). With every member's new shard written the start barrier runs and the job resumes at step s_E. -/
  | reshardComplete (digests : List (Nat × Bytes × Bytes)) (recoveryUs : Nat)
  /-- DL_ACTIVE (R274). A root port's link becoming active lets core 1 enumerate the accelerator's function 0. -/
  | dlActive (port speed width : Nat) (flit : Bool) (aperture : List BarInfo)
  /-- PEER_COMPLETION (R277). A completion for a peer engine read arrives and wins or is discarded as late. -/
  | peerCompletion (port tag status : Nat) (bytes : Bytes)
  /-- PEER_COMPLETION_TIMEOUT (R277). 10.0 ms without completion ends the read's command with 0x20 and quarantines the tag. -/
  | peerCompletionTimeout (port tag : Nat)
  /-- PEER_TAG_QUARANTINE_END (R277). 1.0 ms after a timeout the tag may be reused. -/
  | peerTagQuarantineEnd (port tag : Nat)
  /-- INBOUND_WRITE (R278). An accelerator request is decoded to the intake window, storage doorbell window or dropped. -/
  | inboundWrite (origin : Inbound) (port addr : Nat) (read : Bool) (bytes : Bytes)
  /-- SLOT_POWER_ON (R282). pwr_off written 0 or automatic power-on drives APT_PWREN high and starts the slot power-up. -/
  | slotPowerOn (port : Nat) (auto : Bool)
  /-- SLOT_REFCLK_START (R282). 100 ms after power-on the reference clock of the slot is driven. -/
  | slotRefclkStart (port : Nat)
  /-- SLOT_PERST_RELEASE (R282). 100 ms after the clock starts APT_PERST_N is raised. -/
  | slotPerstRelease (port : Nat)
  /-- SLOT_POWER_OFF (R283). pwr_off written 1 starts the orderly slot power-down. -/
  | slotPowerOff (port : Nat)
  /-- ATTENTION_INDICATOR_SET (R281). A write of atn_ind lights, blinks or turns off the attention indicator. -/
  | attentionIndicatorSet (port value : Nat)
  /-- POWER_INDICATOR_SET (R281). A write of pwr_ind lights, blinks or turns off the power indicator. -/
  | powerIndicatorSet (port value : Nat)
  /-- PRESENCE_CHANGE (R284). A debounced presence change powers an off slot under the automatic policy. -/
  | presenceChange (port : Nat) (present : Bool)
  /-- ATTENTION_BUTTON (R284). A debounced button press starts or cancels the 5 s window or is refused on a job port. -/
  | attentionButton (port : Nat)
  /-- BUTTON_WINDOW_END (R284). The 5 s window ending powers an ON slot down or an OFF slot up. -/
  | buttonWindowEnd (port : Nat)
  /-- POWER_FAULT (R285). APT_PWRFLT_N low for 20 µs cuts the slot's reset and power and sets FAULT. -/
  | powerFault (port : Nat)
  /-- SURPRISE_DOWN (R286). Loss of link or presence on an ON slot refuses requests, ends reads with 0x11 and discards unsent writes. -/
  | surpriseDown (port : Nat)
  /-- LINK_TRAIN_RETRY (R289). Every 1.0 s a link that failed to train is retried and failures are counted. -/
  | linkTrainRetry (port : Nat) (failed : Bool)
  /-- COHORT_LINK_DOWN (R293). A cohort link going down makes its partner suspect and moves routes. -/
  | cohortLinkDown (port : Nat)
  /-- BME_CLEAR (R315). A configuration write clearing Bus Master Enable closes the function's DMA gate. -/
  | bmeClear (fn : Nat)
  /-- BME_SET (R315). Setting Bus Master Enable again reopens the DMA gate. -/
  | bmeSet (fn : Nat)
  /-- INTERRUPT_DISABLE_WRITE (R311). Setting or clearing Interrupt Disable sends Deassert_INTA or Assert_INTA as the level requires. -/
  | interruptDisableWrite (fn : Nat) (disable : Bool)
  /-- FLR (R317). Initiate Function Level Reset closes the gate, drops commands, resets tenant state and disables the queues within 8 ms. -/
  | flr (fn : Nat)
  /-- HOT_RESET (R316). A received hot reset resets all functions as FLR and retrains the link. -/
  | hotReset
  /-- HOST_LINK_DOWN (R316). Loss of Data Link Layer active resets all functions as FLR and retrains. -/
  | hostLinkDown
  /-- FUNDAMENTAL_RESET (R316). HEP_PERST_N asserted resets all functions, clears sticky bits and takes the link down. -/
  | fundamentalReset
  /-- BAR4_READ (R303). A host read of BAR4 is served through pane translation or completes with UR or CA. -/
  | bar4Read (fn off len : Nat)
  /-- BAR4_WRITE (R303). A host write of BAR4 is applied through pane translation or dropped and counted. -/
  | bar4Write (fn off : Nat) (bytes : Bytes)
  /-- HOST_READ_COMPLETION (R314). A completion for a host read arrives and completes it or is discarded as late. -/
  | hostReadCompletion (fn tag status : Nat) (bytes : Bytes)
  /-- HOST_READ_TIMEOUT (R314). The completion timeout winning ends the command with 0x20, logs AER and quarantines the tag. -/
  | hostReadTimeout (fn tag : Nat)
  /-- HOST_TAG_QUARANTINE_END (R314). 1.0 ms after a timeout the host tag may be reused. -/
  | hostTagQuarantineEnd (fn tag : Nat)
  /-- HB_CTRL_WRITE (R322). A write of armed arms or disarms the driver heartbeat, resuming a frozen function on 1. -/
  | hbCtrlWrite (fn : Nat) (value : W32)
  /-- HEP_HEARTBEAT (R320). A write of HEP_HEARTBEAT restarts the function's loss timer. -/
  | hepHeartbeat (fn : Nat)
  /-- DRIVER_LOSS_EXPIRY (R320). The loss timer winning declares the driver lost and freezes the function. -/
  | driverLossExpiry (fn : Nat) (met : Bool)
  /-- NVME_SQ_TAIL_DOORBELL (R335). An NVMe submission tail doorbell makes new commands fetchable for admission in order. -/
  | nvmeSqTailDoorbell (fn q tail : Nat)
  /-- NVME_CQ_HEAD_DOORBELL (R326). An NVMe completion head doorbell frees entries and re-evaluates the INTx level. -/
  | nvmeCqHeadDoorbell (fn q head : Nat)
  /-- ACCEL_PAIR_DOORBELL (R329). An accelerator pair doorbell in the storage doorbell window is accepted, dropped or flagged invalid. -/
  | accelPairDoorbell (port off : Nat) (bytes : Bytes)
  /-- INTMS_WRITE (R326). Writing INTMS bit 0 removes every NVMe queue from the INTx level. -/
  | intmsWrite (fn : Nat) (value : W32)
  /-- INTMC_WRITE (R326). Writing INTMC bit 0 restores the NVMe queues to the INTx level. -/
  | intmcWrite (fn : Nat) (value : W32)
  /-- CC_EN_CLEAR (R344). Clearing CC.EN drops queued and unhanded commands without entries. -/
  | ccEnClear (fn : Nat)
  /-- CC_SHN_SET (R344). Setting CC.SHN stops fetching, completes admitted commands and flushes every drive. -/
  | ccShnSet (fn shn : Nat)
  /-- CREATE_IO_SQ (R330). Admin Create I/O Submission Queue. -/
  | createIoSq (fn : Nat)
  /-- CREATE_IO_CQ (R326). Admin Create I/O Completion Queue, which must name vector 0 when IEN = 1. -/
  | createIoCq (fn : Nat)
  /-- DELETE_IO_SQ (R330). Admin Delete I/O Submission Queue. -/
  | deleteIoSq (fn : Nat)
  /-- DELETE_IO_CQ (R330). Admin Delete I/O Completion Queue. -/
  | deleteIoCq (fn : Nat)
  /-- GET_LOG_PAGE (R330). Admin Get Log Page of a supported log. -/
  | getLogPage (fn : Nat)
  /-- IDENTIFY (R330). Admin Identify for CNS 0x00 to 0x03. -/
  | identify (fn : Nat)
  /-- NVME_ABORT (R330). Admin Abort ends a fetched but unadmitted command with Command Abort Requested. -/
  | nvmeAbort (fn : Nat)
  /-- SET_FEATURES (R330). Admin Set Features of a supported feature. -/
  | setFeatures (fn : Nat)
  /-- GET_FEATURES (R330). Admin Get Features of a supported feature. -/
  | getFeatures (fn : Nat)
  /-- ASYNCHRONOUS_EVENT_REQUEST (R330). Admin Asynchronous Event Request, up to four outstanding. -/
  | asynchronousEventRequest (fn : Nat)
  /-- FIRMWARE_IMAGE_DOWNLOAD (R531). Admin download of a 4 KiB-aligned piece of an image into the inactive bank. -/
  | firmwareImageDownload (fn : Nat)
  /-- FIRMWARE_COMMIT (R531). Admin Firmware Commit verifies and activates a slot by its commit action. -/
  | firmwareCommit (fn : Nat) (recent : Bool) (fail : Option Nat) (restart : Option (Nat × Nat))
  /-- CREATE_ACCEL_QUEUE_PAIR (R328). Vendor admin command creating an accelerator queue pair in a port's aperture. -/
  | createAccelQueuePair (fn : Nat)
  /-- DELETE_ACCEL_QUEUE_PAIR (R328). Vendor admin command deleting an accelerator queue pair. -/
  | deleteAccelQueuePair (fn : Nat)
  /-- NVME_READ (R336). I/O Read returning the data of the last write admitted before it. -/
  | nvmeRead (c q : Nat)
  /-- NVME_WRITE (R337). I/O Write encrypted and completed once every drive and replica holding it has completed. -/
  | nvmeWrite (c q : Nat)
  /-- NVME_FLUSH (R339). I/O Flush completing when every earlier admitted write is durable. -/
  | nvmeFlush (c q : Nat)
  /-- WRITE_ZEROES (R334). I/O Write Zeroes passed to the drives. -/
  | writeZeroes (c q : Nat)
  /-- DATASET_MANAGEMENT (R334). I/O Dataset Management deallocate passed to the drives. -/
  | datasetManagement (c q : Nat)
  /-- OVERLAP_RELEASE (R336). An admitted command whose overlapping predecessors complete is handed to its drive. -/
  | overlapRelease
  /-- DRIVE_COMPLETION (R337). A drive completes a command and the entry is posted in admission order. -/
  | driveCompletion (drive tag : Nat) (ok : Bool) (sram : Nat) (bytes : Bytes)
  /-- DRIVE_TIMEOUT (R341). drive_timeout_ms winning ends the command with 0x20 and starts a drive controller reset. -/
  | driveTimeout (drive tag : Nat)
  /-- DRIVE_RESET_DONE (R341). CSTS.RDY setting again ends the reset and hands the waiting commands to the drive. -/
  | driveResetDone (drive : Nat)
  /-- DRIVE_LOST (R342). Presence lost or a link down for 100 ms makes its namespaces not ready. -/
  | driveLost (drive : Nat) (presence : Bool)
  /-- DRIVE_REINSERT (R342). A reinserted drive is enumerated and its namespaces return if their label data is intact. -/
  | driveReinsert (drive : Nat) (info : DriveInfo)
  /-- DRIVE_TRAIN_RETRY (R340). Every 1.0 s a drive link that failed to train is retried. -/
  | driveTrainRetry (drive : Nat) (info : Option DriveInfo)
  /-- REPLICA_ACK (R343). A remote replica's answer completes its share of a write or flush, or drops the replica. -/
  | replicaAck (target tag status : Nat) (bytes : Bytes)
  /-- REPLICA_TIMEOUT (R419). No replica answer within drive_timeout_ms counts as a failed replica. -/
  | replicaTimeout (target tag : Nat)
  /-- REPLICA_WRITE (R419). A peer receives a replica write or flush SEND and answers once its drive completes. -/
  | replicaWrite (target : Nat) (message : Bytes)
  /-- REPLICA_REBUILD_DONE (R343). A dropped replica's full-copy rebuild completes. -/
  | replicaRebuildDone (tenant nsid target : Nat)
  /-- FRAME_RECEIVE (R354). A received frame is checked and admitted to the packet buffer or dropped. -/
  | frameReceive (port : Nat) (bytes : Bytes) (fecCorrected : Nat) (fecOk fcsOk : Bool)
  /-- PFC_REPEAT (R355). Every half pause time under XOFF the PFC frame is sent again. -/
  | pfcRepeat (port prio : Nat)
  /-- PFC_FRAME_RECEIVE (R389). A received PFC frame pauses or unpauses the leaf queues of its priorities. -/
  | pfcFrameReceive (port enable : Nat) (quanta : List Nat)
  /-- PAUSE_EXPIRY (R389). The pause time of a received PFC frame running out makes the queues eligible again. -/
  | pauseExpiry (port prio : Nat)
  /-- PCS_ALIGNMENT_LOSS (R352). A port whose PCS loses alignment goes down until it retrains. -/
  | pcsAlignmentLoss (port : Nat)
  /-- FRAME_PARSE (R356). The parser takes a frame, extracts template fields, matches patterns and picks a class. -/
  | frameParse (sram : Nat)
  /-- LANE_PROCESS (R364). A processing lane checks checksums, runs ESP inbound and places the packet in its destination queue. -/
  | laneProcess (lane sram : Nat)
  /-- REORDER_SKIP (R365). 20 µs without the next expected sequence skips it. -/
  | reorderSkip (port : Nat)
  /-- FRAGMENT_TIMEOUT (R368). A datagram incomplete 30 ms after its first fragment is dropped. -/
  | fragmentTimeout (index : Nat)
  /-- LEAF_ENQUEUE (R390). A source places a frame in a leaf queue, admitted, marked, dropped or held. -/
  | leafEnqueue (src : TxSrc)
  /-- TRANSMIT_START (R383). The scheduler selects the next frame for a port and it begins transmission. -/
  | transmitStart (port sram : Nat)
  /-- SHAPER_REFILL (R386). The shaper level rises by rate ÷ 8,000 bytes per µs of tally up to burst. -/
  | shaperRefill (us : Nat)
  /-- HWM_READ (R393). Reading a high-water mark returns and clears it. -/
  | hwmRead (offset : Nat)
  /-- CREATE (R400). A control-ring CREATE entry creates a tenant QP in INIT. -/
  | create (tenant : Nat)
  /-- CONNECT (R400). A control-ring CONNECT entry connects a QP to its peer and moves it to RTS. -/
  | connect (tenant : Nat) (reorders : Bool)
  /-- DESTROY (R400). A control-ring DESTROY entry finishes running WRs and frees the QP context. -/
  | destroy (tenant : Nat)
  /-- RDMA_WRITE (R402). A WRITE work request sends data into a peer window. -/
  | rdmaWrite (qpn : Nat)
  /-- RDMA_WRITE_WITH_IMMEDIATE (R402). A WRITE with Immediate work request. -/
  | rdmaWriteWithImmediate (qpn : Nat)
  /-- RDMA_SEND (R402). A SEND work request. -/
  | rdmaSend (qpn : Nat)
  /-- RDMA_SEND_WITH_IMMEDIATE (R402). A SEND with Immediate work request. -/
  | rdmaSendWithImmediate (qpn : Nat)
  /-- RDMA_READ (R402). A READ work request fetching data from a peer window. -/
  | rdmaRead (qpn : Nat)
  /-- INBOUND_PACKET (R414). An inbound RoCEv2 packet is checked, held or placed in the reorder window and completes messages in PSN order. -/
  | inboundPacket (cnpDue : Bool) (sram : Nat)
  /-- ACK_RECEIVE (R416). An ACK retires acknowledged packets and restarts the local ACK timer. -/
  | ackReceive
  /-- NAK_RECEIVE (R416). A sequence NAK retransmits the missing packet or from it onward. -/
  | nakReceive
  /-- RNR_NAK_RECEIVE (R417). An RNR NAK is retried after the peer's delay up to rnr_retry times. -/
  | rnrNakReceive
  /-- HOLE_TIMEOUT (R415). The hole timer reaching hole_timeout_us sends one sequence NAK for e. -/
  | holeTimeout (qpn : Nat)
  /-- ACK_TIMEOUT (R416). The local ACK timeout retransmits from the oldest unacknowledged PSN or reaches the retry limit. -/
  | ackTimeout (qpn : Nat)
  /-- CNP_RECEIVE (R397). A received CNP halves the QP's rate. -/
  | cnpReceive
  /-- RATE_RECOVERY (R397). Every 55 µs without a CNP the QP's rate recovers by 1/16. -/
  | rateRecovery (qpn : Nat)
  /-- WINDOW_OPEN (R407). SERVICE opens a memory window and returns its rkey. -/
  | windowOpen (r : CmdRef)
  /-- WINDOW_REVOKE (R409). SERVICE revokes a window at its admission point and completes once admitted messages are placed. -/
  | windowRevoke (r : CmdRef)
  /-- DRAIN_LIMIT (R410). An admitted message incomplete drain_limit_ms after the revoke point puts its QP in ERROR. -/
  | drainLimit (window : Nat)
  /-- TARGET_CONNECT (R418). Core 2 connects a remote target through the setup QP at start and after any loss. -/
  | targetConnect (target : Nat) (serial : Option Bytes) (serves : Bool)
  /-- SA_INSTALL (R370). SERVICE unwraps a tenant's SA key and installs the SA. -/
  | saInstall (r : CmdRef)
  /-- SA_REMOVE (R370). SERVICE removes an SA and deletes its key. -/
  | saRemove (r : CmdRef)
  /-- NS_CREATE (R332). SERVICE creates a namespace with a new XTS key pair. -/
  | nsCreate (r : CmdRef)
  /-- NS_DELETE (R332). SERVICE deletes a namespace after admitted commands finish, zeroizing its keys. -/
  | nsDelete (r : CmdRef)
  /-- NS_FORMAT (R332). SERVICE replaces a namespace's keys, deallocates every LBA and sets the new format. -/
  | nsFormat (r : CmdRef)
  /-- GET_NONCE (R436). Crucible returns a fresh nonce for one signed command. -/
  | getNonce (src : MsgSrc)
  /-- GET_STATUS (R436). Crucible returns its status. -/
  | getStatus (src : MsgSrc)
  /-- SELF_TEST (R444). Crucible runs its self-tests on demand. -/
  | selfTest (src : MsgSrc) (failed : Nat)
  /-- GET_DTK_CERT (R439). Crucible returns the DTK certificate. -/
  | getDtkCert (src : MsgSrc)
  /-- ZEROIZE (R451). Crucible zeroizes at level 1, or at levels 2 and 3 when signed. -/
  | zeroize (src : MsgSrc) (level : Nat) (nonce sig : Bytes)
  /-- OWNER_RELEASE (R438). A signed OWNER_RELEASE zeroizes at level 2 so the next start is unowned. -/
  | ownerRelease (src : MsgSrc) (nonce sig : Bytes)
  /-- DEBUG_UNLOCK (R450). A signed DEBUG_UNLOCK zeroizes and opens JTAG instructions of scope 1 or 2. -/
  | debugUnlock (src : MsgSrc) (scope : Nat) (nonce sig : Bytes)
  /-- NONCE_EXPIRY (R436). A nonce unused for 10 s expires. -/
  | nonceExpiry (nonce : Bytes)
  /-- ENVIRONMENT_ZEROIZE (R425). Crucible supply or junction out of limits for 100 ns zeroizes every volatile CSP. -/
  | environmentZeroize
  /-- ENTROPY_TEST_FAIL (R442). A failed health test discards its window and a second within 1 s enters the error state. -/
  | entropyTestFail (within1s : Bool)
  /-- DRBG_RESEED (R443). The DRBG reseeds after 2^20 requests or 1 s of tally. -/
  | drbgReseed
  /-- MASK_REKEY (R443). The mask generator is rekeyed from the DRBG every 2^20 blocks. -/
  | maskRekey
  /-- PERIODIC_SELF_TEST (R444). A round or GHASH unit is taken out of rotation and retested in turn. -/
  | periodicSelfTest (pass : Bool)
  /-- GET_VERSION (R441). SPDM GET_VERSION. -/
  | getVersion (src : MsgSrc)
  /-- GET_CAPABILITIES (R441). SPDM GET_CAPABILITIES. -/
  | getCapabilities (src : MsgSrc)
  /-- NEGOTIATE_ALGORITHMS (R441). SPDM NEGOTIATE_ALGORITHMS. -/
  | negotiateAlgorithms (src : MsgSrc)
  /-- GET_DIGESTS (R441). SPDM GET_DIGESTS. -/
  | getDigests (src : MsgSrc)
  /-- GET_CERTIFICATE (R441). SPDM GET_CERTIFICATE of a certificate chain slot. -/
  | getCertificate (src : MsgSrc) (slot offset len : Nat)
  /-- CHALLENGE (R441). SPDM CHALLENGE signed with IDK. -/
  | challenge (src : MsgSrc) (slot : Nat) (nonce : Bytes)
  /-- GET_MEASUREMENTS (R441). SPDM GET_MEASUREMENTS with signature. -/
  | getMeasurements (src : MsgSrc) (index : Nat) (nonce : Bytes)
  /-- GAF_MB_PUSH (R458). A core push stores an entry with bit 63 set, or sets overrun on a full FIFO. -/
  | gafMbPush (core : Option Nat) (fifo entry : Nat)
  /-- GAF_MB_POP (R459). A pop returns the head entry, or the empty value of the FIFO's mode. -/
  | gafMbPop (core : Option Nat) (fifo : Nat)
  /-- GAF_MB_CTRL_WRITE (R463). A write sets a FIFO's mode and framing only while its count is 0, else sets ctrl_ignored. -/
  | gafMbCtrlWrite (core fifo : Nat) (value : W32)
  /-- GAF_WDT_KICK (R464). A write restarts the writing core's watchdog. -/
  | gafWdtKick (core : Nat)
  /-- WATCHDOG_EXPIRY (R464). A core's watchdog winning against a kick restarts the core. -/
  | watchdogExpiry (core outcome recent : Nat) (fifos : List Nat)
  /-- MACHINE_CHECK (R465). An uncorrectable local SRAM error restarts the core. -/
  | machineCheck (core outcome recent : Nat) (fifos : List Nat)
  /-- PROGRAM_FAULT (R469). A user-mode trap stops an open-core program, which is reloaded under restart_policy 1. -/
  | programFault (core : Nat)
  /-- TALLY_READ (R498). Kernel service returning the core's tally. -/
  | tallyRead (core : Nat)
  /-- TIMER_SET (R498). Kernel service arming or disarming a one-shot alarm. -/
  | timerSet (core : Nat)
  /-- WAIT (R498). Kernel service yielding until a FIFO is ready or the alarm falls due. -/
  | wait (core : Nat) (due : Bool)
  /-- KERNEL_COPY (R498). Kernel service issuing a MOVER COPY under the bound tenant. -/
  | kernelCopy (core : Nat)
  /-- PKT_RECV (R498). Kernel service copying the next slow-path packet to the program. -/
  | pktRecv (core : Nat)
  /-- PKT_SEND (R498). Kernel service sending a frame through a leaf queue of the bound tenant. -/
  | pktSend (core : Nat)
  /-- PKT_REINJECT (R498). Kernel service returning a packet to the parser. -/
  | pktReinject (core : Nat)
  /-- KERNEL_SA_INSTALL (R498). Kernel service importing an SA key and installing the SA. -/
  | kernelSaInstall (core : Nat)
  /-- KERNEL_SA_REMOVE (R498). Kernel service removing an SA of the bound tenant. -/
  | kernelSaRemove (core : Nat)
  /-- LOG (R498). Kernel service appending a telemetry record. -/
  | log (core : Nat)
  /-- EXIT (R498). Kernel service stopping the program without logging a fault. -/
  | exit (core : Nat)
  /-- ALARM_INTERRUPT (R495). The core's tally alarm falls due and is taken at a boundary while ie = 1. -/
  | alarmInterrupt (core : Nat)
  /-- SUPERVISOR_SIGNAL (R495). The signal from core 0 is taken as an interrupt while ie = 1. -/
  | supervisorSignal (core : Nat)
  /-- ADD (R479). rd = ra + rb. -/
  | add (core : Nat) (rd ra rb : Nat)
  /-- SUB (R479). rd = ra − rb. -/
  | sub (core : Nat) (rd ra rb : Nat)
  /-- AND (R479). rd = ra AND rb. -/
  | and (core : Nat) (rd ra rb : Nat)
  /-- OR (R479). rd = ra OR rb. -/
  | or (core : Nat) (rd ra rb : Nat)
  /-- XOR (R479). rd = ra XOR rb. -/
  | xor (core : Nat) (rd ra rb : Nat)
  /-- SLL (R479). Left shift by rb[4:0]. -/
  | sll (core : Nat) (rd ra rb : Nat)
  /-- SRL (R479). Logical right shift by rb[4:0]. -/
  | srl (core : Nat) (rd ra rb : Nat)
  /-- SRA (R479). Arithmetic right shift by rb[4:0]. -/
  | sra (core : Nat) (rd ra rb : Nat)
  /-- SLT (R479). Signed set-less-than. -/
  | slt (core : Nat) (rd ra rb : Nat)
  /-- SLTU (R479). Unsigned set-less-than. -/
  | sltu (core : Nat) (rd ra rb : Nat)
  /-- CLZ (R483). rd = leading zero count of ra. -/
  | clz (core : Nat) (rd ra : Nat)
  /-- PERMR (R484). Byte permute with the selector from rb. -/
  | permr (core : Nat) (rd ra rb : Nat)
  /-- MUL (R479). Low 32 bits of the product. -/
  | mul (core : Nat) (rd ra rb : Nat)
  /-- MULHS (R479). High 32 bits of the signed product. -/
  | mulhs (core : Nat) (rd ra rb : Nat)
  /-- MULHU (R479). High 32 bits of the unsigned product. -/
  | mulhu (core : Nat) (rd ra rb : Nat)
  /-- DIV (R480). Signed quotient, never trapping. -/
  | div (core : Nat) (rd ra rb : Nat)
  /-- DIVU (R480). Unsigned quotient, never trapping. -/
  | divu (core : Nat) (rd ra rb : Nat)
  /-- REM (R480). Signed remainder, never trapping. -/
  | rem (core : Nat) (rd ra rb : Nat)
  /-- REMU (R480). Unsigned remainder, never trapping. -/
  | remu (core : Nat) (rd ra rb : Nat)
  /-- ADDI (R478). rd = ra + sext(imm16). -/
  | addi (core : Nat) (rd ra imm : Nat)
  /-- ANDI (R478). rd = ra AND zext(imm16). -/
  | andi (core : Nat) (rd ra imm : Nat)
  /-- ORI (R478). rd = ra OR zext(imm16). -/
  | ori (core : Nat) (rd ra imm : Nat)
  /-- XORI (R478). rd = ra XOR zext(imm16). -/
  | xori (core : Nat) (rd ra imm : Nat)
  /-- SLTI (R478). Signed compare with an immediate. -/
  | slti (core : Nat) (rd ra imm : Nat)
  /-- SLTIU (R478). Unsigned compare with an immediate. -/
  | sltiu (core : Nat) (rd ra imm : Nat)
  /-- LUI (R478). rd = imm16 × 2^16. -/
  | lui (core : Nat) (rd imm : Nat)
  /-- SLLI (R478). Left shift by an immediate. -/
  | slli (core : Nat) (rd ra imm : Nat)
  /-- SRLI (R478). Logical right shift by an immediate. -/
  | srli (core : Nat) (rd ra imm : Nat)
  /-- SRAI (R478). Arithmetic right shift by an immediate. -/
  | srai (core : Nat) (rd ra imm : Nat)
  /-- LB (R478). Load a sign-extended byte. -/
  | lb (core : Nat) (rd base imm : Nat)
  /-- LBU (R478). Load a zero-extended byte. -/
  | lbu (core : Nat) (rd base imm : Nat)
  /-- LH (R478). Load a sign-extended half-word. -/
  | lh (core : Nat) (rd base imm : Nat)
  /-- LHU (R478). Load a zero-extended half-word. -/
  | lhu (core : Nat) (rd base imm : Nat)
  /-- LW (R478). Load a word. -/
  | lw (core : Nat) (rd base imm : Nat)
  /-- LDP (R478). One 64-bit load into an even-odd register pair. -/
  | ldp (core : Nat) (rd base imm : Nat)
  /-- SB (R478). Store a byte. -/
  | sb (core : Nat) (rs base imm : Nat)
  /-- SH (R478). Store a half-word. -/
  | sh (core : Nat) (rs base imm : Nat)
  /-- SW (R478). Store a word. -/
  | sw (core : Nat) (rs base imm : Nat)
  /-- STP (R478). One 64-bit store of an even-odd register pair. -/
  | stp (core : Nat) (rs base imm : Nat)
  /-- BEQ (R478). Branch if equal. -/
  | beq (core : Nat) (ra rb imm : Nat)
  /-- BNE (R478). Branch if not equal. -/
  | bne (core : Nat) (ra rb imm : Nat)
  /-- BLT (R478). Branch if less, signed. -/
  | blt (core : Nat) (ra rb imm : Nat)
  /-- BGE (R478). Branch if greater or equal, signed. -/
  | bge (core : Nat) (ra rb imm : Nat)
  /-- BLTU (R478). Branch if less, unsigned. -/
  | bltu (core : Nat) (ra rb imm : Nat)
  /-- BGEU (R478). Branch if greater or equal, unsigned. -/
  | bgeu (core : Nat) (ra rb imm : Nat)
  /-- J (R478). Jump by a signed word offset. -/
  | j (core : Nat) (imm : Nat)
  /-- JAL (R478). Jump and write the return address to g31. -/
  | jal (core : Nat) (imm : Nat)
  /-- JALR (R478). Jump to register plus offset, writing the return address to rd. -/
  | jalr (core : Nat) (rd ra imm : Nat)
  /-- BFX (R482). Extract a bit field, zero- or sign-extended. -/
  | bfx (core : Nat) (rd ra lsb width : Nat) (sx : Bool)
  /-- BFI (R482). Insert a bit field into rd. -/
  | bfi (core : Nat) (rd ra lsb width : Nat)
  /-- PERM (R484). Byte permute with an immediate selector. -/
  | perm (core : Nat) (rd ra sel : Nat)
  /-- REP (R486). Execute the next instruction n times without taking interrupts. -/
  | rep (core : Nat) (fromReg inc : Bool) (ra count : Nat)
  /-- REPI (R488). Execute the next instruction n times, taking interrupts between iterations. -/
  | repi (core : Nat) (fromReg inc : Bool) (ra count granted : Nat)
  /-- TRAP (R485). Take a trap with cause 0x09 and the given code. -/
  | trap (core : Nat) (code : Nat)
  /-- ERET (R494). Return from trap to EPC, restoring mode and ie. -/
  | eret (core : Nat)
  /-- MFS (R485). Read a state register. -/
  | mfs (core : Nat) (rd index : Nat)
  /-- MTS (R485). Write a state register. -/
  | mts (core : Nat) (ra index : Nat)
  /-- FENCE (R476). Wait until every earlier store is visible. -/
  | fence (core : Nat)
  /-- WAITI (R485). Wait until an interrupt is pending. -/
  | waiti (core : Nat)
  /-- SET_POWER (R501). AOD command requesting P0, P1, P2 or P3, refused when preconditions fail. -/
  | setPower (src : MsgSrc) (target confirm early periods : Nat)
  /-- SLEEP_CALIBRATION_DONE (R504). The sleep tally calibration ends, the cores halt and P2 is reached. -/
  | sleepCalibrationDone (periodPs late : Nat)
  /-- AUTO_TRIM (R501). trim_idle_ms of idleness makes core 5 request P1. -/
  | autoTrim
  /-- P1_WORK_WAKE (R501). Work arriving for a gated unit returns the device from P1 to P0. -/
  | p1WorkWake
  /-- WAKE_N_LOW (R506). WAKE_N low for 10 µs is a wake. -/
  | wakeNLow (periods : Nat)
  /-- SIDEBAND_ADDRESS_MATCH (R509). An address match wakes the watch core and, with sb_match, the device. -/
  | sidebandAddressMatch (asleep : Bool) (periods : Nat)
  /-- HOST_ACTIVITY_WAKE (R506). A BAR2, BAR4 or NVMe doorbell access in P1 or P2 is a host wake and is held. -/
  | hostActivityWake (periods : Nat)
  /-- SLEEP_ALARM (R506). The sleep tally alarm falling due is a wake. -/
  | sleepAlarm (periods : Nat)
  /-- GET_POWER (R511). AOD command returning power status, wake latch and last sleep. -/
  | getPower (src : MsgSrc)
  /-- SET_ALARM (R511). AOD command arming or disarming the sleep alarm. -/
  | setAlarm (src : MsgSrc) (ms : Nat)
  /-- RESET_WARM (R511). AOD RESET with argument 1 starts a warm reset. -/
  | resetWarm (src : MsgSrc)
  /-- RESET_COLD (R511). AOD RESET with argument 2 starts a cold reset. -/
  | resetCold (src : MsgSrc)
  /-- TRIP_CLEAR (R21). Clears the trip latch after 1 s below 80 °C and starts a cold reset, or is refused. -/
  | tripClear (src : MsgSrc)
  /-- FAULT_LOG_READ (R511). AOD command returning up to 256 B of the fault log. -/
  | faultLogRead (src : MsgSrc) (offset : Nat)
  /-- TELEMETRY_READ (R522). AOD command returning whole telemetry records from a cursor. -/
  | telemetryRead (src : MsgSrc) (cursor maxBytes : Nat)
  /-- REGISTER_WINDOW_READ (R510). Sideband commands 0x20 and 0x21 read 4 bytes of the AOD block. -/
  | registerWindowRead (offset : Nat)
  /-- REGISTER_WINDOW_WRITE (R510). Sideband command 0x22 writes an allowed AOD register or is ignored and counted. -/
  | registerWindowWrite (offset : Nat) (value : W32) (pecOk : Bool)
  /-- ENTDAA (R508). I3C CCC assigning dynamic addresses. -/
  | entdaa (addr : Nat)
  /-- SETDASA (R508). I3C CCC setting the dynamic address from the static address. -/
  | setdasa (addr : Nat)
  /-- RSTDAA (R508). I3C CCC resetting the dynamic address. -/
  | rstdaa
  /-- ENEC (R508). I3C CCC enabling events such as the IBI. -/
  | enec
  /-- DISEC (R508). I3C CCC disabling events. -/
  | disec
  /-- GETPID (R508). I3C CCC returning the provisioned ID. -/
  | getpid
  /-- GETBCR (R508). I3C CCC returning the bus characteristics register. -/
  | getbcr
  /-- GETDCR (R508). I3C CCC returning the device characteristics register. -/
  | getdcr
  /-- GETSTATUS (R508). I3C CCC returning device status. -/
  | getstatus
  /-- SETMWL (R508). I3C CCC setting the maximum write length. -/
  | setmwl (len : Nat)
  /-- GETMWL (R508). I3C CCC returning the maximum write length. -/
  | getmwl
  /-- SETMRL (R508). I3C CCC setting the maximum read length. -/
  | setmrl (len : Nat)
  /-- GETMRL (R508). I3C CCC returning the maximum read length. -/
  | getmrl
  /-- ALERT_RESPONSE_ADDRESS (R508). An SMBus read of the Alert Response Address 0x0C answers an asserted ALERT_N. -/
  | alertResponseAddress
  /-- CLEAR_UNCERTAIN (R517). A write of clear_uncertain by core 0 or 5 clears TIME_UNCERTAIN and zeroes the bound. -/
  | clearUncertain (core : Nat)
  /-- PACE_CONTROL_TICK (R512). Every 1 ms core 5 lowers or raises the commanded core rails by 5 mV from the averaged input power. -/
  | paceControlTick (averageMw : Nat)
  /-- TALLY_CALIBRATION (R514). Every 1 ms each tally's conversion factor is recalibrated against the reference oscillator. -/
  | tallyCalibration (source elapsedNs : Nat)
  /-- SENSOR_SAMPLE (R520). Every 100 µs the AOD samples the powered sensors. -/
  | sensorSample (samples : List (Nat × Int))
  /-- SENSOR_RECORD (R521). Every sensor_period_ms core 5 writes a sensor sample record. -/
  | sensorRecord
  /-- COUNTER_SNAPSHOT (R521). Every snapshot_period_s core 5 writes a snapshot of every ROS counter. -/
  | counterSnapshot
  /-- AOD_WATCHDOG_EXPIRY (R552). The watch core's 100 ms watchdog expiring restarts it from ROM, keeping AOD state. -/
  | aodWatchdogExpiry (inTransaction : Bool)
  /-- IMAGE_BEGIN (R532). Sideband command starting an image transfer into a bank. -/
  | imageBegin (src : MsgSrc) (bank total : Nat)
  /-- IMAGE_DATA (R532). Sideband command writing the next in-order piece of an image. -/
  | imageData (src : MsgSrc) (offset : Nat) (bytes : Bytes)
  /-- IMAGE_END (R527). Sideband command ending the transfer and returning the verification status. -/
  | imageEnd (src : MsgSrc)
  /-- IMAGE_ACTIVATE (R532). Sideband command activating a bank live or at next start. -/
  | imageActivate (src : MsgSrc) (bank mode : Nat) (recent : Bool)
  /-- FW_STATUS (R532). Sideband command returning GAF_FW_STATUS. -/
  | fwStatus (src : MsgSrc)
  /-- FW_ACTIVATE (R535). SERVICE activates a bank at next start, or live by component handovers. -/
  | fwActivate (r : CmdRef) (recent : Bool) (fail : Option Nat) (restart : Option (Nat × Nat))
  /-- TRIAL_CONFIRM (R529). 600 s in TRIAL without a core restart writes the bank VALID and advances fw_arb. -/
  | trialConfirm
  /-- FAULT_ENTRY (R541). A fault entry reaching the AOD is appended to the fault log, raises alerts and ends waiting DIAG_READs. -/
  | faultEntry
  /-- PORT_LINK_UP (R352). A network port finishes training or retraining, regains PCS alignment and comes up, setting link_up and link_change. -/
  | portLinkUp (port : Nat)
  /-- HEP_PERST_N_RELEASE (R30). HEP_PERST_N deasserted ends the fundamental reset, and link training starts once the start sequence has released the endpoint. -/
  | hepPerstNRelease
  /-- HOST_LINK_UP (R316). The host link regains Data Link Layer active or reaches L0 after training, after which configuration requests are served and HEP_WAKE_N is released. -/
  | hostLinkUp
  /-- MOD_RST_N_RELEASE (R61). MOD_RST_N returning high ends the held warm reset, and the start sequence of R58 runs. -/
  | modRstNRelease
  /-- CC_EN_SET (R344). Setting CC.EN enables a function's NVMe controller, and CSTS.RDY then sets. -/
  | ccEnSet (fn : Nat) (cc : W32)
  /-- DRIVE_RESET_TIMEOUT (R341). A wait for CSTS.RDY to clear or to set during a drive controller reset runs out after drive_timeout_ms, and the drive is lost. -/
  | driveResetTimeout (drive : Nat)
  /-- AOD_POWER_LOSS (R16). Input falling below 30.0 V takes VAOD and, after its hold-up, V1P8_SB out of window, ending all module activity. -/
  | aodPowerLoss
  /-- FLASH_PROGRAM_OR_ERASE_DONE (R24). A configuration flash page program or sector erase that was issued earlier completes, so appends, settings records and erase markers can proceed. -/
  | flashProgramOrEraseDone
  /-- ILLEGAL_INSTRUCTION (R477). A core executes a word with an unassigned opcode or fn, a nonzero zero-field or an out-of-range field, and takes an illegal-instruction trap. -/
  | illegalInstruction (core : Nat)
  /-- JTAG_TCK_EDGE (R450). A JTAG_TCK edge advances the TAP, which executes BYPASS or IDCODE, or more once unlocked, and drives JTAG_TDO in shift states. -/
  | jtagTckEdge (rising tms tdi : Bool)
  /-- REPORT_UNANSWERED (R256). A watcher's report about the recorder, unanswered by the standby for probe_window_us, is redirected to the lowest-ranked recorder-eligible member not held suspect. -/
  | reportUnanswered (suspect : Nat)
  /-- RNR_DELAY_EXPIRY (R417). After the peer's RNR delay the requester retries the WR that was refused with RNR NAK. -/
  | rnrDelayExpiry (qpn : Nat)
  /-- PM_STATE_WRITE (R299). A PCI-PM write moving a function between D0 and D3hot gates or regates its memory requests and DMA while keeping its queues and tenant state. -/
  | pmStateWrite (fn : Nat) (d3 : Bool)
deriving DecidableEq, Repr

end Sys2Proof
end

