-- ==== Sys2Proof/Config.lean ====
section
/-! DEFINITION. What the spec leaves open. Every constant here is opaque: nothing in Lean can evaluate it or prove a value of it, so whatever is proved holds for every value. -/

namespace Sys2Proof.Config

/-- The free numbers: a step that needs a value the spec does not fix applies this to the state's counter of such uses. -/
opaque freeNat : Nat → Nat

/-- Whether the bits below 2^-272 of an exact-mode product m × 2^e in range add a unit: the accumulator has no place for them, and equal products have equal results (R137, R149). -/
opaque lowUnit : Nat → Int → Nat

/-- Where the placement engine puts the next pane it places, by the state's counter (R8, R112). -/
opaque placePane : Nat → Nat

/-- Where an address of a firmware core's device window lies in the device's own memory space; none for a device register (R474: the layout is internal to the firmware). -/
opaque window : Nat → Option Nat

/-- How the sampled straps COHORT_ID, COHORT_HOST_EN, SB_ADDR and FLASH_RECOVER stand in AOD_STRAP_SAMPLE (R27, R37: no layout is given). -/
opaque strapWord : Nat → Nat → Nat → Nat → W32

/-- The word chosen for GELU (2) or SiLU (3) of an FP32 word, used where it lies within two units in the last place of the exact function (R166). -/
opaque activation : Nat → Nat → Nat

/-- The bytes a command's destination holds after a failure that leaves it undefined, by the counter and the byte's index (R114). -/
opaque freeByte : Nat → Nat → Byte

/-- The device unique secret of the fuse bank (R426: drawn at manufacture). -/
opaque dus : Bytes

/-- SHA-256 of the vendor firmware key (R426). -/
opaque vendorKeyHash : Bytes

/-- The 16-byte device serial number (R557). -/
opaque serial : Bytes

/-- The identity public key block, laid out as in R47, and its signature function (R430: generated at manufacture). -/
opaque idkPublic : Bytes
opaque idkSign : Bytes → Bytes

/-- Decryption under the device transport key (R430); none where the padding fails. -/
opaque dtkDecrypt : Bytes → Option Bytes

/-- The certificate chain of SPDM slot 0 and the DTK certificate (R439). -/
opaque deviceChain : Bytes
opaque dtkCert : Bytes

/-- The Dravviar root certificate, held in OTP and not sent (R439). -/
opaque rootCert : Bytes

/-- The certificates of a chain in order, and of an X.509 certificate the bytes its signature covers, its signature, the subject's public key block (384 bytes of modulus, then of exponent) and the subject's serial number in the form of R557. The encoding is X.509's, which the spec does not lay out (R439). -/
opaque certSplit : Bytes → List Bytes
opaque certBody : Bytes → Bytes
opaque certSig : Bytes → Bytes
opaque certKey : Bytes → Bytes
opaque certSerial : Bytes → Bytes

/-- The digest of the boot ROM (R441). -/
opaque bootRomDigest : Bytes

/-- The 4-byte salt of an SA's GCM nonce, by its key material (R369, R498: the SA record gives none). -/
opaque espSalt : Bytes → Bytes

/-- Length of the JTAG instruction register less two, its codes (0 BYPASS, 1 IDCODE, 2 SAMPLE/PRELOAD, 3 EXTEST, 4 debug), and the IDCODE word (R450: not given). -/
opaque irExtra : Nat
opaque irDecode : Nat → Nat
opaque idcode : W32

/-- Length of a JTAG data register other than BYPASS and IDCODE. -/
opaque drLength : Nat → Nat

/-- The two MAC addresses of a frame between two GIDs, 12 bytes (R397: the link layer's addresses are not given). -/
opaque linkAddrs : Bytes → Bytes → Bytes

/-- What the spec leaves open in a packet of a QP: 0 TTL, 1 flow label, 2 P_Key, 3 first UDP source port. -/
opaque packetField : Nat → Nat → Nat

end Sys2Proof.Config
end

