-- ==== Sys2Proof/Machine/Crypto.lean ====
section
/-! DEFINITION. The cryptographic functions the spec names: SHA-256, HMAC, AES-128 and AES-256 with CTR, GCM, XTS, CMAC and key wrap, and RSASSA-PSS and RSAES-OAEP with RSA-3072. -/

namespace Sys2Proof.Machine

/-! ## SHA-256 (FIPS 180-4) -/

namespace Sha256

/-- The primes up to the 64th. -/
def primes : List Nat := (seqFrom 2 310).filter fun p => (seqFrom 2 (p - 2)).all fun d => p % d != 0

/-- The largest `r` with `r ^ e ≤ n`, its `b` lowest bits chosen from the top one down. -/
def root (e n : Nat) : Nat → Nat → Nat
  | 0, r => r
  | b + 1, r => root e n b (if (r + 2 ^ b) ^ e ≤ n then r + 2 ^ b else r)

/-- The first 32 bits of the fractional part of the `e`-th root of a prime. -/
def rootFraction (e p : Nat) : W32 := w32 (root e (p * 2 ^ (32 * e)) 40 0)

/-- The round constants: cube roots of the first 64 primes. -/
def constants : List W32 := primes.map (rootFraction 3)

/-- The initial hash value: square roots of the first 8 primes. -/
def start : List W32 := (primes.take 8).map (rootFraction 2)

/-- Three rotations of a word, added bit by bit. -/
def turn (x : W32) (i j k : Nat) : W32 := x.rotateRight i ^^^ x.rotateRight j ^^^ x.rotateRight k

/-- The window of 16 schedule words, oldest first, one word further on. -/
def slide (w : List W32) : List W32 :=
  let at_ := fun i => w.getD i 0
  let low := (at_ 1).rotateRight 7 ^^^ (at_ 1).rotateRight 18 ^^^ (at_ 1 >>> 3)
  let high := (at_ 14).rotateRight 17 ^^^ (at_ 14).rotateRight 19 ^^^ (at_ 14 >>> 10)
  w.drop 1 ++ [at_ 0 + low + at_ 9 + high]

/-- One round over the working words and the schedule window. -/
def turnOver (x : List W32 × List W32) (k : W32) : List W32 × List W32 :=
  match x with
  | ([a, b, c, d, e, f, g, h], w) =>
    let t := turn e 6 11 25 + (g ^^^ (e &&& (f ^^^ g))) + h + (k + w.getD 0 0)
    ([t + turn a 2 13 22 + ((a &&& b) ||| (c &&& (a ||| b))), a, b, c, d + t, e, f, g], slide w)
  | x => x

/-- The hash value after `n` blocks of 64 bytes. -/
def absorb : Nat → List W32 → Bytes → List W32
  | 0, v, _ => v
  | n + 1, v, bs =>
    absorb n (List.zipWith (· + ·) v (constants.foldl turnOver (v, words bs)).1) (bs.drop 64)
where
  /-- The big-endian words of the first 64 bytes. -/
  words (bs : Bytes) : List W32 := (seqFrom 0 16).map fun i => w32 (beNat (slice bs (4 * i) 4))

/-- What follows the message: a one bit, zeros, and its bit length in 64 bits, up to a whole block. -/
def padding (len : Nat) : Bytes :=
  0x80#8 :: (zeros ((119 - len % 64) % 64) ++ natBe (8 * len) 8)

end Sha256

/-- SHA-256 of a byte sequence. -/
def sha256 (m : Bytes) : Bytes :=
  let p := m ++ Sha256.padding m.length
  (Sha256.absorb (p.length / 64) Sha256.start p).flatMap fun w => natBe w.toNat 4

/-- HMAC-SHA-256 (RFC 2104). -/
def hmacSha256 (key m : Bytes) : Bytes :=
  let k0 := slice (if 64 < key.length then sha256 key else key) 0 64
  sha256 (k0.map (· ^^^ 0x5C#8) ++ sha256 (k0.map (· ^^^ 0x36#8) ++ m))

/-! ## AES (FIPS 197) -/

namespace Aes

/-- Multiplication by x in GF(2^8). -/
def xtime (b : Byte) : Byte := if b.getLsbD 7 then (b <<< 1) ^^^ 0x1B#8 else b <<< 1

/-- Multiplication in GF(2^8), from the multiplier's `n` low bits. -/
def gmulN : Nat → Byte → Byte → Byte
  | 0, _, _ => 0
  | n + 1, a, b => (if b.getLsbD 0 then a else 0) ^^^ gmulN n (xtime a) (b >>> 1)

/-- Multiplication in GF(2^8). -/
def gmul (a b : Byte) : Byte := gmulN 8 a b

/-- The `n`-fold product of squarings that raises to 2^(n+1) − 2. -/
def invN : Nat → Byte → Byte → Byte
  | 0, acc, _ => acc
  | n + 1, acc, a => let q := gmul a a; invN n (gmul acc q) q

/-- The multiplicative inverse in GF(2^8), 0 for 0 (the 254th power). -/
def ginv (a : Byte) : Byte := invN 7 1 a

/-- The S-box: the inverse followed by the affine map. -/
def sbox (a : Byte) : Byte :=
  let b := ginv a
  b ^^^ b.rotateLeft 1 ^^^ b.rotateLeft 2 ^^^ b.rotateLeft 3 ^^^ b.rotateLeft 4 ^^^ 0x63#8

/-- The inverse S-box: the inverse affine map followed by the inverse. -/
def invSbox (a : Byte) : Byte :=
  ginv (a.rotateLeft 1 ^^^ a.rotateLeft 3 ^^^ a.rotateLeft 6 ^^^ 0x05#8)

/-- The word before the round constant is added. -/
def subRot (w : Bytes) : Bytes := [w.getD 1 0, w.getD 2 0, w.getD 3 0, w.getD 0 0].map sbox

/-- The key schedule, newest word first, extended from word `i` by `n` words. -/
def expand (nk : Nat) : Nat → Nat → Byte → List Bytes → List Bytes
  | 0, _, _, w => w
  | n + 1, i, rc, w =>
    let t := w.getD 0 []
    let u := if i % nk = 0 then xorBytes (subRot t) [rc, 0, 0, 0]
      else if nk = 8 ∧ i % 8 = 4 then t.map sbox else t
    let rc' := if i % nk = 0 then xtime rc else rc
    expand nk n (i + 1) rc' (xorBytes (w.getD (nk - 1) []) u :: w)

/-- The round keys of a 16-byte or 32-byte key, 16 bytes each. -/
def roundKeys (key : Bytes) : List Bytes :=
  let nk := key.length / 4
  let w0 := (seqFrom 0 nk).map fun i => slice key (4 * i) 4
  let w := ((expand nk (4 * (nk + 7) - nk) nk 1 w0.reverse).reverse).flatten
  (seqFrom 0 (nk + 7)).map fun r => slice w (16 * r) 16

/-- ShiftRows, column-major. -/
def shiftRows (s : Bytes) : Bytes := (seqFrom 0 16).map fun i => s.getD ((i + 4 * (i % 4)) % 16) 0

/-- The inverse of ShiftRows. -/
def invShiftRows (s : Bytes) : Bytes := (seqFrom 0 16).map fun i => s.getD ((i + 12 * (i % 4)) % 16) 0

/-- A column mix with the four coefficients of its first row. -/
def mixWith (c : Bytes) (s : Bytes) : Bytes :=
  (seqFrom 0 16).map fun i =>
    ((seqFrom 0 4).map fun j => gmul (c.getD ((j + 4 - i % 4) % 4) 0) (s.getD (4 * (i / 4) + j) 0)).foldl (· ^^^ ·) 0

/-- The middle rounds of encryption. -/
def encRounds : List Bytes → Bytes → Bytes
  | [], s => s
  | [k], s => xorBytes (shiftRows (s.map sbox)) k
  | k :: r, s => encRounds r (xorBytes (mixWith [2, 3, 1, 1] (shiftRows (s.map sbox))) k)

/-- Encrypts one 16-byte block. -/
def encBlock (key blk : Bytes) : Bytes :=
  match roundKeys key with
  | [] => blk
  | k :: r => encRounds r (xorBytes blk k)

/-- The rounds of decryption, from the last round key. -/
def decRounds : List Bytes → Bytes → Bytes
  | [], s => s
  | [k], s => xorBytes ((invShiftRows s).map invSbox) k
  | k :: r, s => decRounds r (mixWith [14, 11, 13, 9] (xorBytes ((invShiftRows s).map invSbox) k))

/-- Decrypts one 16-byte block. -/
def decBlock (key blk : Bytes) : Bytes :=
  match (roundKeys key).reverse with
  | [] => blk
  | k :: r => decRounds r (xorBytes blk k)

end Aes

/-- The number of 16-byte blocks a length takes. -/
def blocks16 (n : Nat) : Nat := (n + 15) / 16

/-- AES-CTR key stream of `n` blocks from a 12-byte nonce and a 32-bit big-endian counter. -/
def ctrStream (key nonce : Bytes) (c n : Nat) : Bytes :=
  (seqFrom c n).flatMap fun i => Aes.encBlock key (nonce ++ natBe i 4)

/-- Doubling in GF(2^128) as GCM orders its bits, on the big-endian value. -/
def ghashHalve (v : Nat) : Nat :=
  if v % 2 = 1 then v / 2 ^^^ (0xE1 * 2 ^ 120) else v / 2

/-- The GCM product, from the `n` high bits of `x` that remain. -/
def ghashMulN : Nat → Nat → Nat → Nat → Nat
  | 0, z, _, _ => z
  | n + 1, z, v, x => ghashMulN n (if (x / 2 ^ n) % 2 = 1 then z ^^^ v else z) (ghashHalve v) x

/-- GHASH over whole blocks. -/
def ghash (h : Nat) (bs : Bytes) : Nat :=
  (seqFrom 0 (bs.length / 16)).foldl
    (fun y i => ghashMulN 128 0 h (y ^^^ beNat (slice bs (16 * i) 16))) 0

/-- The GCM authentication tag of a ciphertext (NIST SP 800-38D, 12-byte nonce). -/
def gcmTag (key nonce aad ct : Bytes) : Bytes :=
  let h := beNat (Aes.encBlock key (zeros 16))
  let s := ghash h (padTo 16 aad ++ padTo 16 ct ++ natBe (8 * aad.length) 8 ++ natBe (8 * ct.length) 8)
  xorBytes (natBe s 16) (Aes.encBlock key (nonce ++ natBe 1 4))

/-- AES-GCM encryption: the ciphertext. Decryption is the same exclusive or. -/
def gcmCrypt (key nonce pt : Bytes) : Bytes := xorBytes pt (ctrStream key nonce 2 (blocks16 pt.length))

/-- Doubling of the XTS tweak, little-endian. -/
def xtsDouble (t : Bytes) : Bytes :=
  let v := leNat t * 2
  natLe (if 2 ^ 128 ≤ v then (v - 2 ^ 128) ^^^ 0x87 else v) 16

/-- AES-XTS over whole 16-byte blocks with the block function `f`. -/
def xtsBlocks (f : Bytes → Bytes) : Nat → Bytes → Bytes → Bytes
  | 0, _, _ => []
  | n + 1, t, bs => xorBytes (f (xorBytes (bs.take 16) t)) t ++ xtsBlocks f n (xtsDouble t) (bs.drop 16)

/-- AES-XTS encryption of one data unit (IEEE 1619), the tweak from the unit number. -/
def xtsEncrypt (k1 k2 : Bytes) (unit : Nat) (pt : Bytes) : Bytes :=
  xtsBlocks (Aes.encBlock k1) (pt.length / 16) (Aes.encBlock k2 (natLe unit 16)) pt

/-- AES-XTS decryption of one data unit. -/
def xtsDecrypt (k1 k2 : Bytes) (unit : Nat) (ct : Bytes) : Bytes :=
  xtsBlocks (Aes.decBlock k1) (ct.length / 16) (Aes.encBlock k2 (natLe unit 16)) ct

/-- Doubling of a CMAC subkey, big-endian. -/
def cmacDouble (t : Bytes) : Bytes := (xtsDouble t.reverse).reverse

/-- The CMAC chain over whole blocks. -/
def cmacChain (key : Bytes) : Nat → Bytes → Bytes → Bytes
  | 0, x, _ => x
  | n + 1, x, bs => cmacChain key n (Aes.encBlock key (xorBytes x (bs.take 16))) (bs.drop 16)

/-- AES-CMAC (NIST SP 800-38B). -/
def cmac (key m : Bytes) : Bytes :=
  let k1 := cmacDouble (Aes.encBlock key (zeros 16))
  let n := max 1 (blocks16 m.length)
  let head := m.take (16 * (n - 1))
  let tail := m.drop (16 * (n - 1))
  let last := if tail.length = 16 then xorBytes tail k1
    else xorBytes (slice (tail ++ [0x80#8]) 0 16) (cmacDouble k1)
  cmacChain key n (zeros 16) (head ++ last)

/-- One pass of AES key wrap over the semiblocks. -/
def kwPass (kek : Bytes) (n t : Nat) : Nat → Bytes × List Bytes → Bytes × List Bytes
  | 0, s => s
  | k + 1, s =>
    let j := n - (k + 1)
    let b := Aes.encBlock kek (s.1 ++ nthD s.2 j [])
    kwPass kek n t k (xorBytes (b.take 8) (natBe (n * t + j + 1) 8), setNth s.2 j (b.drop 8))

/-- One reverse pass of AES key unwrap. -/
def kuPass (kek : Bytes) (n t : Nat) : Nat → Bytes × List Bytes → Bytes × List Bytes
  | 0, s => s
  | j + 1, s =>
    let b := Aes.decBlock kek (xorBytes s.1 (natBe (n * t + j + 1) 8) ++ nthD s.2 j [])
    kuPass kek n t j (b.take 8, setNth s.2 j (b.drop 8))

/-- AES key wrap (NIST SP 800-38F, KW). -/
def keyWrap (kek p : Bytes) : Bytes :=
  let n := p.length / 8
  let r := (seqFrom 0 n).map fun i => slice p (8 * i) 8
  let s := (seqFrom 0 6).foldl (fun s t => kwPass kek n t n s) (List.replicate 8 0xA6#8, r)
  s.1 ++ s.2.flatten

/-- AES key unwrap; none where the integrity value fails. -/
def keyUnwrap (kek c : Bytes) : Option Bytes :=
  let n := c.length / 8 - 1
  let r := (seqFrom 1 n).map fun i => slice c (8 * i) 8
  let s := (seqFrom 0 6).foldl (fun s t => kuPass kek n (5 - t) n s) (c.take 8, r)
  if s.1 = List.replicate 8 0xA6#8 then some s.2.flatten else none

/-! ## RSA -/

/-- Modular exponentiation over the `n` low bits of the exponent. -/
def powModN (m : Nat) : Nat → Nat → Nat → Nat → Nat
  | 0, acc, _, _ => acc
  | n + 1, acc, b, e => powModN m n (if e % 2 = 1 then acc * b % m else acc) (b * b % m) (e / 2)

/-- MGF1 with SHA-256. -/
def mgf1 (seed : Bytes) (n : Nat) : Bytes :=
  ((seqFrom 0 ((n + 31) / 32)).flatMap fun i => sha256 (seed ++ natBe i 4)).take n

/-- EMSA-PSS verification (RFC 8017) of a 3072-bit encoded message with a 32-byte salt. -/
def pssVerify (mHash em : Bytes) : Bool :=
  let maskedDb := em.take 351
  let h := slice em 351 32
  let db := xorBytes maskedDb (mgf1 h 351)
  let db := ((db.getD 0 0) &&& 0x7F#8) :: db.drop 1
  let salt := db.drop 319
  decide (em.length = 384) && decide (em.getD 383 0 = 0xBC#8) && decide (maskedDb.getD 0 0 &&& 0x80#8 = 0#8) &&
    decide (db.take 319 = zeros 318 ++ [1#8]) && decide (sha256 (zeros 8 ++ mHash ++ salt) = h)

/-- RSASSA-PSS verification (RSA-3072, SHA-256, MGF1 with SHA-256, salt 32 bytes; R47, R524). -/
def rsaPssVerify (modulus exponent msg sig : Bytes) : Bool :=
  let n := beNat modulus
  let s := beNat sig
  if n ≤ s then false
  else pssVerify (sha256 msg) (natBe (powModN n 32 1 s (leNat exponent)) 384)

end Sys2Proof.Machine
end

