-- ==== Sys2Proof/Machine/Num.lean ====
section
/-! DEFINITION. Number formats and arithmetic: exact dyadic values, the element formats, rounding, MX blocks, the long accumulator and the reductions (spec/05_number_formats_and_arithmetic.md). -/

namespace Sys2Proof.Machine

open Sys2Proof

/-- A value: NaN, an infinity, or ±m × 2^e with its sign kept at zero. -/
inductive Val where
  | nan
  | inf (neg : Bool)
  | fin (neg : Bool) (m : Nat) (e : Int)
deriving DecidableEq, Repr

namespace Val

/-- Plus zero. -/
def zero : Val := .fin false 0 0

/-- An integer as a value; zero is +0. -/
def ofInt (n : Int) : Val := .fin (decide (n < 0)) n.natAbs 0

/-- ±m × 2^e as a signed count of 2^q, for q at most e. -/
def units (neg : Bool) (m : Nat) (e q : Int) : Int :=
  let n : Int := (m * 2 ^ (e - q).toNat : Nat)
  if neg then -n else n

/-- The exact sum; (+0) + (−0) and exact cancellation are +0 (R125). -/
def add : Val → Val → Val
  | .nan, _ => .nan
  | _, .nan => .nan
  | .inf a, .inf b => if a = b then .inf a else .nan
  | .inf a, _ => .inf a
  | _, .inf b => .inf b
  | .fin a m e, .fin b n f =>
    let q := min e f
    let t := units a m e q + units b n f q
    .fin (if t = 0 then m = 0 && n = 0 && a && b else decide (t < 0)) t.natAbs q

/-- The exact product; its sign is the exclusive-or (R125). -/
def mul : Val → Val → Val
  | .nan, _ => .nan
  | _, .nan => .nan
  | .inf a, .inf b => .inf (a != b)
  | .inf a, .fin b n _ => if n = 0 then .nan else .inf (a != b)
  | .fin a m _, .inf b => if m = 0 then .nan else .inf (a != b)
  | .fin a m e, .fin b n f => .fin (a != b) (m * n) (e + f)

/-- The negated value. -/
def neg : Val → Val
  | .nan => .nan
  | .inf a => .inf !a
  | .fin a m e => .fin (!a) m e

/-- The value times 2^k. -/
def scale (k : Int) : Val → Val
  | .fin a m e => .fin a m (e + k)
  | v => v

/-- The value is neither NaN nor infinite. -/
def finite : Val → Bool
  | .fin .. => true
  | _ => false

/-- The magnitude of a finite value as a pair. -/
def mag : Val → Nat × Int
  | .fin _ m e => (m, e)
  | _ => (0, 0)

/-- The first magnitude is below the second. -/
def magLt (a b : Nat × Int) : Bool :=
  let q := min a.2 b.2
  decide (a.1 * 2 ^ (a.2 - q).toNat < b.1 * 2 ^ (b.2 - q).toNat)

/-- floor(log2) of a nonzero magnitude. -/
def log2 (a : Nat × Int) : Int := (Nat.log2 a.1 : Int) + a.2

/-- a < b; false where a NaN is involved. -/
def lt : Val → Val → Bool
  | .nan, _ => false
  | _, .nan => false
  | .inf a, .inf b => a && !b
  | .inf a, _ => a
  | _, .inf b => !b
  | .fin a m e, .fin b n f => let q := min e f; decide (units a m e q < units b n f q)

/-- The values are equal as numbers; false for NaN. -/
def eq : Val → Val → Bool
  | .nan, _ => false
  | _, .nan => false
  | a, b => !(lt a b) && !(lt b a)

end Val

/-! ## Rounding (R131, R132) -/

/-- The rounding modes. -/
inductive Rnd where
  | rne
  | rtz
  | sr
deriving DecidableEq, Repr

/-- The rounding mode of a 2-bit field; none for 3. -/
def rndOf (n : Nat) : Option Rnd := if n = 0 then some .rne else if n = 1 then some .rtz else if n = 2 then some .sr else none

/-- m × 2^e rounded to a whole count of 2^q; `r` is the 16-bit random value of stochastic rounding. -/
def roundMag (m : Nat) (e q : Int) (md : Rnd) (r : Nat) : Nat :=
  if q ≤ e then m * 2 ^ (e - q).toNat
  else
    let d := 2 ^ (q - e).toNat
    let hi := m / d
    let rem := m % d
    match md with
    | .rtz => hi
    | .rne => if d < 2 * rem ∨ (2 * rem = d ∧ hi % 2 = 1) then hi + 1 else hi
    | .sr => if 65536 ≤ rem * 65536 / d + r then hi + 1 else hi

/-! ## Floating formats (R124) -/

/-- A floating format: mantissa bits, bias, total bits, and the encoding of its largest finite magnitude. -/
structure Fmt where
  man : Nat
  bias : Int
  bits : Nat
  top : Nat
deriving DecidableEq, Repr

def fp32 : Fmt := ⟨23, 127, 32, 0x7F7FFFFF⟩
def bf16 : Fmt := ⟨7, 127, 16, 0x7F7F⟩
def fp16 : Fmt := ⟨10, 15, 16, 0x7BFF⟩
def e4m3 : Fmt := ⟨3, 7, 8, 0x7E⟩
def e5m2 : Fmt := ⟨2, 15, 8, 0x7B⟩
def e3m2 : Fmt := ⟨2, 3, 6, 0x1F⟩
def e2m3 : Fmt := ⟨3, 1, 6, 0x1F⟩
def e2m1 : Fmt := ⟨1, 1, 4, 0x7⟩

/-- The exponent of a format's smallest subnormal. -/
def Fmt.low (f : Fmt) : Int := 1 - f.bias - f.man

/-- A finite encoding's value; NaN and infinity as the format has them: E4M3 only its all-ones NaN, FP6 and FP4 none. -/
def Fmt.decode (f : Fmt) (w : Nat) : Val :=
  let s := decide (w / 2 ^ (f.bits - 1) % 2 = 1)
  let x := w % 2 ^ (f.bits - 1)
  let ex := x / 2 ^ f.man
  let m := x % 2 ^ f.man
  if f.top < x then
    (if f = e4m3 then .nan else if m = 0 then .inf s else .nan)
  else if ex = 0 then .fin s m f.low
  else .fin s (m + 2 ^ f.man) (f.low + ex - 1)

/-- The rounded encoding of a nonzero magnitude, its exponent unbounded above: an encoding above `top` is an overflow. -/
def Fmt.enc (f : Fmt) (m : Nat) (e : Int) (md : Rnd) (r : Nat) : Nat :=
  if m = 0 then 0
  else
    let q := max f.low (Val.log2 (m, e) - f.man)
    let n := roundMag m e q md r
    if n < 2 ^ f.man then n else ((q - f.low).toNat + 1) * 2 ^ f.man + (n - 2 ^ f.man)

/-- The sign bit of an encoding. -/
def Fmt.sign (f : Fmt) (neg : Bool) : Nat := if neg then 2 ^ (f.bits - 1) else 0

/-- The canonical NaN (R125); E4M3 and E5M2 share 0x7F. -/
def Fmt.nan (f : Fmt) : Nat :=
  if f = fp32 then 0x7FC00000 else if f = bf16 then 0x7FC0 else if f = fp16 then 0x7E00 else 0x7F

/-- Infinity of the formats that have one. -/
def Fmt.inf (f : Fmt) (neg : Bool) : Nat := f.sign neg + f.top + 1

/-- Conversion to a floating format outside MX (R126). -/
def Fmt.conv (f : Fmt) (satOff : Bool) (md : Rnd) (r : Nat) : Val → Nat
  | .nan => f.nan
  | .inf s =>
    if f = e4m3 then (if satOff then f.nan else f.sign s + f.top)
    else if f = e5m2 then (if satOff then f.inf s else f.sign s + f.top)
    else f.inf s
  | .fin s m e =>
    let x := f.enc m e md r
    if x ≤ f.top then f.sign s + x
    else if f = e4m3 then (if satOff then f.nan else f.sign s + f.top)
    else if f = e5m2 ∧ ¬ satOff then f.sign s + f.top
    else if md = .rtz then f.sign s + f.top
    else f.inf s

/-- Rounds to FP32 by RNE, as a value. -/
def r32 (v : Val) : Val := fp32.decode (fp32.conv false .rne 0 v)

/-- An FP32 word's value and a value's FP32 word by RNE. -/
def ofF32 (w : Nat) : Val := fp32.decode w
def toF32 (v : Val) : Nat := fp32.conv false .rne 0 v

/-- Rounds a finite value to an integer; the overflow of an infinity is left to the caller. -/
def roundInt (md : Rnd) (r : Nat) : Val → Int
  | .fin s m e => let n : Int := roundMag m e 0 md r; if s then -n else n
  | _ => 0

/-- A value bounded to an interval. -/
def clampInt (lo hi n : Int) : Int := if n < lo then lo else if hi < n then hi else n

/-- Conversion to a non-MX two's-complement integer of `b` bits (R127): NaN gives 0, infinities saturate. -/
def toIntSat (b : Nat) (md : Rnd) (r : Nat) : Val → Int
  | .nan => 0
  | .inf s => if s then -(2 ^ (b - 1) : Int) else 2 ^ (b - 1) - 1
  | v => clampInt (-(2 ^ (b - 1) : Int)) (2 ^ (b - 1) - 1) (roundInt md r v)

/-- The two's-complement bits of an integer. -/
def intBits (b : Nat) (n : Int) : Nat := (n % (2 ^ b : Int)).toNat

/-- The integer of two's-complement bits. -/
def intOf (b w : Nat) : Int := if 2 ^ (b - 1) ≤ w % 2 ^ b then ((w % 2 ^ b : Nat) : Int) - 2 ^ b else ((w % 2 ^ b : Nat) : Int)

/-! ## Format codes (R123) -/

/-- The floating format of a code. -/
def fmtOf (code : Nat) : Option Fmt :=
  match code with
  | 1 => some fp32 | 2 => some bf16 | 3 => some fp16 | 4 => some e4m3 | 5 => some e5m2
  | 6 => some e3m2 | 7 => some e2m3 | 8 => some e2m1 | _ => none

/-- Bits of an element. -/
def codeBits (code : Nat) : Nat :=
  match code with
  | 1 => 32 | 2 => 16 | 3 => 16 | 4 => 8 | 5 => 8 | 6 => 6 | 7 => 6 | 8 => 4 | 9 => 8 | 10 => 32 | _ => 0

/-- Code of a format byte, and its sat_off. -/
def fmtCode (b : Nat) : Nat := b % 32
def fmtSatOff (b : Nat) : Bool := decide (128 ≤ b % 256)

/-- The format byte is legal: a known code, RSV zero, sat_off only on FP8. -/
def fmtByteOk (b : Nat) : Bool :=
  decide (b < 256) && decide (1 ≤ fmtCode b ∧ fmtCode b ≤ 10) && decide (b / 32 % 4 = 0) &&
    (!fmtSatOff b || decide (fmtCode b = 4 ∨ fmtCode b = 5))

/-- The MX flag fits the format. -/
def mxOk (code : Nat) (mx : Bool) : Bool :=
  if code = 6 ∨ code = 7 ∨ code = 8 then mx else if code = 4 ∨ code = 5 ∨ code = 9 then true else !mx

/-- The value of an element's bits outside MX. -/
def elemVal (code w : Nat) : Val :=
  match fmtOf code with
  | some f => f.decode w
  | none => Val.ofInt (intOf (codeBits code) w)

/-- The bits of a value converted to an element outside MX. -/
def elemBits (code : Nat) (satOff : Bool) (md : Rnd) (r : Nat) (v : Val) : Nat :=
  match fmtOf code with
  | some f => f.conv satOff md r v
  | none => intBits (codeBits code) (toIntSat (codeBits code) md r v)

/-! ## MX blocks (R128, R129) -/

/-- emax of an element format. -/
def mxEmax (code : Nat) : Int := match code with | 4 => 8 | 5 => 15 | 6 => 4 | 7 => 2 | 8 => 2 | _ => 0

/-- The value of an MX element under its block's scale byte. -/
def mxVal (code scale w : Nat) : Val :=
  if scale = 255 then .nan
  else
    let p := if code = 9 then (Val.ofInt (intOf 8 w)).scale (-6) else elemVal code w
    p.scale ((scale : Int) - 127)

/-- The largest magnitude of a list of finite values. -/
def maxMag : List Val → Nat × Int
  | [] => (0, 0)
  | v :: r => let a := maxMag r; if Val.magLt a v.mag then v.mag else a

/-- The scale byte of a block. -/
def mxScale (code : Nat) (vs : List Val) : Nat :=
  if vs.any fun v => !v.finite then 255
  else
    let a := maxMag vs
    if a.1 = 0 then 0 else (clampInt (-127) 127 (Val.log2 a - mxEmax code) + 127).toNat

/-- One element under a scale; magnitudes beyond the largest finite one saturate. -/
def mxElem (code scale : Nat) (md : Rnd) (r : Nat) (v : Val) : Nat :=
  let p := v.scale (127 - (scale : Int))
  if code = 9 then intBits 8 (clampInt (-127) 127 (roundInt md r (p.scale 6)))
  else
    match fmtOf code, p with
    | some f, .fin s m e => f.sign s + min f.top (f.enc m e md r)
    | _, _ => 0

/-- A block: its scale byte and its elements; `rs` are the elements' random values. -/
def mxBlock (code : Nat) (md : Rnd) (rs : List Nat) (vs : List Val) : Nat × List Nat :=
  let s := mxScale code vs
  if s = 255 ∨ (maxMag vs).1 = 0 then (s, vs.map fun _ => 0)
  else (s, (List.zip vs (rs ++ List.replicate (vs.length - rs.length) 0)).map fun x => mxElem code s md x.2 x.1)

/-! ## Stochastic rounding streams (R133, R134) -/

/-- The random value of an element index under a seed, a domain, a step and a tensor_id. -/
def srValue (seed : Bytes) (domain step tid idx : Nat) : Nat :=
  let blk := natLe step 6 ++ natLe tid 4 ++ natLe (idx / 8 % 2 ^ 40) 5 ++ natLe (domain % 64 + idx / 2 ^ 43 % 4 * 64) 1
  fieldAt (Aes.encBlock seed blk) (2 * (idx % 8)) 2

/-! ## Dot products (R135 to R139) -/

/-- FP32 addition by RNE. -/
def addF32 (a b : Val) : Val := r32 (a.add b)

/-- One level of the balanced tree. -/
def pairUp : List Val → List Val
  | a :: b :: r => addF32 a b :: pairUp r
  | l => l

/-- The tree sum of up to 16 terms, the missing ones +0. -/
def tree16 (l : List Val) : Val :=
  let l := l ++ List.replicate (16 - l.length) Val.zero
  (pairUp (pairUp (pairUp (pairUp l)))).headD Val.zero

/-- Fast-mode sum of products already rounded to FP32, in groups of 16. -/
def fastSum : Nat → Option Val → List Val → Option Val
  | 0, acc, _ => acc
  | n + 1, acc, l =>
    if l = [] then acc
    else
      let t := tree16 (l.take 16)
      fastSum n (some (match acc with | some a => addF32 a t | none => t)) (l.drop 16)

/-- A fast-mode dot product before conversion: each product rounded once to FP32. -/
def fastDot (init : Option Val) (ps : List (Val × Val)) : Val :=
  (fastSum ps.length init (ps.map fun p => r32 (p.1.mul p.2))).getD Val.zero

/-- The long accumulator with its flags; content in units of 2^−272. -/
structure LongAcc where
  sum : Int := 0
  nan : Bool := false
  posOvf : Bool := false
  negOvf : Bool := false
  /-- Nonzero products below the range. -/
  small : Nat := 0
deriving DecidableEq, Repr

/-- Wraps the accumulator to 576 bits of two's complement. -/
def wrap576 (n : Int) : Int := (n + 2 ^ 575) % 2 ^ 576 - 2 ^ 575

/-- Adds an exact summand. DESIGN CHOICE (log 40): bits below 2^−272 of a product in range have no place, and the spec does not say what becomes of them: they add a unit or none, the same for equal products. -/
def LongAcc.put (a : LongAcc) (product : Bool) : Val → LongAcc
  | .nan => { a with nan := true }
  | .inf s => if s then { a with negOvf := true } else { a with posOvf := true }
  | .fin s m e =>
    if m = 0 then a
    else if product ∧ Val.log2 (m, e) < -272 then { a with small := a.small + 1 }
    else if product ∧ 283 ≤ Val.log2 (m, e) then (if s then { a with negOvf := true } else { a with posOvf := true })
    else
      let n := roundMag m e (-272) .rtz 0
      let n := if n * 2 ^ (-272 - e).toNat < m ∧ e < -272 then n + Config.lowUnit m e % 2 else n
      { a with sum := wrap576 (a.sum + if s then -(n : Int) else n) }

/-- The result before conversion (R138). -/
def LongAcc.val (a : LongAcc) : Val :=
  if a.nan ∨ (a.posOvf ∧ a.negOvf) then .nan
  else if a.posOvf then .inf false
  else if a.negOvf then .inf true
  else .fin (decide (a.sum < 0)) a.sum.natAbs (-272)

/-- An exact-mode dot product. -/
def exactDot (init : Option Val) (ps : List (Val × Val)) : LongAcc :=
  let a := match init with | some v => ({} : LongAcc).put false v | none => {}
  ps.foldl (fun a p => a.put true (p.1.mul p.2)) a

/-- The exact integer sum of INT8 products (R139). -/
def intDot (ps : List (Int × Int)) : Int := (ps.map fun p => p.1 * p.2).sum

/-! ## Reductions (R140 to R143) -/

/-- The exact sum of local contributions, rounded once to FP32. -/
def partialSum (vs : List Val) : Val := r32 (vs.foldl (fun (a : LongAcc) v => a.put false v) {}).val

/-- The largest power of two strictly less than n. -/
def powBelow (n : Nat) : Nat := 2 ^ Nat.log2 (n - 1)

/-- ORDERED combination over ranks lo to hi − 1. -/
def orderedSum (p : Nat → Val) : Nat → Nat → Nat → Val
  | 0, lo, _ => p lo
  | f + 1, lo, hi =>
    if hi ≤ lo + 1 then p lo
    else
      let k := powBelow (hi - lo)
      addF32 (orderedSum p f lo (lo + k)) (orderedSum p f (lo + k) hi)

/-- An INVARIANT partial (R142). -/
inductive Inv where
  | empty
  | nonfinite
  | win (t : Nat) (a b : Int)
deriving DecidableEq, Repr

/-- The partial of one contribution (R141). -/
def Inv.of : Val → Inv
  | .nan => .nonfinite
  | .inf _ => .nonfinite
  | .fin s m e =>
    if m = 0 then .empty
    else
      let ex := Val.log2 (m, e)
      if ex < -149 then .empty
      else if 128 ≤ ex then .nonfinite
      else
        let t := ((ex + 149) / 23).toNat
        let sg := fun (n : Nat) => if s then -(n : Int) else (n : Int)
        let a := roundMag m e (23 * t - 149) .rtz 0
        let b := if t = 0 then 0 else roundMag m e (23 * t - 172) .rtz 0 % 2 ^ 23
        .win t (sg a) (sg b)

/-- The merge of two partials. -/
def Inv.merge : Inv → Inv → Inv
  | .nonfinite, _ => .nonfinite
  | _, .nonfinite => .nonfinite
  | .empty, y => y
  | x, .empty => x
  | .win t a b, .win u c d =>
    if u = t then .win t (a + c) (b + d)
    else if t < u then (if u = t + 1 then .win u c (d + a) else .win u c d)
    else if t = u + 1 then .win t a (b + c) else .win t a b

/-- The 12 bytes of a partial and back. -/
def Inv.bytes : Inv → Bytes
  | .empty => natLe (0xFF * 2 ^ 88) 12
  | .nonfinite => natLe (0xFE * 2 ^ 88) 12
  | .win t a b => natLe (t * 2 ^ 88 + intBits 44 a * 2 ^ 44 + intBits 44 b) 12

def Inv.read (bs : Bytes) : Inv :=
  let n := leNat (bs.take 12)
  let t := n / 2 ^ 88
  if t = 0xFF then .empty else if t = 0xFE then .nonfinite else .win t (intOf 44 (n / 2 ^ 44)) (intOf 44 n)

/-- The result of a final partial (R143), rounded to FP32. -/
def Inv.val : Inv → Val
  | .empty => Val.zero
  | .nonfinite => .nan
  | .win t a b =>
    let n := a * 2 ^ 23 + b
    r32 (.fin (decide (n < 0)) n.natAbs (23 * (t : Int) - 172))

/-! ## COMPACT state (R144 to R148) -/

/-- Bytes of a group: FULL 384, COMPACT 196. -/
def groupBytes (compact : Bool) : Nat := if compact then 196 else 384

/-- The decoded elements of one COMPACT moment (R146); scale byte 0xFF marks the block NaN (R128). -/
def moment (v : Bool) (scale rho : Nat) (es : Bytes) : List Val :=
  if scale = 255 then es.map fun _ => Val.nan
  else es.map fun e =>
    let x := ((e4m3.decode e.toNat).add ((Val.ofInt (intOf 8 rho)).scale (-4))).scale ((scale : Int) - 127)
    match x with
    | .fin s m ex => if m = 0 then Val.zero else if v && s then Val.zero else .fin s m ex
    | x => x

/-- The encoded block of one moment: elements, scale, residue (R147). -/
def encodeMoment (us : List Val) : Bytes × Nat × Nat :=
  let (s, es) := mxBlock 4 .rne [] us
  let errs := (List.zip us es).map fun x => (x.1.scale (127 - (s : Int))).add (e4m3.decode x.2).neg
  let t := (errs.foldl Val.add Val.zero).scale (-1)
  (es.map fun e => BitVec.ofNat 8 e, s, intBits 8 (clampInt (-127) 127 (roundInt .rne 0 t)))

/-- Masters, m and v of a group's bytes, as FP32 values. -/
def readGroup (compact : Bool) (b : Bytes) : List Val × List Val × List Val :=
  let i32 := seqFrom 0 32
  if compact then
    (i32.map fun i => ofF32 (fieldAt b (2 * i) 2 * 65536 + fieldAt b (0x40 + 2 * i) 2),
     moment false (fieldAt b 0xC0 1) (fieldAt b 0xC1 1) (slice b 0x80 32), moment true (fieldAt b 0xC2 1) (fieldAt b 0xC3 1) (slice b 0xA0 32))
  else
    (i32.map fun i => ofF32 (fieldAt b (4 * i) 4), i32.map fun i => ofF32 (fieldAt b (0x80 + 4 * i) 4), i32.map fun i => ofF32 (fieldAt b (0x100 + 4 * i) 4))

/-- The bytes of a group. -/
def writeGroup (compact : Bool) (w m v : List Val) : Bytes :=
  if compact then
    let (me, ms, mr) := encodeMoment m
    let (ve, vs, vr) := encodeMoment v
    w.flatMap (fun x => natLe (toF32 x / 65536) 2) ++ w.flatMap (fun x => natLe (toF32 x % 65536) 2) ++ me ++ ve ++
      natLe ms 1 ++ natLe mr 1 ++ natLe vs 1 ++ natLe vr 1
  else (w ++ m ++ v).flatMap fun x => natLe (toF32 x) 4

end Sys2Proof.Machine
end

