-- ==== Sys2Proof/Machine/Activation.lean ====
section
/-! DEFINITION. GELU in its tanh form and SiLU, known to two units in the last place (spec/06_tensor_complex.md R165, R166). Both are x / (1 + e^(-t)): SiLU with t = x, GELU with t = 2 √(2/π) (x + 0.044715 x³). -/

namespace Sys2Proof.Machine

open Sys2Proof

/-- Fraction bits of the fixed-point numbers here. -/
def actFrac : Nat := 600

/-- √(2/π) to 90 digits, in fixed point. -/
def sqrtTwoOverPi : Nat :=
  797884560802865355879892119868763736951717262329869315331851659341315851798603677002504667 * 2 ^ actFrac / 10 ^ 90

/-- The terms of e^t that are left, the next of index `i`, from the term before it; `t` and the sum in fixed point. -/
def expTerms (t : Nat) : Nat → Nat → Nat → Nat
  | 0, _, _ => 0
  | n + 1, i, term =>
    let u := term * t / (i * 2 ^ actFrac)
    u + expTerms t n (i + 1) u

/-- e^t for t from 0 to 200, in fixed point: 1,000 terms leave less than 2^-600 of it. -/
def expFx (t : Nat) : Nat := 2 ^ actFrac + expTerms t 1000 1 (2 ^ actFrac)

/-- 1 / (1 + e^(-t)) in fixed point; beyond 200 on either side it is 1 or 0 to 2^-288. -/
def logistic (t : Int) : Nat :=
  let one : Nat := 2 ^ actFrac
  if 200 * (one : Int) < t then one
  else if t < -200 * (one : Int) then 0
  else
    let e := expFx t.natAbs
    if t < 0 then one * one / (one + e) else one * e / (one + e)

/-- A finite FP32 value in fixed point; exact, for an FP32 value is a multiple of 2^-149. -/
def fxOf (neg : Bool) (m : Nat) (e : Int) : Int := Val.units neg m (e + actFrac) 0

/-- The argument of the logistic function for activation 2 (GELU) or 3 (SiLU). -/
def actArg (act : Nat) (x : Int) : Int :=
  let one : Int := 2 ^ actFrac
  if act = 2 then 2 * (sqrtTwoOverPi : Int) * (x + 44715 * (x * x / one * x / one) / 1000000) / one else x

/-- GELU or SiLU of a value in fixed point. -/
def actFx (act : Nat) (x : Int) : Int := x * (logistic (actArg act x) : Int) / 2 ^ actFrac

/-- An FP32 value lies within two units in the last place of the value `y` in fixed point; what the series above leaves out is allowed for. -/
def withinTwoUlp (y : Int) : Val → Bool
  | .fin s m e =>
    let ulp := 2 ^ (max (actFrac - 149) (Nat.log2 y.natAbs - 23))
    decide ((fxOf s m e - y).natAbs ≤ 2 * ulp + y.natAbs / 2 ^ 60)
  | _ => false

/-- GELU (2) or SiLU (3) of an FP32 value: a free value within two units in the last place of the exact function, the same for the same input. DESIGN CHOICE (log 9): the spec gives no value at −infinity, where it is free. -/
def activation (act : Nat) (v : Val) : Val :=
  let w := ofF32 (Config.activation act (toF32 v) % 2 ^ 32)
  match v with
  | .nan => .nan
  | .inf neg => if neg then w else .inf false
  | .fin s m e =>
    let y := actFx act (fxOf s m e)
    if withinTwoUlp y w then w else r32 (.fin (decide (y < 0)) y.natAbs (-(actFrac : Int)))

end Sys2Proof.Machine
end

