-- ==== Sys2Proof/Machine/DescForm.lean ====
section
/-! DEFINITION. Tensor descriptors: their fields, their own rules and where their rows lie (spec/04 R110, spec/05 R123, R128, R130). -/

namespace Sys2Proof.Machine

open Sys2Proof

/-- A tensor descriptor (R110). -/
structure Desc where
  addr : Nat
  fmt : Nat
  rank : Nat
  flags : Nat
  tid : Nat
  dims : List Nat
  strides : List Nat
  scaleOff : Nat
deriving DecidableEq, Repr

namespace Desc

/-- Reads the 64 bytes of a descriptor. -/
def parse (b : Bytes) : Desc :=
  { addr := fieldAt b 0 8, fmt := fieldAt b 8 1, rank := fieldAt b 9 1, flags := fieldAt b 0xA 2, tid := fieldAt b 0xC 4
    dims := (seqFrom 0 6).map fun i => fieldAt b (0x10 + 4 * i) 4
    strides := (seqFrom 0 5).map fun i => fieldAt b (0x28 + 4 * i) 4
    scaleOff := fieldAt b 0x3C 4 }

/-- MX block scaled. -/
def mx (d : Desc) : Bool := d.flags % 2 = 1
/-- The format code. -/
def code (d : Desc) : Nat := fmtCode d.fmt
/-- Extent `i`. -/
def dim (d : Desc) (i : Nat) : Nat := d.dims.getD i 1
/-- Bits of an element. -/
def bits (d : Desc) : Nat := codeBits d.code
/-- Rows: the product of the outer extents. -/
def rows (d : Desc) : Nat := (d.dims.drop 1).foldl (· * ·) 1
/-- Elements. -/
def elems (d : Desc) : Nat := d.dim 0 * d.rows

/-- The descriptor's own rules (R110, R123, R128, R130). -/
def ok (d : Desc) : Bool :=
  fmtByteOk d.fmt && decide (1 ≤ d.rank ∧ d.rank ≤ 6) && decide (d.flags < 2) && mxOk d.code d.mx &&
    ((d.dims.drop d.rank).all fun n => n = 1) && (d.mx || decide (d.scaleOff = 0)) && (!d.mx || decide (d.dim 0 % 32 = 0)) &&
    ((d.code ≠ 6 && d.code ≠ 7 && d.code ≠ 8) || d.strides.all fun n => n % 32 = 0)

/-- The first element of a row in elements from the address: outer indices by the strides. -/
def rowStart (d : Desc) (row : Nat) : Nat :=
  ((List.zip (d.dims.drop 1) d.strides).foldl (fun (acc : Nat × Nat) p => (acc.1 / p.1, acc.2 + acc.1 % p.1 * p.2)) (row, 0)).2

/-- Address and bytes of a row's elements. -/
def rowAt (d : Desc) (row : Nat) : Nat × Nat := (d.addr + d.rowStart row * d.bits / 8, (d.dim 0 * d.bits + 7) / 8)

/-- Address and bytes of a row's scale bytes. -/
def scaleAt (d : Desc) (row : Nat) : Nat × Nat := (d.addr + 64 * d.scaleOff + row * (d.dim 0 / 32), if d.mx then d.dim 0 / 32 else 0)

/-- The shapes are equal: format, rank and extents (R114). -/
def sameShape (a b : Desc) : Bool := decide (a.fmt = b.fmt ∧ a.rank = b.rank ∧ a.dims = b.dims)

end Desc

end Sys2Proof.Machine
end

