-- ==== Sys2Proof/Machine/HostState.lean ====
section
/-! DEFINITION. The state of the host endpoint (spec/11_host_endpoint.md). -/

namespace Sys2Proof.Machine

/-- A read the device has outstanding in a function's host address space (R314). -/
structure ExtRead where
  tag : Nat
  /-- Function on the host link; 0 on an accelerator port. -/
  fn : Nat
  owner : Owner
  addr : Nat
  len : Nat
  /-- Outstanding when Bus Master Enable was cleared or the function was reset: its completion is discarded (R315, R317). -/
  discard : Bool := false
deriving DecidableEq, Repr

/-- Bytes that have arrived for an owner's read. -/
structure Arrived where
  owner : Owner
  addr : Nat
  bytes : Bytes
  /-- 0 where the data is good; else the status the read ended with. -/
  status : Nat := 0
deriving DecidableEq, Repr

/-- A host request that waits for the return to P0 (R506). -/
inductive HeldReq where
  | bar4Read (fn off len : Nat)
  | bar4Write (fn off : Nat) (bytes : Bytes)
  | doorbell (fn q tail : Nat)
  | cqHead (fn q head : Nat)
  | enable (fn q : Nat) (ctrl : W32)
  | disable (fn q : Nat)
  | sync (fn index : Nat) (value : W32)
  | nvSq (fn q tail : Nat)
  | nvCq (fn q head : Nat)
  | hbCtrl (fn : Nat) (value : W32)
  | queueReg (fn q off : Nat) (value : W32)
deriving DecidableEq, Repr

/-- The function a held request came to. -/
def HeldReq.fn : HeldReq → Nat
  | .bar4Read fn _ _ | .bar4Write fn _ _ | .doorbell fn _ _ | .cqHead fn _ _ | .enable fn _ _ | .disable fn _ | .sync fn _ _
  | .nvSq fn _ _ | .nvCq fn _ _ | .hbCtrl fn _ | .queueReg fn _ _ _ => fn

/-- One physical function at the endpoint. -/
structure HostFn where
  /-- HEP_FN_STATUS.bme: the DMA gate is open (Bus Master Enable). -/
  bme : Bool := false
  /-- Memory Space Enable. -/
  mse : Bool := false
  /-- Interrupt Disable of the Command register. -/
  intDisable : Bool := false
  /-- An Assert_INTA is outstanding (R311). -/
  intxSent : Bool := false
  /-- Completion timeout value of Device Control 2 (R314). -/
  cplRange : Nat := 0
  /-- Enable Relaxed Ordering (R312). -/
  relaxed : Bool := true
  /-- Max_Read_Request_Size of Device Control: 128 B times 2 to its power (R299); at reset 512 B, PRESUMED (log 90). -/
  mrrs : Nat := 2
  /-- ASPM Control of Link Control (R299). -/
  aspm : Nat := 0
  /-- BAR0, BAR2 and BAR4 with their upper halves BAR1, BAR3 and BAR5 (R301); at reset 0, PRESUMED (log 90). -/
  bar0 : Nat := 0
  bar2 : Nat := 0
  bar4 : Nat := 0
  /-- 10-Bit Tag Requester Enable (R299). -/
  tag10 : Bool := false
  /-- D3hot (R299). -/
  d3 : Bool := false
  /-- HEP_FN_EVENTS. -/
  events : W32 := 0
  /-- HEP_HB_CTRL.armed. -/
  hbArmed : Bool := false
  /-- HEP_CPL_TIMEOUT_COUNT. -/
  cplTimeouts : Nat := 0
  /-- HEP_DISCARD_CPL_COUNT. -/
  discards : Nat := 0
  /-- HEP_BAR_DROP_COUNT. -/
  barDrops : Nat := 0
  /-- HEP_FN_STATUS.frozen. -/
  frozen : Bool := false
  /-- Records held while frozen, in posting order (R321). -/
  held : List HeldRecord := []
  /-- HEP_FN_STATUS.flr_active. -/
  flrActive : Bool := false
  /-- AER uncorrectable error status: bit 14 Completion Timeout, 15 Completer Abort, 16 Unexpected Completion, 20 Unsupported Request. -/
  aerUncorr : W32 := 0
  /-- AER correctable error status: bit 13 Advisory Non-Fatal. -/
  aerCorr : W32 := 0
  /-- AER uncorrectable error mask. -/
  aerMask : W32 := 0x00400000#32
  /-- AER uncorrectable error severity. -/
  aerSeverity : W32 := 0x00462030#32
  /-- AER correctable error mask. -/
  aerCorrMask : W32 := 0x0000E000#32
  /-- AER first error pointer. -/
  aerFirst : Nat := 0
  /-- AER header log, 16 bytes as a number. -/
  aerHeader : Nat := 0
deriving DecidableEq, Repr

/-- The host endpoint. -/
structure HostEndpoint where
  /-- Functions 0 to 15. -/
  fns : Tbl HostFn := []
  /-- Reads outstanding across all functions, at most 768. -/
  reads : List ExtRead := []
  /-- Tags in quarantine with their function (R314). -/
  quarantine : List (Nat × Nat) := []
  /-- Read data arrived and not yet used by its owner. -/
  arrived : List Arrived := []
  /-- HEP_PERST_N is low. -/
  perstLow : Bool := true
  /-- The start sequence has released the endpoint (R58 step 8). -/
  released : Bool := false
  /-- The host link is up (L0). -/
  linkUp : Bool := false
  /-- Rate, 1 to 6, and lanes the host link trained at (R299); 0 while it is down. -/
  speed : Nat := 0
  width : Nat := 0
  /-- Generation of the Device Descriptor Table (R307). -/
  ddtGen : Nat := 0
  /-- Host requests held for a return to P0, oldest first (R506). -/
  heldReqs : List HeldReq := []
deriving DecidableEq, Repr

end Sys2Proof.Machine
end

