-- ==== Sys2Proof/Machine/AccelState.lean ====
section
/-! DEFINITION. The state of the accelerator ports and of the cohort (spec/10_accelerator_ports_and_cohorts.md). -/

namespace Sys2Proof.Machine

/-- Slot states (APT_PORT_STATUS.slot_state). -/
inductive SlotState where
  | off
  | powering
  | on
  | fault
deriving DecidableEq, Repr

/-- One accelerator port with its slot. -/
structure Port where
  /-- APT_PORT_STATUS.cohort: cohort link mode (R272). -/
  cohort : Bool := false
  /-- Data Link Layer active. -/
  dl : Bool := false
  /-- APT_PORT_STATUS.speed. -/
  speed : Nat := 0
  /-- APT_PORT_STATUS.width. -/
  width : Nat := 0
  /-- APT_PORT_STATUS.flit. -/
  flit : Bool := false
  /-- APT_PORT_STATUS.slot_state. -/
  slot : SlotState := .off
  /-- APT_PORT_EVENTS. -/
  events : W32 := 0
  /-- APT_SLOT_CTRL. -/
  ctrl : W32 := 0x0000001F#32
  /-- APT_PWREN[n] high. -/
  pwren : Bool := false
  /-- APT_PERST_N[n] low. -/
  perstLow : Bool := true
  /-- APT_REFCLK[n] driven. -/
  refclk : Bool := false
  /-- The attention indicator as driven: 1 lit, 2 blink, 3 off. -/
  atnLed : Nat := 3
  /-- The power indicator as driven. -/
  pwrLed : Nat := 3
  /-- APT_SLOT_STATUS.present. -/
  present : Bool := false
  /-- APT_SLOT_STATUS.pwr_fault_now. -/
  pwrFault : Bool := false
  /-- APT_SLOT_STATUS.button_window. -/
  window : Bool := false
  /-- APT_SLOT_STATUS.cmd_busy. -/
  busy : Bool := false
  /-- The attention indicator blinks for a refused press (R284). -/
  refusing : Bool := false
  /-- AER uncorrectable error status of the root port (R273). -/
  aerUncorr : W32 := 0
  /-- AER uncorrectable error mask, severity and correctable error status and mask. -/
  aerMask : W32 := 0x00400000#32
  aerSeverity : W32 := 0x00462030#32
  aerCorr : W32 := 0
  aerCorrMask : W32 := 0x0000E000#32
  /-- AER first error pointer and header log. -/
  aerFirst : Nat := 0
  aerHeader : Nat := 0
  /-- An orderly power-down of the slot is under way (R283). -/
  poweringDown : Bool := false
  /-- APT_APERTURE. -/
  aperture : Nat := 0
  /-- The BARs of the accelerator's function 0, assigned in the port's bus address space (R274). -/
  bars : List BarInfo := []
  /-- Memory space and bus mastering of the accelerator's function 0 are enabled (R274). -/
  enabled : Bool := false
  /-- Reads outstanding, at most 768. -/
  reads : List ExtRead := []
  /-- Tags in quarantine (R277). -/
  quarantine : List Nat := []
  /-- APT_TRAIN_FAIL_COUNT. -/
  trainFails : Nat := 0
  /-- APT_CPL_TIMEOUT_COUNT. -/
  cplTimeouts : Nat := 0
  /-- APT_SURPRISE_COUNT. -/
  surprises : Nat := 0
  /-- Cohort member at the other end of a cohort link. -/
  partner : Option Nat := none
deriving DecidableEq, Repr

/-- A host read that the lead makes for a member whose queues it carries (R294). -/
structure CarriedRead where
  member : Nat
  tag : Nat
  addr : Nat
  len : Nat
deriving DecidableEq, Repr

/-- The accelerator port complex. -/
structure Accel where
  /-- Ports 0 to 7. -/
  ports : Tbl Port := []
  /-- APT_EVENTS. -/
  events : W32 := 0
  /-- APT_LATE_CPL_COUNT. -/
  lateCpl : Nat := 0
  /-- APT_UNCLAIMED_COUNT. -/
  unclaimed : Nat := 0
  /-- APT_FORWARD_LOST_COUNT. -/
  forwardLost : Nat := 0
  /-- APT_COHORT_STATUS.formed. -/
  formed : Bool := false
  /-- APT_COHORT_STATUS.members_present: members reachable. -/
  present : List Nat := []
  /-- COHORT_HOST_EN and serial of each member that joined (R305, R308). -/
  memberInfo : Tbl (Nat × Nat) := []
  /-- The descriptor sections of each member that joined: their types and entries (R308). -/
  memberDdt : Tbl (List (Nat × Bytes)) := []
  /-- Read data arrived and not yet used by its owner. -/
  arrived : List Arrived := []
  /-- Host reads the lead makes for members, until they are answered (R294). -/
  carried : List CarriedRead := []
deriving DecidableEq, Repr

end Sys2Proof.Machine
end

