-- ==== Sys2Proof/Machine/AnnealState.lean ====
section
/-! DEFINITION. The state of the training job in the Anneal engines (spec/07_anneal_reduction_and_optimizer.md). -/

namespace Sys2Proof.Machine

/-- Job states (R181). -/
inductive JobState where
  | unconfigured
  | configured
  | running
  | stopped
deriving DecidableEq, Repr

/-- The phases of a step (R179). -/
inductive Phase where
  | intake
  | scalars
  | update
  | writeback
deriving DecidableEq, Repr

/-- A partials message held in the exchange space (R195). -/
structure Part where
  step : Nat
  src : Nat
  /-- First element offset within the slice. -/
  off : Nat
  bytes : Bytes
deriving DecidableEq, Repr

/-- A gradient bucket (R184). -/
structure Bucket where
  id : Nat
  /-- Bytes 0x10 to 0x3F of its BUCKET_DEFINE. -/
  body : Bytes
  /-- The copy of its projection basis. -/
  q : Bytes := []
  /-- Accepted tokens of the step: contributor and slot sequence. -/
  arrived : List (Nat × Nat) := []
  /-- Accepted tokens of the next step (R190). -/
  early : List (Nat × Nat) := []
  /-- Its intake timed out (R193). -/
  timedOut : Bool := false
  /-- Its local contributions are summed and its partials sent. -/
  summed : Bool := false
  /-- The slice this device owns is combined into the gradient area. -/
  combined : Bool := false
  /-- Partials received for its slice. -/
  parts : List Part := []
deriving DecidableEq, Repr

/-- A layer group (R185), with its write-back. -/
structure Group where
  id : Nat
  fmt : Nat
  flags : Nat
  mask : Nat
  first : Nat
  count : Nat
  acc : Nat
  flagOff : Nat
  /-- Its update finished and its part was sent in this write-back. -/
  sent : Bool := false
  /-- Gather messages received for this write-back. -/
  parts : List Part := []
  /-- Written to the accelerators; its flags are due. -/
  written : Bool := false
  /-- Its flags are visible. -/
  ready : Bool := false
deriving DecidableEq, Repr

/-- The intake ring of a contributor (R189 to R192). -/
structure IRing where
  /-- Next expected sequence. -/
  next : Nat := 0
  /-- Slots released out of order. -/
  done : List Nat := []
  /-- Slots released in sequence order: the credit. -/
  credit : Nat := 0
deriving DecidableEq, Repr

/-- An optimizer rule (R186). -/
structure Rule where
  code : Nat := 0
  /-- c0 to c15, FP32 words. -/
  consts : List Nat := []
  program : List Nat := []
  /-- Factor table: first parameter, rows, columns. -/
  factors : List (Nat × Nat × Nat) := []
deriving DecidableEq, Repr

/-- A scalar message (R198). -/
structure Scalars where
  a : Nat := 0
  nonfinite : Bool := false
  ovf : Bool := false
  crc : Nat := 0
deriving DecidableEq, Repr

/-- The training job on this device. -/
structure Anneal where
  state : JobState := .unconfigured
  phase : Phase := .intake
  /-- Reason of the hold; none while nothing is held. -/
  hold : Option Nat := none
  /-- A state write of this step has happened (R180). -/
  wrote : Bool := false
  /-- Bytes 0x10 to 0x3F of SHARD_DEFINE. -/
  shard : Bytes := []
  /-- Parameters filled by a RESTORE or RESHARD: start_step is ignored (R188). -/
  restored : Bool := false
  /-- The member table of the manifest a RESTORE filled the shard from (R235). -/
  restoredTable : Bytes := []
  buckets : List Bucket := []
  /-- Layer groups, ids rising. -/
  groups : Tbl Group := []
  rule : Rule := {}
  /-- Replaced constants: index, value, first step (R187 SET_CONST). -/
  setConst : List (Nat × Nat × Nat) := []
  /-- A RULE_LOAD or GROUP_MAP of a running job that waits for the next update or write-back (R181). -/
  nextRule : Option Rule := none
  nextGroups : Tbl Group := []
  seed : Bytes := []
  step : Nat := 0
  k : Nat := 0
  b1p : Nat := 0x3F800000
  b2p : Nat := 0x3F800000
  intakeMs : Nat := 0
  exchangeMs : Nat := 0
  rings : Tbl IRing := []
  /-- The first token of the step has been accepted. -/
  timer : Bool := false
  /-- The START command that waits for the barrier or for the initial write-back. -/
  start : Option CmdRef := none
  /-- result0 and result1 of the command in `start`. -/
  startResult : Nat × Nat := (0, 0)
  /-- The shard's panes were rewritten by a re-shard that did not finish (R261). -/
  moved : Bool := false
  /-- The start barrier is open; digests received, by rank. -/
  barrier : Bool := false
  digests : Tbl Bytes := []
  /-- Ranks whose digest had not come when the barrier timed out: one that still comes is late (R68). -/
  lateDigests : List Nat := []
  /-- The write-back under way is the initial one: its flags take `step` itself (R207). -/
  initial : Bool := false
  /-- The STOP command that waits for the end of the write-back. -/
  stopping : Option CmdRef := none
  /-- Configuration digest of the start barrier (R188). -/
  digest : Bytes := []
  /-- The barrier's member table. -/
  table : Bytes := []
  /-- Scalar messages received: source rank and message. -/
  scalarsIn : Tbl Scalars := []
  /-- Scalar messages of step s + 1 from children ahead of this member. -/
  scalarsNext : Tbl Scalars := []
  /-- This member's own scalars, once every owned slice is combined. -/
  own : Option Scalars := none
  /-- The subtree's message has gone to the parent. -/
  scalarsUp : Bool := false
  /-- The global scalars of the step. -/
  global : Option Scalars := none
  /-- Adafactor sums received: factor index, source, step and FP32 words of rows then columns. -/
  sums : List (Nat × Part) := []
  /-- This step is skipped (R199). -/
  skip : Bool := false
  /-- Update units finished: layer groups in order, then the parameters in no group. -/
  restDone : Bool := false
  /-- c6 the step's gradients were formed with, an FP32 word. -/
  c6 : Nat := 0x3F800000
  /-- norm² and cf of the last step, FP32 words. -/
  normSq : Nat := 0
  clip : Nat := 0
  /-- Scope panes of a failed update that Lehr is asked to repair (R209). -/
  repair : List Nat := []
  /-- An ABORT of the next step from a member ahead of this one: step and reason. -/
  abortNext : Option (Nat × Nat) := none
  /-- ANL_EVENTS. -/
  events : W32 := 0
  skips : Nat := 0
  helds : Nat := 0
  lateTokens : Nat := 0
  dupTokens : Nat := 0
  badTokens : Nat := 0
  lateParts : Nat := 0
  ruleNonfinite : Nat := 0
  normDrops : Nat := 0
  /-- ANL_ENG_SEL. -/
  engSel : W32 := 0
deriving DecidableEq, Repr

end Sys2Proof.Machine
end

