-- ==== Sys2Proof/Machine/BootState.lean ====
section
/-! DEFINITION. The state of the configuration flash, the start sequence and firmware update (spec/02, spec/20). -/

namespace Sys2Proof.Machine

/-- What follows the programming of what stands before it in the flash queue. -/
inductive FlashNote where
  /-- A SERVICE command completes (R56, R57). -/
  | command (ref : CmdRef) (status r0 r1 : Nat)
  /-- A piece of a sideband download is written; the function whose VDM brought it, none for the sideband. -/
  | piece (vdm : Option Nat)
  /-- A withdrawn-pane-list copy is whole, with the list it holds (R90). -/
  | listCopied (panes : List Nat)
deriving DecidableEq, Repr

/-- One operation of the configuration flash (R24, R38, R40). -/
inductive FlashOp where
  | erase (sector : Nat)
  | program (addr : Nat) (bytes : Bytes)
  /-- A page of a withdrawn-pane-list copy: never held by the inhibit (R90). -/
  | listPart (addr : Nat) (bytes : Bytes)
  | note (n : FlashNote)
deriving DecidableEq, Repr

/-- The configuration flash and its admission point. -/
structure Flash where
  /-- The 128 MiB of the flash; unlisted bytes read 0xFF (erased). -/
  mem : Mem := []
  /-- Operations in order; while busy, the first one is issued to the flash. -/
  queue : List FlashOp := []
  /-- The first operation of the queue is issued. -/
  busy : Bool := false
  /-- An erase in progress is suspended by the inhibit (R24). -/
  suspended : Bool := false
  /-- Flight-log records held by the inhibit, oldest first (R24). -/
  retention : List Bytes := []
  /-- Flight-log appends dropped because the retention buffer was full (R24). -/
  dropped : Nat := 0
  /-- Flight-log ring: sector in use. -/
  logSector : Nat := 0
  /-- Flight-log ring: next free offset in the sector; 0 before the first record. -/
  logOff : Nat := 0
  /-- Flight-log ring: sequence of the sector in use. -/
  logSeq : Nat := 0
  /-- Erase count of each flight-log sector. -/
  logErases : Tbl Nat := []
  /-- Bytes the flight log has advanced since the last withdrawn-list copy began (R90). -/
  logSince : Nat := 0
  /-- Panes of the newest whole withdrawn-list copy in the flight log (R90). -/
  savedList : List Nat := []
  /-- A withdrawn-list copy is due after the inhibit lifts, or was abandoned by it (R90). -/
  listDue : Bool := false
deriving DecidableEq, Repr

/-- The states of a firmware bank (R41). -/
inductive BankState where
  | empty
  | valid
  | trial
  | bad
deriving DecidableEq, Repr

/-- The fields of a flash directory copy (R41). -/
structure Dir where
  seq : Nat := 0
  activeBank : Nat := 0
  bankA : BankState := .empty
  bankB : BankState := .empty
  trialLeft : Nat := 0
  activeProfile : Nat := 0
  /-- 0xFF if none. -/
  pendingProfile : Nat := 0xFF
deriving DecidableEq, Repr

/-- One component entry of a firmware manifest (R526). -/
structure Component where
  epoch : Nat
  acceptMin : List Nat
  firstBlock : Nat
  blockCount : Nat
deriving DecidableEq, Repr

/-- A firmware transfer in progress (R528, R531, R532). -/
structure Transfer where
  bank : Nat
  /-- Next byte expected, in order without gaps. -/
  next : Nat
  total : Option Nat
  /-- The manifest region has passed its checks (R527). -/
  manifestOk : Bool
  /-- 0 NVMe, 1 sideband, 2 SERVICE, 3 recovery. -/
  path : Nat
  /-- Image bytes received, in order. -/
  image : Bytes
deriving DecidableEq, Repr

/-- A live activation in progress (R535). -/
structure Activation where
  bank : Nat
  /-- The FW_ACTIVATE that waits for it; an activation of the sideband or of Firmware Commit has none. -/
  ref : Option CmdRef
  /-- 0 NVMe, 1 sideband, 2 SERVICE. -/
  path : Nat
  /-- Components already replaced, in the order replaced. -/
  done : List Nat
  /-- Components still to be handed over; the first is in handover. -/
  todo : List Nat
deriving DecidableEq, Repr

/-- A runtime setting in force (R54, R56). -/
structure Setting where
  tenant : Nat
  setting : Nat
  index : Nat
  value : Nat
  /-- settings_format of the firmware that wrote its record. -/
  format : Nat
deriving DecidableEq, Repr

/-- Start-up and firmware state. -/
structure Boot where
  /-- PWRGD has risen and core 0 may run the boot ROM (R28 step 7). -/
  pendingStart : Bool := false
  /-- The supervisor runs on core 0. -/
  supervisor : Bool := false
  /-- Boot halt (R45). -/
  halted : Bool := false
  /-- Recovery mode (R46). -/
  recovery : Bool := false
  /-- Safe start (R52). -/
  safe : Bool := false
  /-- Unowned start (R52). -/
  unowned : Bool := false
  /-- An orderly phase is running; its reset waits for its end (R62). -/
  orderly : Bool := false
  /-- Trigger of the reset that waits for the orderly phase. -/
  trigger : Nat := 0
  /-- The applied profile, as it stands in its slot. -/
  profile : Bytes := []
  /-- Slot of the applied profile. -/
  slot : Nat := 0
  /-- The bank the firmware runs from: 0 A, 1 B. -/
  bank : Nat := 0
  /-- firmware_version of the running firmware. -/
  version : Nat := 0
  /-- security_version of the running firmware. -/
  security : Nat := 0
  /-- settings_format of the running firmware. -/
  settingsFormat : Nat := 0
  /-- Running components 0 to 6. -/
  components : Tbl Component := []
  /-- SHA-256 of each running component's blocks. -/
  digests : Tbl Bytes := []
  /-- GAF_FW_STATUS.phase. -/
  phase : Nat := 0
  /-- GAF_FW_STATUS.component. -/
  component : Nat := 0
  /-- GAF_FW_STATUS.last_status. -/
  lastStatus : Nat := 0
  /-- GAF_FW_EVENTS. -/
  events : W32 := 0
  /-- GAF_SETTINGS_RESET_COUNT. -/
  settingsReset : Nat := 0
  /-- The transfer in progress. -/
  transfer : Option Transfer := none
  /-- The live activation in progress. -/
  activation : Option Activation := none
  /-- A core restarted since the running bank's 600 s of trial began (R529). -/
  trialBroken : Bool := false
  /-- The governing directory as the supervisor last wrote it (R41). -/
  dir : Dir := {}
  /-- No directory copy was valid at this start: the directory is rewritten once the start completes (R44). -/
  dirLost : Bool := false
  /-- Which directory copy, 0 or 1, governs. -/
  dirCopy : Nat := 0
  /-- Runtime settings whose records govern (R54 to R56). -/
  settings : List Setting := []
  /-- Runtime settings in force, until the next start (R539). -/
  force : List Setting := []
  /-- Settings store: sector in use, 0 to 15. -/
  storeSector : Nat := 0
  /-- Settings store: next free slot of that sector. -/
  storeSlot : Nat := 0
  /-- Settings store: sectors that hold records. -/
  storeUsed : List Nat := []
  /-- Settings store: sequence of the last record written. -/
  storeSeq : Nat := 0
  /-- The cohort: members joined, by index (R60). -/
  members : List Nat := []
  /-- Waiting for members, or for the lead (R60). -/
  memberWait : Bool := false
  /-- A cohort link whose ends report the same COHORT_ID stays down (R60). -/
  conflicts : List Nat := []
deriving DecidableEq, Repr

end Sys2Proof.Machine
end

