-- ==== Sys2Proof/Machine/ContractState.lean ====
section
/-! DEFINITION. The state of the command queues, the sync counters and the function registers (spec/04_command_contract.md). -/

namespace Sys2Proof.Machine

/-- The states of a queue (R102). -/
inductive QState where
  | disabled
  | running
  | paused
  | stopping
  | error
deriving DecidableEq, Repr

/-- A command the device has fetched: its handle and its 64 bytes (R107, R115). -/
structure Cmd where
  handle : Nat
  bytes : Bytes
  /-- Its acceptance record has been posted (R115). -/
  accepted : Bool := false
  /-- Words a long or waiting operation keeps while it runs. -/
  prog : List Nat := []
deriving DecidableEq, Repr

/-- A record of a queue that waits to be posted, and the completion slots reserved until it is (R106). -/
structure Owed where
  handle : Nat
  kind : Nat
  slots : Nat
deriving DecidableEq, Repr

/-- One queue with its register block (R100). -/
structure Queue where
  /-- HEP_QSQ_BASE_LO and HI. -/
  sqBase : W64 := 0
  /-- HEP_QCQ_BASE_LO and HI. -/
  cqBase : W64 := 0
  /-- HEP_QCTRL. -/
  ctrl : W32 := 0
  /-- HEP_QSTATUS.state. -/
  state : QState := .disabled
  /-- HEP_QSTATUS.generation. -/
  generation : Nat := 0
  /-- HEP_QSQ_HEAD. -/
  sqHead : Nat := 0
  /-- HEP_QCQ_TAIL. -/
  cqTail : Nat := 0
  /-- HEP_QCQ_HEAD. -/
  cqHead : Nat := 0
  /-- HEP_QERR. -/
  err : W32 := 0
  /-- HEP_QSEQ. -/
  seq : Nat := 0
  /-- HEP_QIGNORED_COUNT. -/
  ignored : Nat := 0
  /-- Last accepted tail (HEP_QDOORBELL, R104). -/
  tail : Nat := 0
  /-- Commands fetched and not started, in sequence order. -/
  fetched : List Cmd := []
  /-- Commands started whose final record is not posted, in start order. -/
  running : List Cmd := []
  /-- Records not yet posted: held for a frozen function or behind a held slot. -/
  owed : List Owed := []
deriving DecidableEq, Repr

/-- The queues of one function. -/
structure FnQueues where
  /-- Local queues 0 to 255. -/
  queues : Tbl Queue := []
  /-- HEP_SYNC[0] to HEP_SYNC[4,095]; unlisted counters hold 0. -/
  sync : Tbl W32 := []
  /-- The INTx level of R119. -/
  level : Bool := false
  /-- Tenant quiesce in force (R111). -/
  quiesced : Bool := false
  /-- The function's fault log of ignored BAR2 writes (R99). -/
  faultCount : Nat := 0
deriving DecidableEq, Repr

/-- The command contract. -/
structure Contract where
  /-- Functions 0 to 15. -/
  fns : Tbl FnQueues := []
  /-- HEP_FN_CONTRACT (R101). -/
  fnContract : W32 := 0x00010100#32
  /-- Engines whose queues a live activation pauses, by engine code (R535). -/
  pausedEngines : List Nat := []
deriving DecidableEq, Repr

end Sys2Proof.Machine
end

