-- ==== Sys2Proof/Machine/CrucibleState.lean ====
section
/-! DEFINITION. The state of the Crucible security subsystem and of the JTAG TAP it gates (spec/16_crucible_security.md). -/

namespace Sys2Proof.Machine

/-- An owner slot of the fuse bank (R426, R427). -/
structure OwnerSlot where
  /-- Owner wrap key fuses; empty while none is blown. -/
  owk : Bytes := []
  /-- Owner key hash fuses; empty while none is blown. -/
  hash : Bytes := []
  valid : Bool := false
  revoked : Bool := false
deriving DecidableEq, Repr

/-- Fuse steps of a zeroization not yet done (R453). -/
inductive FuseStep where
  /-- Revoke an owner slot and blow its owk. -/
  | owner (slot : Nat)
  /-- Blow the device unique secret and decommission. -/
  | device
deriving DecidableEq, Repr

/-- The fuse bank (R426); the device unique secret and the vendor key hash are constants of Config. -/
structure Fuses where
  /-- 0 MANUFACTURE, 1 DEPLOYED, 2 DECOMMISSIONED. -/
  lifeCycle : Nat := 0
  /-- Every fuse of dus is blown (R451 level 3). -/
  dusGone : Bool := false
  /-- Owner slots 0 to 3. -/
  slots : Tbl OwnerSlot := []
  fwArb : Nat := 0
  profArb : Nat := 0
  debugDisable : Bool := false
  /-- Fuse steps pending in retention SRAM (R453). -/
  pending : List FuseStep := []
deriving DecidableEq, Repr

/-- One key of the key store (R432). -/
structure KeyEntry where
  /-- 1 SA inbound, 2 SA outbound, 3 XTS pair, 4 epoch key. -/
  cls : Nat
  tenant : Nat
  key : Bytes
deriving DecidableEq, Repr

/-- States of the TAP controller (IEEE 1149.1). -/
inductive Tap where
  | reset | idle | selDr | capDr | shDr | ex1Dr | pauDr | ex2Dr | updDr | selIr | capIr | shIr | ex1Ir | pauIr | ex2Ir | updIr
deriving DecidableEq, Repr

/-- The JTAG TAP. -/
structure Jtag where
  tap : Tap := .reset
  /-- The instruction in force: 0 BYPASS, 1 IDCODE, 2 SAMPLE/PRELOAD, 3 EXTEST, 4 debug. -/
  ir : Nat := 1
  /-- The shift register, next bit out first. -/
  shift : List Bool := []
deriving DecidableEq, Repr

/-- Crucible. -/
structure Crucible where
  /-- CRU_STATUS.state: 0 SELF_TEST, 1 OPERATIONAL, 2 ERROR, 3 ZEROIZING. -/
  state : Nat := 0
  /-- CRU_STATUS.approved. -/
  approved : Bool := false
  /-- CRU_STATUS.debug_unlocked and debug_scope. -/
  debugScope : Nat := 0
  /-- CRU_EVENTS. -/
  events : W32 := 0
  /-- CRU_SELFTEST. -/
  selftest : W32 := 0
  /-- CRU_TAG_FAIL_COUNT. -/
  tagFail : Nat := 0
  /-- CRU_KEY_DENY_COUNT. -/
  keyDeny : Nat := 0
  /-- CRU_ENTROPY_FAIL_COUNT. -/
  entropyFail : Nat := 0
  /-- CRU_ZEROIZE_COUNT. -/
  zeroizes : Nat := 0
  /-- CRU_KEYCACHE_MISS_COUNT. -/
  cacheMiss : Nat := 0
  fuses : Fuses := {}
  /-- The key store: index to key in use. -/
  keys : Tbl KeyEntry := []
  /-- Generation of each index of the key store (R432). -/
  gens : Tbl Nat := []
  /-- Indexes unwrapped into the key cache, at most 16,384. -/
  cache : List Nat := []
  /-- Tenant import keys unwrapped at start (R430, R455). -/
  tik : Tbl Bytes := []
  /-- K_job. -/
  kJob : Option Bytes := none
  /-- Nonces given out and not yet used or expired (R436). -/
  nonces : List Bytes := []
  /-- A health test has failed since the last start (R442). -/
  entropyFailed : Bool := false
  /-- Generate requests since the last reseed (R443). -/
  drbgRequests : Nat := 0
  /-- Reseeds of the DRBG since start. -/
  drbgSeeds : Nat := 0
  /-- Rekeys of the mask generator since start. -/
  maskKeys : Nat := 0
  /-- The round unit (0 to 1,023) or GHASH unit (1,024 to 1,151) the periodic test takes next (R444). -/
  nextTest : Nat := 0
  /-- Writes of RSV fields and refused writes (R14). -/
  faultCount : Nat := 0
  jtag : Jtag := {}
deriving DecidableEq, Repr

end Sys2Proof.Machine
end

