-- ==== Sys2Proof/Machine/FabricState.lean ====
section
/-! DEFINITION. The state of the Blowpipe fabric and the memory subsystem (spec/03_fabric_and_memory.md). -/

namespace Sys2Proof.Machine

/-- One entry of a controller's table of corrected errors (R90). -/
structure CeEntry where
  pane : Nat
  count : Nat
  /-- Order of the entry's last event, from the controller's event count. -/
  last : Nat
deriving DecidableEq, Repr

/-- A write held at a controller's admission point, or waiting in the fabric behind a full hold buffer (R91). -/
structure HeldWrite where
  pa : Nat
  bytes : Bytes
deriving DecidableEq, Repr

/-- One HBM controller with its stack (R81 to R95). -/
structure MemCtrl where
  /-- Quadrants trained, bit q (MEM_CTRL_STATUS.quadrant_up). -/
  quadrantUp : Nat := 0
  /-- Quadrants in self-refresh, bit q (R84). -/
  quadrantSr : Nat := 0
  /-- MEM_GLOBAL_STATUS.trained of this stack. -/
  trained : Bool := false
  /-- MEM_ERR_EVENTS. -/
  events : W32 := 0
  /-- MEM_CE_COUNT. -/
  ceCount : Nat := 0
  /-- MEM_UE_COUNT. -/
  ueCount : Nat := 0
  /-- MEM_LAST_ERR_PANE. -/
  lastPane : W32 := 0
  /-- MEM_LAST_ERR_SYND. -/
  lastSynd : W32 := 0
  /-- MEM_PIN_SEL. -/
  pinSel : W32 := 0
  /-- Marked pins of each channel, at most two, in retention SRAM (R87). -/
  marks : Tbl (List Nat) := []
  /-- Corrected (channel, pin, block) triples since the last completed scrub pass (R87). -/
  pinHits : List (Nat × Nat × Nat) := []
  /-- Corrected errors per pane, at most 4,096 entries (R90). -/
  ceTable : List CeEntry := []
  /-- Error events this controller has counted, the order of CeEntry.last. -/
  ceClock : Nat := 0
  /-- Block of the stack the patrol scrub reads next (R89). -/
  scrubNext : Nat := 0
  /-- Writes held, at most 256, in arrival order (R91). -/
  held : List HeldWrite := []
  /-- Writes waiting in the fabric behind a full hold buffer, in arrival order (R91). -/
  waiting : List HeldWrite := []
  /-- MEM_HELD_WRITES. -/
  heldCount : Nat := 0
  /-- This controller's copy of the parity bit (R91). -/
  parity : Bool := false
deriving DecidableEq, Repr

/-- One entry of the pane translation table (R82). -/
structure PaneEntry where
  phys : Nat
  read : Bool
  write : Bool
  /-- Mapped by the device for the job (R112). -/
  forJob : Bool := false
deriving DecidableEq, Repr

/-- One timing domain with its bridge (R77 to R80). -/
structure Domain where
  overflow : Nat := 0
deriving DecidableEq, Repr

/-- A command whose results wait for held writes to be admitted before its record may be posted (R73, R91). -/
structure Unseen where
  ref : CmdRef
  status : Nat
  detail : Nat
  r0 : Nat
  r1 : Nat
  /-- Physical panes with held writes of this command. -/
  panes : List Nat
deriving DecidableEq, Repr

/-- An index or flag word a unit writes once the writes it reports are visible (R73). -/
structure FlagWrite where
  tenant : Nat
  off : Nat
  bytes : Bytes
  /-- Physical panes with held writes it reports. -/
  panes : List Nat
deriving DecidableEq, Repr

/-- The fabric and the memory subsystem. -/
structure Fabric where
  /-- Corrected words of the SRAM pools, by row of the table of R93: 0 the packet buffer, 1 the engine's state, 2 the traffic manager, 3 Marver, 4 Anneal, 5 Lehr, 6 storage. -/
  sramCe : Tbl Nat := []
  /-- BLP_STATUS.cmp_present, bit c. -/
  cmpPresent : Nat := 0
  /-- BLP_STATUS.iod_link_up, bit c. -/
  iodLinkUp : Nat := 0
  /-- BLP_STATUS.ring_link_up, bit c. -/
  ringLinkUp : Nat := 0
  /-- Consecutive failed replays of links 0 to 3 (I/O die to die c) and 4 to 7 (ring link c − 4). -/
  linkRun : Tbl Nat := []
  /-- BLP_LINK_EVENTS. -/
  linkEvents : W32 := 0
  /-- BLP_LINK_RETRY_COUNT. -/
  retryCount : Nat := 0
  /-- BLP_LATE_DISCARD_COUNT. -/
  lateDiscard : Nat := 0
  /-- BLP_TIMEOUT_WON_COUNT. -/
  timeoutWon : Nat := 0
  /-- BLP_ARB_SLOW_COUNT. -/
  arbSlow : Nat := 0
  /-- BLP_DOMAIN_SEL. -/
  domainSel : W32 := 0
  /-- The 248 timing domains (R77). -/
  domains : Tbl Domain := []
  /-- MEM_SNAP_PARITY [0]. -/
  parity : Bool := false
  /-- MEM_SNAP_PARITY [15:8]: controllers that acknowledged the last flip. -/
  flipAcks : Nat := 0
  /-- MEM_WITHDRAW_CTRL. -/
  withdrawCtrl : W32 := 0x00001808#32
  /-- MEM_SCRUB_CTRL. -/
  scrubCtrl : W32 := 0x00000118#32
  /-- Panes withdrawn, oldest first, at most 65,536 (R90). -/
  withdrawn : List Nat := []
  /-- Withdrawal candidates not yet moved (R90). -/
  candidates : List Nat := []
  /-- Panes repaired after an uncorrectable error (R90). -/
  repaired : List Nat := []
  /-- The eight HBM controllers. -/
  ctrls : Tbl MemCtrl := []
  /-- The pane translation table: for each tenant (16 is the device), its panes by offset (R82). -/
  panes : Tbl (Tbl PaneEntry) := []
  /-- Owner of each placed physical pane: 0 to 15 a tenant, 16 the device, 17 the job's own space (R183). -/
  placed : Tbl Nat := []
  /-- The scope bitmap of R91: physical panes in scope, rising. -/
  scope : List Nat := []
  /-- The done bitmap of R91: physical panes whose done bit is 1, rising. -/
  doneBits : List Nat := []
  /-- Priority copy requests sent to Lehr, oldest first (R91). -/
  copyReq : List Nat := []
  /-- Armed panes whose copy waits for a free parison pane (R221). -/
  starved : List Nat := []
  /-- No parison pane was free at the last copy; writes held from now on wait on the parison area too, until a pane of it is freed (R221). -/
  parisonShort : Bool := false
  /-- LHR_PARISON_WAIT_COUNT: writes that waited on the parison area (R221). -/
  parisonWaits : Nat := 0
  /-- LHR_EVENTS [3] parison_full: a write has waited on the parison area. -/
  parisonFull : Bool := false
  /-- HBM bytes by physical address PA[38:0]; unlisted bytes read 0 (cleared at step 6 of R58). -/
  hbm : Mem := []
  /-- Blocks (PA / 64) in uncorrectable error (R88). -/
  bad : List Nat := []
  /-- Commands whose records wait on held writes (R73). -/
  unseen : List Unseen := []
  /-- Records whose slots lie in armed panes, oldest first (R73). -/
  records : List HeldRecord := []
  /-- Index and flag words that wait for the writes they report, oldest first (R73). -/
  flags : List FlagWrite := []
  /-- Memory fault log of refused register writes and RSV writes (R14, R96). -/
  faultCount : Nat := 0
  /-- Fabric fault log of RSV writes (R14). -/
  blpFaultCount : Nat := 0
deriving DecidableEq, Repr

end Sys2Proof.Machine
end

