-- ==== Sys2Proof/Machine/GafferState.lean ====
section
/-! DEFINITION. The state of the Gaffer control complex: its DV32 cores and its mailbox FIFOs (spec/17_gaffer_control_complex.md, spec/18_dv32_instruction_set.md). -/

namespace Sys2Proof.Machine

/-- One DV32 core (R473, R490) with its local SRAM and its watchdog. -/
structure Core where
  /-- g1 to g31; g0 is never listed and reads 0. -/
  g : Tbl W32 := []
  pc : W32 := 0
  /-- PSR: [0] mode, [1] ie, [2] pmode, [3] pie. -/
  psr : W32 := 0
  epc : W32 := 0
  ecause : W32 := 0
  eaddr : W32 := 0
  repcnt : W32 := 0
  kscratch : W32 := 0
  vbase : W32 := 0x38000#32
  mpuBase : Tbl W32 := []
  mpuLimit : Tbl W32 := []
  mpuAttr : Tbl W32 := []
  /-- Local SRAM, 256 KiB; unlisted bytes read 0. -/
  sram : Mem := []
  /-- The last instruction executed was an ERET (R489). -/
  afterEret : Bool := false
  /-- The core waits in WAITI. -/
  waiting : Bool := false
  /-- Alarm of TIMER_SET armed, µs. -/
  alarm : Option Nat := none
  /-- An alarm interrupt is pending. -/
  alarmPend : Bool := false
  /-- A supervisor signal is pending. -/
  signalPend : Bool := false
  /-- Panes the writes of the COPY the program has called still wait on (R73, R91). -/
  copying : List Nat := []
  /-- GAF_STATUS.running. -/
  running : Bool := false
  /-- GAF_STATUS.restarting. -/
  restarting : Bool := false
  /-- GAF_STATUS.prog_running. -/
  program : Bool := false
  /-- GAF_RESTART_COUNT. -/
  restarts : Nat := 0
  /-- GAF_LAST_CAUSE. -/
  lastCause : Nat := 0
  /-- The core was halted after four restarts in 60 s (R466). -/
  halted : Bool := false
deriving DecidableEq, Repr

/-- One mailbox FIFO (R457 to R463). -/
structure Fifo where
  /-- Entries, head first, at most 32 of 64 bits. -/
  entries : List Nat := []
  /-- The last entry popped; 0 if none since reset. -/
  last : Nat := 0
  /-- GAF_MB_CTRL.mode: flag and underrun. -/
  flagMode : Bool := false
  /-- GAF_MB_CTRL.packet. -/
  packet : Bool := false
  /-- GAF_MB_CTRL.threshold. -/
  threshold : Nat := 0
  underrun : Bool := false
  overrun : Bool := false
  msgGap : Bool := false
  ctrlIgnored : Bool := false
  /-- Entries the producer has still to push of its message. -/
  toPush : Nat := 0
  /-- Entries the producer has pushed of its incomplete message. -/
  pushed : Nat := 0
  /-- Entries the consumer has still to pop of the message it is in. -/
  toPop : Nat := 0
deriving DecidableEq, Repr

/-- The Gaffer complex. -/
structure Gaffer where
  /-- Cores 0 to 7. -/
  cores : Tbl Core := []
  /-- FIFOs 0 to 511. -/
  fifos : Tbl Fifo := []
  /-- GAF_EVENTS. -/
  events : W32 := 0
  /-- GAF_CORE_SEL. -/
  coreSel : Nat := 0
  /-- GAF_MB_OVERRUN_COUNT. -/
  overruns : Nat := 0
  /-- Entries of incomplete messages dropped at restarts (R465). -/
  dropped : Nat := 0
  /-- Writes of RSV fields and refused writes (R14). -/
  faultCount : Nat := 0
deriving DecidableEq, Repr

end Sys2Proof.Machine
end

