-- ==== Sys2Proof/Machine/LehrState.lean ====
section
/-! DEFINITION. The state of Lehr and of the job's membership (spec/08_lehr_checkpoint_and_restore.md, spec/09_elastic_recovery_and_placement.md). -/

namespace Sys2Proof.Machine

/-- A shard report (R229). -/
structure ShardReport where
  segments : Nat
  scope : Nat
  first : Nat
  count : Nat
  digest : Bytes
  /-- Buddies with the kind of each slot. -/
  buddies : List (Nat × Nat)
  /-- Onward legs started: 3 drive, 4 remote with its target. -/
  legs : List (Nat × Nat)
deriving DecidableEq, Repr

/-- An onward leg of an epoch (R227). -/
structure Leg where
  /-- 3 drive, 4 remote. -/
  kind : Nat
  target : Nat
  /-- The epoch area it writes (R227). -/
  area : Nat := 0
  /-- Segments of the shard at the epoch point. -/
  segs : Nat := 0
  /-- Segments it has written. -/
  written : List Nat := []
  /-- Bytes of the manifest it writes after the commit. -/
  manifest : Nat := 0
  /-- A drive leg has written the manifest. -/
  manifestDone : Bool := false
  /-- The flush of a drive leg, and after it the header's final write, are on their way. -/
  flushing : Bool := false
deriving DecidableEq, Repr

/-- The epoch in flight (R214 to R217, R230). -/
structure Epoch where
  num : Nat
  step : Nat
  nonce : Bytes
  /-- Member table, update count and power products at the epoch point (R215, R228). -/
  table : Bytes := []
  k : Nat := 0
  b1p : Nat := 0
  b2p : Nat := 0
  /-- Panes of the scope at the flip (R222). -/
  panes : Nat := 0
  /-- Rule byte at the epoch point (R228). -/
  rule : Nat := 0
  /-- Leg flags of the TAKEs attached to it (R239). -/
  flags : Nat := 0
  /-- State code of R214. -/
  state : Nat := 1
  /-- Tree children whose acknowledgements have arrived. -/
  acks : List Nat := []
  /-- This member's subtree has acknowledged. -/
  ackSent : Bool := false
  /-- Every member has acknowledged, as the recorder knows it. -/
  ackAll : Bool := false
  /-- Copies in the parison area: scope index and parison slot. -/
  copies : List (Nat × Nat) := []
  /-- Segment digests of the segments staged. -/
  digests : Tbl Bytes := []
  /-- Buddies that have acknowledged each segment. -/
  acked : List (Nat × Nat) := []
  /-- Kind of the slot at each buddy: 1 HBM, 2 drive. -/
  kinds : Tbl Nat := []
  /-- Refusals of each segment by each buddy. -/
  refusals : List (Nat × Nat) := []
  /-- Shard reports received, at the recorder. -/
  reports : Tbl ShardReport := []
  /-- The manifest the recorder holds as PENDING. -/
  pending : Option Bytes := none
  /-- CHECKPOINT TAKE commands attached to it. -/
  takes : List CmdRef := []
  legs : List Leg := []
  /-- The onward legs started at the flip, failed ones too: kind and target (R229). -/
  started : List (Nat × Nat) := []
deriving DecidableEq, Repr

/-- A committed epoch whose manifest this device holds (R234). -/
structure Committed where
  num : Nat
  step : Nat
  manifest : Bytes
deriving DecidableEq, Repr

/-- A replica slot this buddy holds for a rank (R225). -/
structure Slot where
  /-- Origin rank in the membership of generation `gen`. -/
  rank : Nat
  gen : Nat
  /-- Bytes reserved for it, and where it begins in the replica namespace. -/
  size : Nat
  base : Nat := 0
  /-- The epoch it holds or receives; 0 while it is free. -/
  epoch : Nat := 0
  onDrive : Bool := false
  committed : Bool := false
  /-- Segments stored: header, ciphertext and tag. -/
  segs : Tbl Bytes := []
deriving DecidableEq, Repr

/-- A pull under way: what it is for and the holders left (R236, R559). -/
structure Pull where
  /-- The scope pane it repairs; none for a RESTORE or re-shard (R238). -/
  pane : Option Nat := none
  epoch : Nat
  /-- The rank whose segment it is, in the membership of the epoch. -/
  rank : Nat
  /-- Segment index; none for the digest list. -/
  seg : Option Nat
  /-- The holder asked: its rank, or 0x10000 + kind for an onward leg. -/
  holder : Nat
  /-- Holders not yet asked. -/
  rest : List Nat
  /-- Some holder supplied data that failed its checks. -/
  bad : Bool := false
  /-- A pane repair's pieces of the scope that are here already, in order: first pane and bytes (R238). -/
  got : List (Nat × Bytes) := []
deriving DecidableEq, Repr

/-- A RESTORE or re-shard under way. -/
structure Fill where
  /-- The command that waits for it. -/
  ref : Option CmdRef
  /-- It is a re-shard. -/
  reshard : Bool
  epoch : Nat
  manifest : Bytes
  /-- The target member table. -/
  table : Bytes
  /-- Legs that may serve. -/
  flags : Nat
  /-- Segment digests: by old rank the list checked, or at a RESTORE by segment the digest read. -/
  lists : Tbl (List Bytes) := []
  /-- Segments pulled: old rank, index and panes. -/
  image : List (Nat × Nat × Bytes) := []
  /-- Own panes are kept where the ranges overlap (R260). -/
  keep : Bool := false
  /-- This member's new shard is written. -/
  written : Bool := false
deriving DecidableEq, Repr

/-- Lehr. -/
structure Lehr where
  /-- LHR_EVENTS. -/
  events : W32 := 0
  /-- Number of the last epoch announced. -/
  lastEpoch : Nat := 0
  cur : Option Epoch := none
  /-- The committed epochs held, newest first, at most two. -/
  held : List Committed := []
  slots : List Slot := []
  /-- A timer cause is due. -/
  timerDue : Bool := false
  /-- Deadline step of a timer or command cause that is due: the epoch step it asks for (R217). -/
  dueAt : Option Nat := none
  /-- An announced epoch that waits for the epoch before to end here. -/
  nextAnn : Option Epoch := none
  /-- The epoch step of the last step cause that was deferred (R216). -/
  deferAt : Option Nat := none
  /-- The last epoch this recorder discarded, and the cause (R231). -/
  discarded : Option (Nat × Nat) := none
  /-- Segments of an epoch whose announcement this member has not taken up yet: source and bytes (R226). -/
  earlySegs : List (Nat × Bytes) := []
  /-- Acknowledgements of an announcement not yet received: epoch and tree child. -/
  earlyAcks : List (Nat × Nat) := []
  /-- TAKE commands not yet attached, and their leg flags. -/
  takes : List CmdRef := []
  takeFlags : Nat := 0
  /-- A TAKE forwarded by another member is due at the recorder. -/
  takeDue : Bool := false
  /-- CHECKPOINT POLICY: drive_every, remote_every, drive_nsid, remote_target. -/
  policy : Nat × Nat × Nat × Nat := (0, 0, 0, 0)
  /-- Parison panes whose epoch's onward legs still need them: epoch, scope index, slot. -/
  kept : List (Nat × Nat × Nat) := []
  /-- Onward legs of epochs no longer in flight: epoch and leg. -/
  legs : List (Nat × Leg) := []
  fill : Option Fill := none
  /-- Pulls under way: of a RESTORE, a re-shard or pane repairs. -/
  pulls : List Pull := []
  /-- The RESHARD command of this member that waits for the recorder (R259). -/
  waiting : Option CmdRef := none

  /-- Area of the drive leg that the next leg writes (R227). -/
  area : Nat := 0
  stallMax : Nat := 0
  parisonUs : Nat := 0
  deferred : Nat := 0
  commits : Nat := 0
  discards : Nat := 0
  integrity : Nat := 0
  repaired : Nat := 0
  lastDiscard : W32 := 0
deriving DecidableEq, Repr

/-- A suspicion raised by this watcher (R249). -/
structure Suspicion where
  rank : Nat
  /-- The report about it has been sent to this confirmer. -/
  confirmer : Nat
deriving DecidableEq, Repr

/-- The job's membership on this device. -/
structure Members where
  /-- The member table in force. -/
  table : Bytes := []
  /-- A START has succeeded since the last SHARD_DEFINE (R267). -/
  joined : Bool := false
  rank : Nat := 0
  /-- Ranks of the table declared lost. -/
  lost : List Nat := []
  /-- Serial numbers of the devices declared lost since SHARD_DEFINE. -/
  gone : List Bytes := []
  suspects : List Suspicion := []
  /-- Suspects this confirmer probes: the suspect and the watcher that reported it. -/
  probing : List (Nat × Nat) := []
  /-- Suspects this member probes for a confirmer (R252). -/
  relays : List (Nat × Nat) := []
  /-- Suspects confirmed as lost and not yet declared (R256). -/
  confirmed : List Nat := []
  /-- Suspects whose probe window's expiry has won here and whose confirmation has gone to the recorder: a reply that still comes is late (R68, R252). -/
  expired : List Nat := []
  /-- The standby has not answered a report about the recorder (R256). -/
  unanswered : Bool := false
  /-- Job messages of a rank that failed their integrity check in a row (R249). -/
  fails : Tbl Nat := []
  /-- Ranks whose suspicion lapsed and whose timer is not armed before their next heartbeat (R249). -/
  lapsed : List Nat := []
  /-- Suspects whose suspicion was cleared. -/
  cleared : List Nat := []
  /-- Sequence of the last heartbeat sent. -/
  seq : Nat := 0
  fenced : Bool := false
  /-- Writes to accelerators that the fence stops: contributor, offset, bytes (R250). -/
  stalled : List (Nat × Nat × Bytes × Bool) := []
  /-- Certificate chains of recorder-eligible members, kept until the job ends (R440). -/
  certs : List Bytes := []
  recorder : Nat := 0
  standby : Nat := 0
  gen : Nat := 0
  /-- Epoch of the last LOST that waits for its re-shard. -/
  restore : Option Nat := none
  /-- LHR_MEMBER_EVENTS. -/
  events : W32 := 0
  suspectCount : Nat := 0
  pathFaults : Nat := 0
  lostCount : Nat := 0
  reshards : Nat := 0
  lastRecoveryUs : Nat := 0
  lateHeartbeats : Nat := 0
  staleGens : Nat := 0
deriving DecidableEq, Repr

end Sys2Proof.Machine
end

