-- ==== Sys2Proof/Machine/PowerState.lean ====
section
/-! DEFINITION. The state of the Always-On Domain: supply, limits, pins, power states, wake, tallies, sensors, sideband, telemetry and the fault log (spec/01, spec/19, spec/21). -/

namespace Sys2Proof.Machine

/-- The power states (R18, R500). -/
inductive PState where
  | p0
  | p1
  | p2
  | p3
deriving DecidableEq, Repr

/-- The outcome of a transition (AOD_PWR_STATUS.last_outcome). -/
inductive Outcome4 where
  | completed
  | abandoned
  | undone
  | refused
deriving DecidableEq, Repr

/-- One rail of R18. -/
structure Rail where
  on : Bool := false
  inWindow : Bool := false
  /-- Commanded value in mV (core rails). -/
  cmdMv : Nat := 0
  /-- Present value in mV; of VSERDES the 0.75 V rail of its pair. -/
  mv : Nat := 0
  /-- Present value in mV of the 1.2 V rail of the VSERDES pair; 0 on every other rail. -/
  mv2 : Nat := 0
deriving DecidableEq, Repr

/-- The straps of R37. -/
structure Straps where
  cohortId : Nat := 0
  hostEn : Nat := 0
  sbAddr : Nat := 0
  recover : Nat := 0
deriving DecidableEq, Repr

/-- A telemetry record kept in the ring, with the cursor of its first byte (R522). -/
structure TelemRec where
  cursor : Nat
  bytes : Bytes
deriving DecidableEq, Repr

/-- The supply and thermal hardware of the AOD. -/
structure Supply where
  /-- AOD_VIN_MV. -/
  vinMv : Nat := 0
  /-- AOD_IIN_MA. -/
  iinMa : Nat := 0
  /-- The input has been at or above 38.0 V for 1 ms (R23). -/
  vinOk : Bool := false
  /-- µs for which the input has been at or above 38.0 V, counted from samples up to the 1 ms of R23. -/
  vinUs : Nat := 0
  /-- Rails 0 VAOD, 1 V1P8_SB, 2 V1P8_IO, 3 VCORE_IOD, 4 VHBM_PP, 5 VHBM_C, 6 VHBM_Q, 7 VSERDES, 8 to 11 VCORE_CMP0 to 3. -/
  rails : Tbl Rail := []
  /-- AOD_SUPPLY_EVENTS. -/
  events : W32 := 0
  /-- AOD_LIMIT_CTRL. -/
  limitCtrl : W32 := 0xA3847369#32
  /-- AOD_SAG_COUNT. -/
  sagCount : Nat := 0
  /-- AOD_GLITCH_COUNT. -/
  glitchCount : Nat := 0
  /-- AOD_NVW_HELD. -/
  nvwHeld : Nat := 0
  /-- The straps as sampled (R37). -/
  straps : Straps := {}
  /-- The non-volatile write inhibit (R22). -/
  inhibit : Bool := true
  /-- Main regulator lockout in force (R16). -/
  lockout : Bool := false
  /-- Overvoltage cut-off in force (R16). -/
  cutoff : Bool := false
  /-- The trip latch (R21). -/
  tripLatched : Bool := false
  /-- THERM_TRIP_N driven low. -/
  thermTripLow : Bool := false
  /-- The pace governor of R19 is lowering or restoring rails. -/
  throttling : Bool := false
  /-- The governor is lowering, not restoring, the core rails. -/
  lowering : Bool := false
  /-- Input current limit engaged. -/
  ilim : Bool := false
  /-- AOD_SUPPLY_STATUS.hottest_c. -/
  hottestC : Nat := 0
  /-- µs for which every junction sensor has read below 80 °C (R21). -/
  coolUs : Nat := 0
  /-- MOD_EN level. -/
  modEn : Bool := false
  /-- MOD_RST_N held low. -/
  modRstLow : Bool := false
  /-- PWRGD_OUT level. -/
  pwrgd : Bool := false
  /-- Every IO-domain output released (R29, R31). -/
  ioReleased : Bool := true
  /-- The VAOD and V1P8_SB domain is powered. -/
  aodUp : Bool := false
  /-- Writes of AOD_LIMIT_CTRL refused, in the AOD fault log (R20). -/
  faultCount : Nat := 0
deriving DecidableEq, Repr

/-- Power states, wake and pace of the AOD. -/
structure PowerCtl where
  /-- AOD_PWR_STATUS.state. -/
  state : PState := .p0
  /-- AOD_PWR_STATUS.transition. -/
  transition : Bool := false
  /-- An exit, not an entry, is in progress. -/
  exiting : Bool := false
  /-- AOD_PWR_STATUS.target. -/
  target : PState := .p0
  /-- AOD_PWR_STATUS.committed. -/
  committed : Bool := false
  /-- AOD_PWR_STATUS.last_outcome. -/
  outcome : Outcome4 := .completed
  /-- AOD_PWR_CTRL. -/
  ctrl : W32 := 0x00000A02#32
  /-- AOD_WAKE_EN. -/
  wakeEn : W32 := 0x0000000E#32
  /-- AOD_WAKE_LATCH. -/
  wakeLatch : W32 := 0
  /-- AOD_ALARM_MS. -/
  alarmMs : Nat := 0
  /-- AOD_ALERT_EN. -/
  alertEn : W32 := 0x00000016#32
  /-- AOD_ALERT_LATCH. -/
  alertLatch : W32 := 0
  /-- AOD_ENTRY_ABORT_COUNT. -/
  abortCount : Nat := 0
  /-- AOD_LAST_SLEEP_MS. -/
  lastSleepMs : Nat := 0
  /-- AOD_SB_ERR_COUNT. -/
  sbErr : Nat := 0
  /-- HEP_WAKE_N driven low (R506). -/
  hepWakeLow : Bool := false
  /-- A wake granted during a forerunner-compatible entry: the exit follows the entry at once (R507). -/
  wakeSeen : Bool := false
  /-- Core 5 commands the core rails to this value (R512). -/
  paceMv : Nat := 750
deriving DecidableEq, Repr

/-- The tallies of R513 and the sleep tally. -/
structure Tallies where
  /-- ns of each unit's tally, by source code of R521. -/
  ns : Tbl Nat := []
  /-- TIME_UNCERTAIN of every tally. -/
  uncertain : Bool := false
  /-- AOD_TALLY_BOUND. -/
  bound : Nat := 0
  /-- AOD_SLEEP_CAL, ps. -/
  sleepCal : Nat := 0
  /-- The unit tallies are stopped (R515). -/
  stopped : Bool := false
deriving DecidableEq, Repr

/-- Sideband protocol state (R508 to R511). -/
structure Sideband where
  /-- sb_protocol in force: 0 SMBus, 1 I3C. -/
  protocol : Nat := 1
  /-- I3C dynamic address. -/
  dynAddr : Option Nat := none
  /-- In-band interrupts enabled by ENEC. -/
  ibiEn : Bool := false
  /-- I3C maximum write length. -/
  mwl : Nat := 0
  /-- I3C maximum read length. -/
  mrl : Nat := 0
deriving DecidableEq, Repr

/-- Sensors and telemetry. -/
structure Telemetry where
  /-- AOD_SENSOR_SEL. -/
  sensorSel : W32 := 0
  /-- Last sample of each sensor of R520. -/
  sensors : Tbl Int := []
  /-- AOD_TELEM_CTRL. -/
  ctrl : W32 := 0x000A03E8#32
  /-- AOD_TELEM_LOST_COUNT. -/
  lost : Nat := 0
  /-- The 64 MiB ring of R522, oldest record first. -/
  ring : List TelemRec := []
  /-- Cursor of the next record. -/
  cursor : Nat := 0
  /-- Records of P2 kept in retention SRAM (R521). -/
  kept : List Bytes := []
  /-- Next per-source sequence of a record header. -/
  seqs : Tbl Nat := []
  /-- Sources some of whose records were lost since their last record. -/
  gaps : List Nat := []
deriving DecidableEq, Repr

/-- The fault log of R544 and the reports on their way to it (R541). -/
structure FaultLog where
  /-- Entries held, oldest first, at most 2,048 of 64 bytes. -/
  entries : List Bytes := []
  /-- Entries appended since AOD power-on. -/
  count : Nat := 0
  /-- Reports latched by units, oldest first, not yet formed into entries. -/
  reports : List Report := []
  /-- Nonzero values written to RSV fields, by block index of R548 (0 the host endpoint), of the blocks that keep no count of their own (R14). -/
  rsv : Tbl Nat := []
  /-- Waiting DIAG_READ commands of kind 2 (R548). -/
  waiters : List CmdRef := []
deriving DecidableEq, Repr

end Sys2Proof.Machine
end

