-- ==== Sys2Proof/Machine/RmeState.lean ====
section
/-! DEFINITION. The state of the remote memory engine (spec/15_remote_memory_engine.md). -/

namespace Sys2Proof.Machine

/-- A running work request (R402). -/
structure WorkReq where
  /-- Its 64-byte send queue entry. -/
  entry : Bytes
  /-- First PSN and number of packets. -/
  first : Nat
  n : Nat
  /-- Its status, once it has one. -/
  done : Option Nat := none
  /-- READ: PSNs of the responses placed. -/
  got : List Nat := []
deriving DecidableEq, Repr

/-- A packet sent and not yet acknowledged: its PSN and its bytes from the BTH on. -/
structure SentPkt where
  psn : Nat
  bytes : Bytes
deriving DecidableEq, Repr

/-- An inbound WRITE message admitted at its window and not yet complete (R408). -/
structure InMsg where
  first : Nat
  n : Nat
  window : Nat
  /-- Device-space offset its first byte goes to. -/
  addr : Nat
  len : Nat
deriving DecidableEq, Repr

/-- An inbound SEND that holds a receive entry. -/
structure InSend where
  /-- The 32-byte receive queue entry. -/
  entry : Bytes
  /-- Bytes so far. -/
  len : Nat
deriving DecidableEq, Repr

/-- A packet held in the window of 512 (R414): its opcode and its bytes after the BTH; once placed, only its headers. -/
structure HeldPkt where
  op : Nat
  pad : Nat
  body : Bytes
  placed : Bool := false
deriving DecidableEq, Repr

/-- A frame of the engine that waits for its leaf queue (R380). -/
structure RmeFrame where
  leaf : Nat
  /-- Tenant that places it; 16 the device. -/
  tenant : Nat
  bytes : Bytes
deriving DecidableEq, Repr

/-- A queue pair context (R399, R400). -/
structure Qp where
  tenant : Nat
  /-- 0 RESET, 1 INIT, 2 RTR, 3 RTS, 4 ERROR. -/
  state : Nat := 1
  /-- Opened by firmware for the job or for a remote target. -/
  job : Bool := false
  gid : Bytes := []
  peer : Bytes := []
  peerQpn : Nat := 0
  mtu : Nat := 4096
  timeout : Nat := 8
  retryCnt : Nat := 0
  rnrRetry : Nat := 0
  minRnr : Nat := 0
  outReads : Nat := 1
  paths : Nat := 1
  leaf : Nat := 0
  dscp : Nat := 0
  pcp : Nat := 0
  sqBase : Nat := 0
  rqBase : Nat := 0
  cqBase : Nat := 0
  sqIndexAddr : Nat := 0
  sqLog : Nat := 0
  rqLog : Nat := 0
  cqLog : Nat := 0
  sqSync : Nat := 0
  rqSync : Nat := 0
  cqSync : Nat := 0
  /-- Send entries taken, receive entries assigned, completion entries posted. -/
  sqTaken : Nat := 0
  rqTaken : Nat := 0
  cqTail : Nat := 0
  nextPsn : Nat := 0
  sent : List SentPkt := []
  /-- Running work requests in start order. -/
  wrs : List WorkReq := []
  /-- Packets sent, for the round-robin over paths (R413). -/
  sendCtr : Nat := 0
  /-- Local ACK timeouts in a row for a PSN (R417). -/
  fails : Nat := 0
  failPsn : Nat := 0
  rnrTries : Nat := 0
  /-- Sending waits for the peer's RNR delay. -/
  rnrWait : Bool := false
  /-- Expected PSN. -/
  e : Nat := 0
  /-- Packets held, by PSN. -/
  heldPkts : Tbl HeldPkt := []
  /-- A sequence NAK has been sent for e. -/
  nakSent : Bool := false
  /-- Packets by which e advanced since the last ACK. -/
  unacked : Nat := 0
  /-- Messages completed as responder, modulo 2^24. -/
  msn : Nat := 0
  msgs : List InMsg := []
  inSend : Option InSend := none
  /-- Rate in 1/65,536 of its setting (R397). -/
  rate : Nat := 65536
  /-- A CNP has been sent for it. -/
  cnpSent : Bool := false
deriving DecidableEq, Repr

/-- A memory window (R406). -/
structure RmeWindow where
  gen : Nat := 0
  isOpen : Bool := false
  tenant : Nat := 0
  rights : Nat := 0
  qpn : Nat := 0
  base : Nat := 0
  len : Nat := 0
  /-- The WINDOW_REVOKE that waits for its admitted messages; of a revoke by FLR or LOST, none. -/
  revoke : Option CmdRef := none
deriving DecidableEq, Repr

/-- The remote memory engine. -/
structure Rme where
  /-- Contexts by QP number. -/
  qps : Tbl Qp := []
  windows : Tbl RmeWindow := []
  /-- Entries consumed of each tenant's control ring. -/
  consumed : Tbl Nat := []
  /-- Remote targets that are connected. -/
  targets : List Nat := []
  /-- Frames that wait for their leaf queues, oldest first. -/
  tx : List RmeFrame := []
  /-- Packets of the setup QP handed to core 2 (R401). -/
  setup : List Bytes := []
  /-- RME_EVENTS. -/
  events : W32 := 0
  dups : Nat := 0
  beyond : Nat := 0
  nakTx : Nat := 0
  retx : Nat := 0
  timeouts : Nat := 0
  qpErrors : Nat := 0
  accessNaks : Nat := 0
  tenantDrops : Nat := 0
  /-- RME_QP_SEL. -/
  qpSel : W32 := 0
deriving DecidableEq, Repr

/-- Warm and cold reset clear every context, window and held packet (R420, R422). -/
def Rme.reset (r : Rme) (warm : Bool) : Rme :=
  { events := if warm then r.events else 0, qpSel := if warm then r.qpSel else 0, dups := r.dups, beyond := r.beyond, nakTx := r.nakTx,
    retx := r.retx, timeouts := r.timeouts, qpErrors := r.qpErrors, accessNaks := r.accessNaks, tenantDrops := r.tenantDrops }

end Sys2Proof.Machine
end

