-- ==== Sys2Proof/Machine/TensorState.lean ====
section
/-! DEFINITION. The state of the tensor complex (spec/06_tensor_complex.md). -/

namespace Sys2Proof.Machine

/-- A work unit: the output rows `lo` to `lo + n − 1` of a command, on a gang of tiles (R152, R153). -/
structure Work where
  ref : CmdRef
  lo : Nat
  n : Nat
  /-- The gang: 16k × 16l MACs. -/
  k : Nat := 1
  l : Nat := 1
  /-- The model a run's unit computes, by tenant and id, and the image its tiles load from. -/
  model : Option (Nat × Nat) := none
  image : Bytes := []
deriving DecidableEq, Repr

/-- One quarter: 16 tiles and 1 MiB of bench SRAM. -/
structure Quarter where
  /-- The tenant that holds it (R155). -/
  owner : Nat := 0
  /-- The work unit it runs; of a gang over several quarters, the first holds it. -/
  work : Option Work := none
  /-- The first quarter of the gang this one belongs to. -/
  helps : Option Nat := none
  /-- The tenant it is to change to (R156). -/
  moving : Option Nat := none
  /-- The loaded model: tenant and id. -/
  loaded : Option (Nat × Nat) := none
  /-- Tallies of its uncorrectable errors within 24 h (R159). -/
  ues : List Nat := []
deriving DecidableEq, Repr

/-- A registered model (R165 to R173). -/
structure Model where
  tenant : Nat
  id : Nat
  /-- Bytes of its image; the registry copy lies in HBM. -/
  bytes : Nat
  /-- 64 KiB granules of its weights. -/
  granules : Nat
  /-- Dense bytes of an output row. -/
  outLen : Nat := 0
  /-- Granules held in each quarter while resident. -/
  seats : List (Nat × Nat) := []
  /-- The image as bench SRAM holds it while resident. -/
  bench : Bytes := []
  pinned : Bool := false
  /-- Order of its last run. -/
  lastRun : Nat := 0
  /-- A fetch from the registry copy is under way. -/
  fetching : Bool := false
  /-- A MODEL_LOAD that waits for the fetch pins it. -/
  pinNext : Bool := false
  /-- MODEL_EVICT commands that wait, each with unregister. -/
  evicts : List (CmdRef × Bool) := []
deriving DecidableEq, Repr

/-- The per-tenant counters of R177. -/
structure TenCounts where
  miss : Nat := 0
  fetched : Nat := 0
  switches : Nat := 0
  migrations : Nat := 0
deriving DecidableEq, Repr

/-- The Q of a queue's last PROJECT (R163): where its descriptor lies, and the bytes of descriptor and basis it read. -/
structure Projected where
  desc : Nat
  bytes : Bytes
deriving DecidableEq, Repr

/-- The tensor complex. -/
structure Tensor where
  /-- Quarters 0 to 127; quarter q is on compute die q / 32. -/
  quarters : Tbl Quarter := []
  /-- Registered models, oldest first. -/
  models : List Model := []
  /-- TNS_STATUS.die_ready. -/
  ready : Nat := 0
  /-- TNS_EVENTS. -/
  events : W32 := 0
  /-- TNS_SRAM_CE_COUNT. -/
  ceCount : Nat := 0
  /-- TNS_SRAM_UE_COUNT. -/
  ueCount : Nat := 0
  /-- TNS_INT_SAT_COUNT. -/
  intSat : Nat := 0
  /-- TNS_EXACT_DROP_COUNT. -/
  exactDrop : Nat := 0
  /-- TNS_LAST_SRAM_ERR. -/
  lastErr : W32 := 0
  /-- TNS_TENANT_SEL; a tenant that is not enabled selects nothing. -/
  sel : W32 := 0
  /-- Counters of each tenant. -/
  counts : Tbl TenCounts := []
  /-- Runs granted so far, the order of Model.lastRun. -/
  runClock : Nat := 0
  /-- Work units granted so far, and the count at the last grant of each queue, by 256 × function + queue (R154). -/
  grantClock : Nat := 0
  grants : Tbl Nat := []
  /-- The last PROJECT of each queue, by 256 × function + queue. -/
  projected : Tbl Projected := []
  /-- PROJECT commands that reuse a Q changed since: their output is undefined (R163). -/
  staleQ : List CmdRef := []
  /-- TENANT_SET commands that wait for their quarters: tenant and allotment (R156). -/
  moves : List (CmdRef × Nat × Nat) := []
deriving DecidableEq, Repr

end Sys2Proof.Machine
end

