-- ==== Sys2Proof/Machine/State.lean ====
section
/-! DEFINITION. The state of the block: every unit's registers, queues and buffers, and the queue of waiting commands. -/

namespace Sys2Proof.Machine

/-- The state of the Renmer. Field defaults are the values after AOD power-on. -/
structure State where
  /-- Supply and thermal hardware (spec/01). -/
  sup : Supply := {}
  /-- Power states and wake (spec/19). -/
  pwr : PowerCtl := {}
  /-- Tallies (spec/19). -/
  tal : Tallies := {}
  /-- Sideband (spec/19). -/
  sb : Sideband := {}
  /-- Sensors and telemetry (spec/19). -/
  tel : Telemetry := {}
  /-- Fault log and reports (spec/21). -/
  log : FaultLog := {}
  /-- Configuration flash (spec/02). -/
  fl : Flash := {}
  /-- Start-up and firmware (spec/02, spec/20). -/
  boot : Boot := {}
  /-- Fabric and memory (spec/03). -/
  fab : Fabric := {}
  /-- Command contract (spec/04). -/
  con : Contract := {}
  /-- Host endpoint (spec/11). -/
  hep : HostEndpoint := {}
  /-- Accelerator ports and cohort (spec/10). -/
  apt : Accel := {}
  /-- Crucible and JTAG (spec/16). -/
  cru : Crucible := {}
  /-- Gaffer cores and FIFOs (spec/17, spec/18). -/
  gaf : Gaffer := {}
  /-- Ethernet ports (spec/13). -/
  net : Net := {}
  /-- The Marver pipeline (spec/13). -/
  mrv : Marver := {}
  /-- The traffic manager (spec/14). -/
  tm : Tm := {}
  /-- The tensor complex (spec/06). -/
  ten : Tensor := {}
  /-- The training job in the Anneal engines (spec/07). -/
  ann : Anneal := {}
  /-- Lehr (spec/08). -/
  leh : Lehr := {}
  /-- The job's membership (spec/09). -/
  mem : Members := {}
  /-- The remote memory engine (spec/15). -/
  rme : Rme := {}
  /-- The storage controller (spec/12). -/
  sto : Storage := {}
  /-- What has left the block, oldest first. -/
  out : List Output := []
  /-- The model's own counter of free values (Config.freeNat): no state of the spec. -/
  freeCtr : Nat := 0
  /-- Commands waiting, first in first out. -/
  pending : List Sys2Proof.Instr := []
deriving DecidableEq, Repr

/-- Why the block stops. No meaning of this model stops: no constructor is raised. -/
inductive Fault where
  /-- Raised by no command; safe. -/
  | none
deriving DecidableEq, Repr

/-- Why a command is refused. -/
inductive Refusal where
  /-- Raised by the dispatcher for a command that has no meaning yet; safe. -/
  | notModelled (mnemonic : String)
deriving DecidableEq, Repr

/-- The block right after its AOD power-on reset, before any command: every field at the reset value the spec states, and at the value the assumption log names where it states none. -/
def State.reset : State := {}

end Sys2Proof.Machine
end

