-- ==== Sys2Proof/Machine/Ops.lean ====
section
/-! DEFINITION. The named operations over memory, queues and records that every meaning uses: pane translation, admission of writes, contract addresses, completion records, signals and INTx. -/

namespace Sys2Proof.Machine

open Sys2Proof

/-- A component of a live activation is in handover, so what R535 holds for it waits. -/
def State.handing (s : State) (c : Nat) : Bool := s.boot.activation.any fun a => a.todo.head? == some c

/-! ## What leaves the block, reports and free values -/

/-- Appends one thing that leaves the block. -/
def State.emit (s : State) (o : Output) : State := { s with out := s.out ++ [o] }

/-- Latches a fault for the reporting path of R541. -/
def State.report (s : State) (r : Report) : State :=
  { s with log := { s.log with reports := s.log.reports ++ [r] } }

/-- A field of the descriptor table has changed: its generation goes odd and even again (R307). -/
def State.ddtUpdate (s : State) : State := { s with hep := { s.hep with ddtGen := s.hep.ddtGen + 2 } }

/-- Uses up one free value: the next use sees another one. -/
def State.tick (s : State) : State := { s with freeCtr := s.freeCtr + 1 }

/-- The free number of the present use. -/
def State.free (s : State) : Nat := Config.freeNat s.freeCtr

/-- Sets bit `i` of a latched events word (R69). -/
def latch (w : W32) (i : Nat) : W32 := setBit w i

/-- The read of a word of an on-die SRAM pool that a command makes meets an error: `sram` 1 is corrected and counted by the owning unit; 2 and above the command's own meaning answers (R93). That the error comes with the command that reads the word is a DESIGN CHOICE (log 52). -/
def State.sramRead (s : State) (pool sram : Nat) : State :=
  if sram = 1 then { s with fab := { s.fab with sramCe := s.fab.sramCe.upd pool 0 satInc } } else s

/-- An arrival and a timeout have met at their completion slot (R66, R68): a resolution slower than the bound delays both and is counted; DESIGN CHOICE (log 62): whether this one is, is a free value. -/
def State.contested (s : State) : State :=
  State.tick (if s.free % 2 = 1 then { s with fab := { s.fab with arbSlow := satInc s.fab.arbSlow, linkEvents := latch s.fab.linkEvents 13 } } else s)

/-- An arrival discarded because its timeout had won (R68). -/
def State.lateDiscarded (s : State) : State :=
  State.contested { s with fab := { s.fab with lateDiscard := satInc s.fab.lateDiscard, linkEvents := latch s.fab.linkEvents 12 } }

/-- A transaction lost on a cohort link (R293). -/
def State.forwardLost (s : State) : State :=
  { s with apt := { s.apt with forwardLost := satInc s.apt.forwardLost, events := latch s.apt.events 2 } }

/-- An inbound write dropped at a port (R278, R279, R329). -/
def State.unclaimed (s : State) : State :=
  { s with apt := { s.apt with unclaimed := satInc s.apt.unclaimed, events := latch s.apt.events 1 } }

/-- A nonzero value written to an RSV field is ignored and enters the fault log of its subsystem as a note of severity 0 (R14, R542). -/
def State.rsvNote (s : State) (bad : Bool) (block reg : Nat) (v : W32) : State :=
  if bad then s.report { source := 0x10, severity := 0, reg := reg, block := block, d0 := v.toNat } else s

/-- A timeout won its completion slot (R68). -/
def State.timeoutWon (s : State) : State := State.contested { s with fab := { s.fab with timeoutWon := satInc s.fab.timeoutWon } }

/-! ## Chunks of an address range -/

/-- The pieces of `n` addresses from `a` between multiples of `m`, at most as many as the first argument. -/
def chunksGo (m : Nat) : Nat → Nat → Nat → List (Nat × Nat)
  | 0, _, _ => []
  | f + 1, a, n =>
    if n = 0 then []
    else
      let k := min n (m - a % m)
      (a, k) :: chunksGo m f (a + k) (n - k)

/-- Cuts `n` addresses from `a` at the multiples of `m`: each piece with its length. -/
def chunks (m a n : Nat) : List (Nat × Nat) := chunksGo m n a n

/-! ## HBM: admission, errors and the snapshot hooks (R82, R88, R91) -/

/-- Controller `i`. -/
def Fabric.ctrl (f : Fabric) (i : Nat) : MemCtrl := f.ctrls.getD i {}

/-- Changes controller `i`. -/
def Fabric.modCtrl (f : Fabric) (i : Nat) (g : MemCtrl → MemCtrl) : Fabric :=
  { f with ctrls := f.ctrls.upd i {} g }

/-- Bytes of a pane. -/
def paneBytes : Nat := 65536

/-- The stack a physical address lies in (R81). -/
def stackOf (pa : Nat) : Nat := pa / 2 ^ 36 % 8

/-- The channel of a physical address (R81). -/
def channelOf (pa : Nat) : Nat :=
  let o := pa % 2 ^ 36
  (o / 2 ^ 8 % 32) ^^^ (o / 2 ^ 13 % 32) ^^^ (o / 2 ^ 18 % 32)

/-- The quadrant of a physical address (R81). -/
def quadrantOf (pa : Nat) : Nat := channelOf pa / 8

/-- The pane number of a physical address (R81). -/
def paneOf (pa : Nat) : Nat := pa % 2 ^ 39 / paneBytes

/-- A pane is armed when it is in scope and its done bit differs from parity (R91). -/
def Fabric.armed (f : Fabric) (p : Nat) : Bool := f.scope.contains p && (f.doneBits.contains p != f.parity)

/-- Some uncorrectable block lies in the range. -/
def Fabric.badIn (f : Fabric) (pa n : Nat) : Bool := f.bad.any fun b => decide (b * 64 < pa + n ∧ pa < b * 64 + 64)

/-- Some uncorrectable block is only partly covered by the range (R88, partial writes). -/
def Fabric.badPartial (f : Fabric) (pa n : Nat) : Bool :=
  f.bad.any fun b => decide (b * 64 < pa + n ∧ pa < b * 64 + 64 ∧ ¬ (pa ≤ b * 64 ∧ b * 64 + 64 ≤ pa + n))

/-- A request reaches the quadrants of a range: one in self-refresh exits before it is served (R84). -/
def wakeQuadrants (t : Tbl MemCtrl) (pa n : Nat) : Tbl MemCtrl :=
  (chunks 256 pa n).foldl (fun t p =>
    let i := stackOf p.1; let q := quadrantOf p.1
    if (t.getD i {}).quadrantSr / 2 ^ q % 2 = 1 then t.upd i {} fun c => { c with quadrantSr := c.quadrantSr - 2 ^ q } else t) t

/-- Writes HBM at once; a whole block replaced is no longer in error (R88). -/
def Fabric.writeNow (f : Fabric) (pa : Nat) (bs : Bytes) : Fabric :=
  { f with
    hbm := Mem.write 0 f.hbm pa bs
    ctrls := wakeQuadrants f.ctrls pa bs.length
    bad := f.bad.filter fun b => ¬ (pa ≤ b * 64 ∧ b * 64 + 64 ≤ pa + bs.length) }

/-- A write the controller admits: bytes of an uncorrectable block it covers only in part fail and leave that block unchanged (R88). -/
def Fabric.takeIn (f : Fabric) (pa : Nat) (bs : Bytes) : Fabric :=
  if f.badPartial pa bs.length then
    (chunks 64 pa bs.length).foldl (fun f p => if f.badPartial p.1 p.2 then f else f.writeNow p.1 (slice bs (p.1 - pa) p.2)) f
  else f.writeNow pa bs

/-- Sends Lehr a priority copy request for a pane, once (R91). -/
def Fabric.askCopy (f : Fabric) (p : Nat) : Fabric :=
  if f.copyReq.contains p then f else { f with copyReq := f.copyReq ++ [p] }

/-- A write is held on a pane: its copy is asked for, and where that copy waits for a free parison pane the write waits on the parison area (R91, R221). -/
def Fabric.hold (f : Fabric) (p : Nat) : Fabric :=
  let f := f.askCopy p
  let f := if f.parisonShort ∧ ¬ f.starved.contains p then { f with starved := f.starved ++ [p] } else f
  if f.starved.contains p then { f with parisonWaits := satInc f.parisonWaits, parisonFull := true } else f

/-- A write at its controller's admission point, within one pane: written, held, or waiting behind a full hold buffer (R91). -/
def Fabric.enter (f : Fabric) (pa : Nat) (bs : Bytes) : Fabric :=
  let i := stackOf pa
  let c := f.ctrl i
  if 256 ≤ c.held.length then
    f.modCtrl i fun c => { c with waiting := c.waiting ++ [⟨pa, bs⟩], events := latch c.events 6 }
  else if f.armed (paneOf pa) then
    (f.modCtrl i fun c => { c with held := c.held ++ [⟨pa, bs⟩], heldCount := satInc c.heldCount }).hold (paneOf pa)
  else f.takeIn pa bs

/-- The write would not be visible at once: its pane is armed or its controller's hold buffer is full. -/
def Fabric.holds (f : Fabric) (pa : Nat) : Bool := decide (256 ≤ (f.ctrl (stackOf pa)).held.length) || f.armed (paneOf pa)

/-- Stands among the panes a command waits for while a fence stops its write to an accelerator (R250): no pane has this number. -/
def fencePane : Nat := 2 ^ 23

/-- The device's own table (owner "device" of R82). -/
def deviceTable : Nat := 16

/-- The table entry of a tenant's pane at a device offset (R82). -/
def Fabric.pane? (f : Fabric) (tenant off : Nat) : Option PaneEntry :=
  (f.panes.getD tenant []).find? (off / paneBytes)

/-- The physical address of a device offset, with the check of one right: status 0x11 unmapped, 0x12 rights (R82). -/
def Fabric.translate (f : Fabric) (tenant off : Nat) (wr : Bool) : Except Nat Nat :=
  match f.pane? tenant off with
  | none => .error 0x11
  | some e => if (if wr then e.write else e.read) then .ok (e.phys * paneBytes + off % paneBytes) else .error 0x12

/-- Translates every piece of a range. -/
def Fabric.translateAll (f : Fabric) (tenant : Nat) (wr : Bool) : List (Nat × Nat) → Except Nat (List (Nat × Nat))
  | [] => .ok []
  | (a, n) :: r =>
    match f.translate tenant a wr, f.translateAll tenant wr r with
    | .error e, _ => .error e
    | .ok _, .error e => .error e
    | .ok pa, .ok l => .ok ((pa, n) :: l)

/-- Reads a tenant's device memory: 0x11, 0x12, or 0x30 on an uncorrectable block (R82, R88). -/
def Fabric.readDev (f : Fabric) (tenant off n : Nat) : Except Nat Bytes :=
  match f.translateAll tenant false (chunks paneBytes off n) with
  | .error e => .error e
  | .ok l =>
    if l.any fun p => f.badIn p.1 p.2 then .error 0x30
    else .ok (l.flatMap fun p => Mem.read 0 f.hbm p.1 p.2)

/-- Writes pieces of one byte sequence through admission, and names the panes whose writes are held or wait: a piece waits also behind the buffer an earlier piece has filled. -/
def Fabric.enterAll (f : Fabric) : List (Nat × Nat) → Bytes → Fabric × List Nat
  | [], _ => (f, [])
  | (pa, n) :: r, bs =>
    let (g, h) := (f.enter pa (bs.take n)).enterAll r (bs.drop n)
    (g, if f.holds pa then paneOf pa :: h else h)

/-- Writes a tenant's device memory; the panes whose writes are held are named (R82, R88, R91). -/
def Fabric.writeDev (f : Fabric) (tenant off : Nat) (bs : Bytes) : Except Nat (Fabric × List Nat) :=
  match f.translateAll tenant true (chunks paneBytes off bs.length) with
  | .error e => .error e
  | .ok l =>
    if l.any fun p => f.badPartial p.1 p.2 then .error 0x30
    else .ok (f.enterAll l bs)

/-! ## Errors of HBM (R88, R90, R95) -/

/-- MEM_LAST_ERR_SYND (R95). -/
def syndWord (a b kind : Nat) : W32 := w32 (pack [(0, a), (8, b), (16, kind)])

/-- MEM_LAST_ERR_PANE (R95). -/
def errPaneWord (pa : Nat) : W32 := w32 (pack [(0, paneOf pa), (23, channelOf pa)])

/-- A pane becomes a withdrawal candidate (R90). -/
def State.candidate (s : State) (i pane : Nat) : State :=
  if s.fab.candidates.contains pane ∨ s.fab.withdrawn.contains pane then s
  else
    State.report { s with fab := { (s.fab.modCtrl i fun c => { c with events := latch c.events 5 }) with
        candidates := s.fab.candidates ++ [pane] } }
      { typ := 6, source := 0x20 + i, severity := 1, bit := 5, reg := 0x1000 * (i + 1) + 4, block := 5, d0 := pane, d2 := i }

/-- An uncorrectable block (R88, R90): a second one after a repair makes its pane a candidate. DESIGN CHOICE (log 21): the spec names no symbols for it, and sym_a holds 0 and sym_b 0x7F. -/
def State.uncorrectable (s : State) (i pa : Nat) (virt : Bool) : State :=
  let sy := syndWord 0 0x7F (if virt then 2 else 1)
  let s := { s with fab := { (s.fab.modCtrl i fun c =>
      { c with ueCount := satInc c.ueCount, events := latch c.events 1, lastPane := errPaneWord pa, lastSynd := sy }) with
    bad := if s.fab.bad.contains (pa / 64) then s.fab.bad else s.fab.bad ++ [pa / 64] } }
  let s := s.report { typ := 6, source := 0x20 + i, severity := 2, status := 0x30, bit := 1, reg := 0x1000 * (i + 1) + 4, block := 5,
                      d0 := paneOf pa, d1 := sy.toNat, d2 := i }
  if s.fab.repaired.contains (paneOf pa) then s.candidate i (paneOf pa) else s

/-- The controller's part in an access of a tenant's device memory that fails with 0x30: the first uncorrectable block it meets is counted, latched and logged (R88). An access that meets none changes nothing. -/
def State.memFault (s : State) (tenant off n : Nat) (wr : Bool) : State :=
  match s.fab.translateAll tenant wr (chunks paneBytes off n) with
  | .error _ => s
  | .ok l =>
    match s.fab.bad.find? fun b => l.any fun p => decide (b * 64 < p.1 + p.2 ∧ p.1 < b * 64 + 64) with
    | none => s
    | some b => s.uncorrectable (stackOf (b * 64)) (b * 64) false

/-! ## Functions and queues -/

/-- The queues of a function. -/
def Contract.fn (c : Contract) (n : Nat) : FnQueues := c.fns.getD n {}

/-- Local queue `q` of function `fn`. -/
def State.queue (s : State) (fn q : Nat) : Queue := (s.con.fn fn).queues.getD q {}

/-- Changes the queues of a function. -/
def State.modFn (s : State) (fn : Nat) (g : FnQueues → FnQueues) : State :=
  { s with con := { s.con with fns := s.con.fns.upd fn {} g } }

/-- Changes one queue. -/
def State.modQueue (s : State) (fn q : Nat) (g : Queue → Queue) : State :=
  s.modFn fn fun f => { f with queues := f.queues.upd q {} g }

/-- Changes the start-up state. -/
def State.modBoot (s : State) (f : Boot → Boot) : State := { s with boot := f s.boot }

/-- A function at the host endpoint. -/
def State.hostFn (s : State) (fn : Nat) : HostFn := s.hep.fns.getD fn {}

/-- Changes a function at the host endpoint. -/
def State.modHost (s : State) (fn : Nat) (g : HostFn → HostFn) : State :=
  { s with hep := { s.hep with fns := s.hep.fns.upd fn {} g } }

/-- An accelerator port. -/
def State.port (s : State) (n : Nat) : Port := s.apt.ports.getD n {}

/-- Changes an accelerator port. -/
def State.modPort (s : State) (n : Nat) (g : Port → Port) : State :=
  { s with apt := { s.apt with ports := s.apt.ports.upd n {} g } }

/-- The tenant tag of a function's queues; member queue windows carry tenant 0 (R98, R309). -/
def tenantOf (fn : Nat) : Nat := if 16 ≤ fn then 0 else fn

/-- The function whose link and driver a queue hangs on: a member queue window is PF0's (R309). -/
def hostOf (fn : Nat) : Nat := if 16 ≤ fn then 0 else fn

/-- HEP_QCTRL.engine. -/
def Queue.engine (u : Queue) : Nat := field u.ctrl 1 3
/-- HEP_QCTRL.sq_log2. -/
def Queue.sqLog (u : Queue) : Nat := field u.ctrl 4 5
/-- HEP_QCTRL.cq_log2. -/
def Queue.cqLog (u : Queue) : Nat := field u.ctrl 9 5
/-- HEP_QCTRL.intx_en. -/
def Queue.intxEn (u : Queue) : Bool := bitOf u.ctrl 14
/-- Records posted and not consumed. -/
def Queue.unread (u : Queue) : Nat := (u.cqTail + 2 ^ 32 - u.cqHead) % 2 ^ 32
/-- Completion slots reserved for commands fetched and running, and for ended ones whose record is not posted yet (R106). -/
def Queue.reserved (u : Queue) : Nat :=
  2 * u.fetched.length + (u.running.map fun c => if c.accepted then 1 else 2).sum + (u.owed.map (·.slots)).sum
/-- A ring address in host space. -/
def inHost (a : W64) : Bool := decide (a.toNat / 2 ^ 60 = 1)
/-- One of the queue's rings lies in host space (R321). -/
def Queue.hostRing (u : Queue) : Bool := inHost u.sqBase || inHost u.cqBase

/-! ## Contract addresses (R110) -/

/-- The answer of a read through a contract address: data, a failure status, or reads issued and not yet answered. -/
inductive Rd where
  | data (bs : Bytes)
  | fail (st : Nat)
  | wait (s : State)
deriving DecidableEq, Repr

/-- Data that has arrived for an owner's piece. -/
def arrivedFor (l : List Arrived) (o : Owner) (a n : Nat) : Option Bytes :=
  (l.find? fun x => decide (x.owner = o ∧ x.addr = a ∧ x.bytes.length = n ∧ x.status = 0)).map (·.bytes)

/-- The status a failed piece of an owner's read ended with. -/
def failedFor (l : List Arrived) (o : Owner) : Option Nat := (l.find? fun x => decide (x.owner = o ∧ x.status ≠ 0)).map (·.status)

/-- The lowest number below `n` from `i` on that a list does not hold. -/
def lowestFree (used : List Nat) : Nat → Nat → Option Nat
  | _, 0 => none
  | i, n + 1 => if used.contains i then lowestFree used (i + 1) n else some i

/-- Tags a function may use: 768 with 10-bit tags, 256 with 8-bit tags (R299). -/
def HostFn.tags (h : HostFn) : Nat := if h.tag10 then 768 else 256

/-- Issues one read of at most 4 KiB on the host link, if a tag is free (R299, R314). -/
def State.issueHost (s : State) (fn : Nat) (o : Owner) (a n : Nat) : State :=
  if s.hep.reads.any fun r => decide (r.owner = o ∧ r.fn = fn ∧ r.addr = a ∧ r.len = n) then s
  else if 768 ≤ s.hep.reads.length then s
  else
    match lowestFree ((s.hep.reads.filter fun r => r.fn = fn).map (·.tag) ++
        (s.hep.quarantine.filter fun q => q.2 = fn).map (·.1)) 0 (s.hostFn fn).tags with
    | none => s
    | some t =>
      State.emit
        { s with hep := { s.hep with reads := s.hep.reads ++ [{ tag := t, fn := fn, owner := o, addr := a, len := n }] } }
        (.hostRead fn t a n)

/-- The largest read a function issues: Max_Read_Request_Size, at most 4 KiB (R299). -/
def HostFn.readMax (h : HostFn) : Nat := min 4096 (128 * 2 ^ h.mrrs)

/-- A read of host space: answered when every piece has arrived; a request still to be sent is refused at a closed DMA gate (R315). -/
def State.hostRead (s : State) (fn : Nat) (o : Owner) (a n : Nat) : Rd :=
    let ps := chunks (s.hostFn fn).readMax a n
    let got := ps.map fun p => arrivedFor s.hep.arrived o p.1 p.2
    if got.all Option.isSome then .data (got.flatMap fun b => b.getD [])
    else if ¬ (s.hostFn fn).bme ∨ (s.hostFn fn).d3 then .fail 0x12
    else match failedFor s.hep.arrived o with
    | some st => .fail st
    | none => .wait ((ps.filter fun p => (arrivedFor s.hep.arrived o p.1 p.2).isNone).foldl
      (fun s p => s.issueHost fn o p.1 p.2) s)

/-- Whether a port answers requests to contract space 0x2 (R275, R286). -/
def Port.reachable (p : Port) : Bool := !p.cohort && decide (p.slot = .on) && p.dl && !p.poweringDown

/-- A port's link is up and its accelerator's bus mastering enabled: its requests arrive, also while the slot powers down (R274, R278, R283). -/
def Port.linked (p : Port) : Bool := !p.cohort && decide (p.slot = .on) && p.dl && p.enabled

/-- The cohort port that leads to a member: a direct link, or the lead's (R292). -/
def State.route (s : State) (m : Nat) : Option Nat :=
  let up := s.apt.ports.filter fun p => p.2.cohort && p.2.dl
  match up.find? fun p => p.2.partner = some m with
  | some p => some p.1
  | none => if s.apt.present.contains 0 then (up.find? fun p => p.2.partner = some 0).map (·.1) else none

/-- This member reaches the lead of its cohort (R292, R297). -/
def State.leadThere (s : State) : Bool := s.apt.present.contains 0 && (s.route 0).isSome

/-- Posted writes of at most 512 B each on an accelerator port (R273, R276). -/
def State.portWrites (s : State) (p a : Nat) (bs : Bytes) (relaxed : Bool) : State :=
  (chunks 512 a bs.length).foldl (fun s x => s.emit (.accelWrite p x.1 (slice bs (x.1 - a) x.2) relaxed)) s

/-- Posted writes of at most 512 B each into a function's host address space; one that reports others, and any while Enable Relaxed Ordering is 0, is not relaxed (R299, R312). -/
def State.hostWrites (s : State) (fn a : Nat) (bs : Bytes) (rep : Bool) : State :=
  (chunks 512 a bs.length).foldl (fun s x => s.emit (.hostWrite fn x.1 (slice bs (x.1 - a) x.2) ((s.hostFn fn).relaxed && !rep))) s

/-- Issues one read of at most 4 KiB on an accelerator or cohort port, if a tag is free (R273). -/
def State.issuePort (s : State) (n : Nat) (o : Owner) (a len : Nat) : State :=
  let p := s.port n
  if p.reads.any fun r => decide (r.owner = o ∧ r.addr = a ∧ r.len = len) then s
  else
    match lowestFree (p.reads.map (·.tag) ++ p.quarantine) 0 768 with
    | none => s
    | some t =>
      (s.modPort n fun p => { p with reads := p.reads ++ [{ tag := t, fn := 0, owner := o, addr := a, len := len }] }).emit
        (.accelRead n t a len)

/-- A read on a port: answered when every piece has arrived. -/
def State.portRead (s : State) (n : Nat) (o : Owner) (a len : Nat) : Rd :=
  let ps := chunks 4096 a len
  let got := ps.map fun p => arrivedFor s.apt.arrived o p.1 p.2
  if got.all Option.isSome then .data (got.flatMap fun b => b.getD [])
  else match failedFor s.apt.arrived o with
  | some st => .fail st
  | none => .wait ((ps.filter fun p => (arrivedFor s.apt.arrived o p.1 p.2).isNone).foldl
    (fun s p => s.issuePort n o p.1 p.2) s)

/-- The address check of R110: the space is known and every bit marked zero is zero. -/
def addrOk (a : Nat) : Bool :=
  match a / 2 ^ 60 with
  | 0 => decide (a / 2 ^ 48 = 0)
  | 1 => decide (a / 2 ^ 57 % 8 = 0)
  | 2 => decide (a / 2 ^ 59 % 2 = 0)
  | 3 => decide (a / 2 ^ 58 % 4 = 0 ∧ a / 2 ^ 48 % 256 = 0)
  | _ => false

/-- The byte of a contract address that breaks R110, within its field; 0 where its form is good. -/
def addrDetail (a : Nat) : Nat :=
  match a / 2 ^ 60 with
  | 0 => if a / 2 ^ 48 % 256 ≠ 0 then 6 else if a / 2 ^ 56 ≠ 0 then 7 else 0
  | 1 => if addrOk a then 0 else 7
  | 2 => if addrOk a then 0 else 7
  | 3 => if a / 2 ^ 48 % 256 ≠ 0 then 6 else if addrOk a then 0 else 7
  | _ => 7

/-- The detail of a failure with status `st` at the contract address `a` of the field at `off` (R116). -/
def detailAt (st off a : Nat) : Nat := if st = 0x11 then off + addrDetail a else 0

/-- The device offset of a contract address in this device's own HBM: space 0x0, or its own member's part of space 0x3 (R110). -/
def State.ownDev (s : State) (a : Nat) : Option Nat :=
  if addrOk a ∧ (a / 2 ^ 60 = 0 ∨ (a / 2 ^ 60 = 3 ∧ a / 2 ^ 56 % 4 = s.sup.straps.cohortId)) then some (a % 2 ^ 48) else none

/-- The controller's part in an access at a contract address that fails with 0x30; other spaces and other failures have none. -/
def State.memFaultC (s : State) (fn a n : Nat) (wr : Bool) : State :=
  match s.ownDev a with
  | some off => s.memFault (tenantOf fn) off n wr
  | none => s

/-- Reads `n` bytes at a contract address for a function's queue (R110). -/
def State.readC (s : State) (o : Owner) (fn a n : Nat) : Rd :=
  let tenant := tenantOf fn
  if ¬ addrOk a then .fail 0x11 else
  match a / 2 ^ 60 with
  | 0 => match s.fab.readDev tenant a n with | .ok bs => .data bs | .error e => .fail e
  | 1 =>
    if fn < 16 ∨ s.sup.straps.cohortId = 0 then s.hostRead (hostOf fn) o (a % 2 ^ 57) n
    else match (if s.apt.present.contains 0 then s.route 0 else none) with | none => .fail 0x40 | some p => s.portRead p o a n
  | 2 =>
    let p := a / 2 ^ 56 % 8
    if tenant ≠ 0 then .fail 0x12
    else if ¬ (s.port p).reachable ∨ (s.port p).aperture < a % 2 ^ 56 + n then .fail 0x11
    else s.portRead p o (a % 2 ^ 56) n
  | _ =>
    let m := a / 2 ^ 56 % 4
    if m = s.sup.straps.cohortId then
      match s.fab.readDev tenant (a % 2 ^ 48) n with | .ok bs => .data bs | .error e => .fail e
    else if ¬ s.apt.present.contains m then .fail 0x11
    else match s.route m with | none => .fail 0x40 | some p => s.portRead p o a n

/-- The answer of a write through a contract address: the state after it and the panes whose writes are held. -/
abbrev Wr := Except Nat (State × List Nat)

/-- Writes bytes at a contract address for a function's queue (R110); `rep` says that the write reports earlier ones, so that it is never relaxed (R276, R312). -/
def State.writeC (s : State) (fn a : Nat) (bs : Bytes) (rep : Bool := false) : Wr :=
  let tenant := tenantOf fn
  if ¬ addrOk a then .error 0x11 else
  match a / 2 ^ 60 with
  | 0 =>
    match s.fab.writeDev tenant a bs with
    | .ok (f, h) => .ok ({ s with fab := f }, h)
    | .error e => .error e
  | 1 =>
    if 16 ≤ fn ∧ s.sup.straps.cohortId ≠ 0 then
      if ¬ s.leadThere then .error 0x40
      else .ok (s.emit (.cohortMsg 0 0x10 (natLe fn 4 ++ natLe (b2n rep) 1 ++ natLe (a % 2 ^ 57) 8 ++ bs)), [])
    else if ¬ (s.hostFn fn).bme ∨ (s.hostFn fn).d3 then .error 0x12
    else .ok (s.hostWrites fn (a % 2 ^ 57) bs rep, [])
  | 2 =>
    let p := a / 2 ^ 56 % 8
    if tenant ≠ 0 then .error 0x12
    else if ¬ (s.port p).reachable ∨ (s.port p).aperture < a % 2 ^ 56 + bs.length then .error 0x11
    else if s.mem.fenced then
      .ok ({ s with mem := { s.mem with stalled := s.mem.stalled ++ [(8 * s.sup.straps.cohortId + p, a % 2 ^ 56, bs, rep)] } }, [fencePane])
    else .ok (s.portWrites p (a % 2 ^ 56) bs (!rep), [])
  | _ =>
    let m := a / 2 ^ 56 % 4
    if m = s.sup.straps.cohortId then
      match s.fab.writeDev tenant (a % 2 ^ 48) bs with
      | .ok (f, h) => .ok ({ s with fab := f }, h)
      | .error e => .error e
    else if ¬ s.apt.present.contains m then .error 0x11
    else if (s.route m).isNone then .error 0x40
    else .ok (s.emit (.cohortWrite m tenant (a % 2 ^ 48) bs), [])

/-! ## Notification (R119, R311) -/

/-- The INTx level: some queue that is not DISABLED and counts toward INTx has unread records. -/
def FnQueues.intx (f : FnQueues) : Bool :=
  f.queues.any fun p => decide (p.2.state ≠ .disabled) && p.2.intxEn && decide (p.2.cqTail ≠ p.2.cqHead)

/-- NVMe completion queues of a function that count toward INTx hold entries beyond their head doorbells (R326). -/
def State.nvLevel (s : State) (fn : Nat) : Bool :=
  let k := s.sto.ctrls.getD fn {}
  !k.masked && k.cqs.any fun q => q.2.ien && decide (q.2.tail ≠ q.2.head)

/-- Evaluates a function's INTx level and sends the message a change calls for. -/
def State.evalIntx (s : State) (fn : Nat) : State :=
  let lvl := (s.con.fn fn).intx || s.nvLevel fn
  let s := s.modFn fn fun f => { f with level := lvl }
  let h := s.hostFn fn
  let want := lvl && !h.intDisable
  if want = h.intxSent then s
  else (s.modHost fn fun h => { h with intxSent := want }).emit (.intx fn want)

/-! ## Records (R105, R115, R116) -/

/-- The bytes of a completion record but for its phase bit. -/
structure Rec where
  handle : Nat
  status : Nat
  kind : Nat
  detail : Nat
  tag : Nat
  r0 : Nat
  r1 : Nat
deriving DecidableEq, Repr

/-- The 32 bytes of a record. -/
def Rec.bytes (r : Rec) (phase : Nat) : Bytes :=
  natLe r.handle 8 ++ natLe r.status 1 ++ natLe r.kind 1 ++ natLe phase 1 ++ natLe r.detail 1 ++ natLe r.tag 4 ++
    natLe r.r0 8 ++ natLe r.r1 8

/-- A queue's record write failed: the queue enters ERROR and the management function is told (R105). DEDUCED (log 22): a queue in STOPPING enters ERROR too, as R105 says of any queue, though R102's table names ERROR as left to from RUNNING. -/
def State.cqFail (s : State) (fn q : Nat) : State :=
  (s.modQueue fn q fun u => { u with state := .error, err := latch u.err 2 }).report
    { source := 0x60, severity := 2, bit := 2, reg := 0x24, d0 := fn * 256 + q }

/-- The address of the next record's slot (R105). -/
def Queue.slotAddr (u : Queue) : Nat := u.cqBase.toNat + 32 * (u.cqTail % 2 ^ u.cqLog)

/-- The write of a record to its slot, never relaxed (R276, R312); a queue that the lead carries cannot write one once the lead is gone (R297). -/
def State.slotWriteC (s : State) (fn q : Nat) (bs : Bytes) : Wr :=
  if 16 ≤ fn ∧ s.sup.straps.cohortId ≠ 0 ∧ ¬ s.leadThere then .error 0x40 else s.writeC fn (s.queue fn q).slotAddr bs true

/-- Writes a record into its slot (R105); the phase is 1 on the first pass and inverts on each later one. -/
def State.writeRecordBytes (s : State) (fn q : Nat) (f : Nat → Bytes) : State :=
  let u := s.queue fn q
  let phase := if u.cqTail / 2 ^ u.cqLog % 2 = 0 then 1 else 0
  match s.slotWriteC fn q (f phase) with
  | .error e => (if e = 0x30 then s.memFaultC fn u.slotAddr 32 true else s).cqFail fn q
  | .ok (s, _) => (s.modQueue fn q fun u => { u with cqTail := (u.cqTail + 1) % 2 ^ 32 }).evalIntx fn

/-- Writes a record. -/
def State.writeRecord (s : State) (fn q : Nat) (r : Rec) : State := s.writeRecordBytes fn q r.bytes

/-- The next record of a queue would not be visible at once: its slot lies in an armed pane or behind a full hold buffer (R73, R91), or on an accelerator while a fence stops writes to it (R250). -/
def State.slotHeld (s : State) (fn q : Nat) : Bool :=
  let a := (s.queue fn q).slotAddr
  (decide (a / 2 ^ 60 = 2) && s.mem.fenced) ||
    match s.ownDev a with
    | none => false
    | some off => match s.fab.translate (tenantOf fn) off true with | .ok pa => s.fab.holds pa | .error _ => false

/-- The write of a record that waits for its slot, `k` records behind the next one, is a held write of its controller, which counts it and asks for the pane's copy (R91). -/
def State.noteHeldRecord (s : State) (fn q k : Nat) : State :=
  let u := s.queue fn q
  match s.ownDev (u.cqBase.toNat + 32 * ((u.cqTail + k) % 2 ^ u.cqLog)) with
  | none => s
  | some off =>
    match s.fab.translate (tenantOf fn) off true with
    | .error _ => s
    | .ok pa =>
      if s.fab.armed (paneOf pa) then
        { s with fab := (s.fab.modCtrl (stackOf pa) fun c => { c with heldCount := satInc c.heldCount }).hold (paneOf pa) }
      else s

/-! ## Commands -/

/-- The byte at an offset of a command. -/
def Cmd.byte (c : Cmd) (i : Nat) : Nat := (c.bytes.getD i 0).toNat
/-- The field at an offset of a command. -/
def Cmd.fld (c : Cmd) (off n : Nat) : Nat := fieldAt c.bytes off n
/-- Opcode of a command (R107). -/
def Cmd.opcode (c : Cmd) : Nat := c.byte 0
/-- Flag bit of a command (R107). -/
def Cmd.flag (c : Cmd) (i : Nat) : Bool := (c.bytes.getD 1 0).getLsbD i
/-- Flag fence. -/
def Cmd.fence (c : Cmd) : Bool := c.flag 0
/-- Flag wait. -/
def Cmd.waits (c : Cmd) : Bool := c.flag 1
/-- Flag signal. -/
def Cmd.signals (c : Cmd) : Bool := c.flag 2
/-- Flag quiet. -/
def Cmd.quiet (c : Cmd) : Bool := c.flag 3

/-- A signal (R108): bits [30:0] go up by one, modulo 2^31; a status other than 0x00 sets bit [31]. -/
def signalled (w : W32) (status : Nat) : W32 :=
  let n := (w.toNat % 2 ^ 31 + 1) % 2 ^ 31
  w32 (n + if bitOf w 31 ∨ status ≠ 0 then 2 ^ 31 else 0)

/-- Lands a command's signal on its counter. -/
def State.signal (s : State) (fn : Nat) (c : Cmd) (status : Nat) : State :=
  if c.signals then s.modFn fn fun f => { f with sync := f.sync.upd (c.fld 0x0A 2) 0 fun w => signalled w status }
  else s

/-- The running command a reference names. -/
def State.cmd? (s : State) (r : CmdRef) : Option Cmd :=
  (s.queue r.fn r.q).running.find? fun c => c.handle = r.handle

/-- A queue whose last running command has left and whose last record is posted goes from STOPPING to DISABLED (R102). -/
def Queue.settle (u : Queue) : Queue :=
  if u.state = .stopping ∧ u.running = [] ∧ u.fetched = [] ∧ u.owed = [] then { u with state := .disabled } else u

/-- A record of a queue waits for its slot (R73). -/
def State.recordWaits (s : State) (fn q : Nat) : Bool := s.fab.records.any fun x => decide (x.fn = fn ∧ x.q = q)

/-- A queue frozen by driver loss: a ring of it lies in host space and its function is frozen (R321). -/
def State.frozenQ (s : State) (fn q : Nat) : Bool := (s.hostFn (hostOf fn)).frozen && (s.queue fn q).hostRing

/-- A queue settles once its last record is posted; where that disables it, its unread records no longer count and the INTx level is evaluated (R102, R119). A frozen queue keeps its state code (R321). -/
def State.settleQ (s : State) (fn q : Nat) : State :=
  if (s.queue fn q).settle = s.queue fn q ∨ s.recordWaits fn q ∨ s.frozenQ fn q then s else (s.modQueue fn q Queue.settle).evalIntx fn

/-- The next record of a queue is not written at once: its function is frozen (R321), or its slot or an earlier record waits (R73). -/
def State.deferred (s : State) (fn q : Nat) : Bool := s.frozenQ fn q || s.slotHeld fn q || s.recordWaits fn q

/-- Posts a record that holds `slots` reserved completion slots. One of a frozen function with a ring in host space is held (R321); one whose slot is held in the fabric, or that follows such a one, waits with its tail and its interrupt until the slot is released (R73). Until then the queue owes it. -/
def State.postRecord (s : State) (fn q slots : Nat) (r : Rec) : State :=
  if s.deferred fn q then
    let s' := s.modQueue fn q fun u => { u with owed := u.owed ++ [⟨r.handle, r.kind, slots⟩] }
    if s.frozenQ fn q then s'.modHost (hostOf fn) fun h => { h with held := h.held ++ [⟨fn, q, r.bytes 0⟩] }
    else
      let s' := s'.noteHeldRecord fn q (s.fab.records.filter fun x => decide (x.fn = fn ∧ x.q = q)).length
      { s' with fab := { s'.fab with records := s'.fab.records ++ [⟨fn, q, r.bytes 0⟩] } }
  else s.writeRecord fn q r

/-- A held record's bytes with the phase of its pass. -/
def HeldRecord.bytesAt (x : HeldRecord) (p : Nat) : Bytes := setNth x.bytes 10 (BitVec.ofNat 8 p)

/-- A record that was owed is posted: its slots are reserved no more (R106). -/
def Queue.paid (u : Queue) (x : HeldRecord) : Queue :=
  { u with owed := u.owed.filter fun o => ¬ (o.handle = fieldAt x.bytes 0 8 ∧ o.kind = fieldAt x.bytes 9 1) }

/-- Records that waited are written in order; one that still cannot be written, and those of its queue after it, go on waiting. -/
def postHeld : List HeldRecord → State → State
  | [], s => s
  | x :: r, s =>
    if s.slotHeld x.fn x.q ∨ s.recordWaits x.fn x.q then
      postHeld r { s with fab := { s.fab with records := s.fab.records ++ [x] } }
    else postHeld r (((s.writeRecordBytes x.fn x.q x.bytesAt).modQueue x.fn x.q fun u => u.paid x).settleQ x.fn x.q)

/-! ## The destination of a failed MOVER command (R114) -/

/-- Bytes `i` to `i + n − 1` of a string whose value the spec leaves open (R114). -/
def freeBytesFrom (ctr i n : Nat) : Bytes := (seqFrom i n).map (Config.freeByte ctr)

/-- Leaves the destination of a failed command undefined over the whole length (R114): device bytes that may be written take free values. -/
def State.scramble (s : State) (fn dst n : Nat) : State :=
  match s.ownDev dst with
  | none => s
  | some dst =>
    let f := (chunks paneBytes dst n).foldl (fun f p =>
      match f.writeDev (tenantOf fn) p.1 (freeBytesFrom s.freeCtr (p.1 - dst) p.2) with
      | .ok (f, _) => f
      | .error _ => f) s.fab
    State.tick { s with fab := f }

/-- The destination of a failed tensor is undefined over its whole extent (R114, R159). -/
def State.scrambleTensor (s : State) (fn : Nat) (d : Desc) : State :=
  (seqFrom 0 d.rows).foldl (fun s i =>
    let s := s.scramble fn (d.rowAt i).1 (d.rowAt i).2
    if d.mx then s.scramble fn (d.scaleAt i).1 (d.scaleAt i).2 else s) s

/-- What a MOVER command that ends with a status leaves of its destination: undefined over the whole length where it fails with another status than 0x10, whether or not a byte was transferred (R114). PRESUMED (log 23): a COPY_TENSOR whose destination descriptor cannot be read in device memory names no destination. -/
def State.moverEnd (s : State) (r : CmdRef) (c : Cmd) (status : Nat) : State :=
  if (s.queue r.fn r.q).engine ≠ 4 ∨ status = 0 ∨ status = 0x10 then s
  else if c.opcode = 1 then s.scramble r.fn (c.fld 0x18 8) (c.fld 0x20 8)
  else if c.opcode = 2 then s.scramble r.fn (c.fld 0x10 8) (c.fld 0x18 8)
  else if c.opcode = 4 then s.scramble r.fn (c.fld 0x10 8) 8
  else if c.opcode = 3 ∧ c.fld 0x18 8 / 2 ^ 48 = 0 then
    match s.fab.readDev (tenantOf r.fn) (c.fld 0x18 8) 64 with
    | .ok b => if (Desc.parse b).ok then s.scrambleTensor r.fn (Desc.parse b) else s
    | .error _ => s
  else s

/-- The output of a MODEL_RUN that fails is undefined over all rows (R169). DESIGN CHOICE (log 41): a run of a model that is not registered names no row length; only its rows' stride, where given, says how far, and rows beyond 65,536 are none. -/
def State.runEnd (s : State) (r : CmdRef) (c : Cmd) : State :=
  let len := match s.ten.models.find? fun m => decide (m.tenant = tenantOf r.fn ∧ m.id = c.fld 0x10 2) with
    | some m => m.outLen
    | none => c.fld 0x34 4
  let os := if c.fld 0x34 4 = 0 then len else c.fld 0x34 4
  (seqFrom 0 (min (c.fld 0x14 4) 65536)).foldl (fun s i => s.scramble r.fn (c.fld 0x20 8 + i * os) len) s

/-- What a command that ends with a status leaves of its destination. -/
def State.destEnd (s : State) (r : CmdRef) (c : Cmd) (status : Nat) : State :=
  if (s.queue r.fn r.q).engine = 1 ∧ c.opcode = 4 ∧ status ≠ 0 then s.runEnd r c else s.moverEnd r c status

/-- Reads outstanding for an owner that waits no more go on without one: unit 0 is nobody. -/
def orphan (o : Owner) (l : List ExtRead) : List ExtRead := l.map fun r => if r.owner = o then { r with owner := .unit 0 } else r

/-- Read data no command waits for any more is dropped, and what is still outstanding is nobody's. -/
def State.dropArrived (s : State) (o : Owner) : State :=
  { s with
    hep := { s.hep with arrived := s.hep.arrived.filter fun a => a.owner ≠ o, reads := orphan o s.hep.reads }
    apt := { s.apt with
      arrived := s.apt.arrived.filter fun a => a.owner ≠ o
      ports := s.apt.ports.mapVal fun _ p => { p with reads := orphan o p.reads } } }

/-- The final status of a command: its signal lands, then its record is posted unless quiet suppresses it, and the command leaves its queue (R107, R108, R115). -/
def State.finishD (s : State) (r : CmdRef) (status detail r0 r1 : Nat) : State :=
  match s.cmd? r with
  | none => s
  | some c =>
    let s := (s.destEnd r c status).signal r.fn c status
    let s := s.dropArrived (.cmd r.fn r.q r.handle)
    let s := s.modQueue r.fn r.q fun u => { u with running := u.running.filter fun d => d.handle ≠ r.handle }
    let s := if c.quiet ∧ status = 0 ∧ ¬ c.accepted then s
      else s.postRecord r.fn r.q (if c.accepted then 1 else 2) ⟨r.handle, status, 0, detail, c.fld 4 4, r0, r1⟩
    s.settleQ r.fn r.q

/-- A command's final status without detail. -/
def State.finish (s : State) (r : CmdRef) (status r0 r1 : Nat) : State := s.finishD r status 0 r0 r1

/-- A command fails with a status and the offset of its first offending byte. -/
def State.failAt (s : State) (r : CmdRef) (status detail : Nat) : State := s.finishD r status detail 0 0

/-- A command's final status once the writes it reports are visible: held writes of the named panes delay it (R73, R91). -/
def State.finishSeen (s : State) (r : CmdRef) (panes : List Nat) (status r0 r1 : Nat) : State :=
  if panes = [] then s.finish r status r0 r1
  else { s with fab := { s.fab with unseen := s.fab.unseen ++ [⟨r, status, 0, r0, r1, panes⟩] } }

/-- The acceptance record of a long operation (R115). -/
def State.accept (s : State) (r : CmdRef) : State :=
  match s.cmd? r with
  | none => s
  | some c =>
    if c.accepted then s else
    let s := s.modQueue r.fn r.q fun u =>
      { u with running := u.running.map fun d => if d.handle = r.handle then { d with accepted := true } else d }
    s.postRecord r.fn r.q 1 ⟨r.handle, 0x01, 1, 0, c.fld 4 4, 0, 0⟩

/-- Keeps a running command's progress words. -/
def State.setProg (s : State) (r : CmdRef) (p : List Nat) : State :=
  s.modQueue r.fn r.q fun u =>
    { u with running := u.running.map fun d => if d.handle = r.handle then { d with prog := p } else d }

/-- The first nonzero byte of a body outside the byte ranges its layout uses (R107, R121). -/
def rsvBad (bytes : Bytes) (used : List (Nat × Nat)) : Option Nat :=
  (seqFrom 0x10 0x30).find? fun i =>
    bytes.getD i 0 ≠ 0 && !(used.any fun u => decide (u.1 ≤ i ∧ i < u.1 + u.2))

/-- Whether a command already waits for its held writes. -/
def State.unseenCmd (s : State) (r : CmdRef) : Bool := s.fab.unseen.any fun u => u.ref = r

/-- A command with a nonzero RSV byte fails at its first offending byte: that byte, or the field below it that the command's meaning refuses by itself (R116, R121). -/
def State.rsvFail (s : State) (r : CmdRef) (c : Cmd) (f : Cmd → State) (i : Nat) : State :=
  s.failAt r 0x10 (((seqFrom 0x10 (i - 0x10)).find? fun d => decide (f c = s.failAt r 0x10 d)).getD i)

/-- Runs the meaning of an engine's command on a started command that names it, after the RSV check of its body; any other reference changes nothing. -/
def State.runCmd (s : State) (r : CmdRef) (engine opcode : Nat) (used : List (Nat × Nat))
    (f : Cmd → State) : State :=
  match s.cmd? r with
  | none => s
  | some c =>
    if (s.queue r.fn r.q).engine = engine ∧ c.opcode = opcode ∧ ¬ s.unseenCmd r then
      match rsvBad c.bytes used with
      | some i => s.rsvFail r c f i
      | none => f c
    else s

/-- The owner of a command's external reads. -/
def CmdRef.owner (r : CmdRef) : Owner := .cmd r.fn r.q r.handle

/-- A read at the address field `off` of a command fails: the controller's part in it, then the command's final record (R88, R116). -/
def State.readFails (s : State) (r : CmdRef) (st off a n : Nat) : State :=
  (if st = 0x30 then s.memFaultC r.fn a n false else s).failAt r st (detailAt st off a)

/-- A write at the address field `off` of a command fails. -/
def State.writeFails (s : State) (r : CmdRef) (st off a n : Nat) : State :=
  (if st = 0x30 then s.memFaultC r.fn a n true else s).failAt r st (detailAt st off a)

/-- Reads for a command at its address field `off` and goes on with the data; a failure ends the command, missing answers leave it running, and no bytes need no address. -/
def State.withRead (s : State) (r : CmdRef) (off a n : Nat) (k : Bytes → State) : State :=
  if n = 0 then k [] else
  match s.readC r.owner r.fn a n with
  | .data bs => k bs
  | .fail st => s.readFails r st off a n
  | .wait s' => s'

end Sys2Proof.Machine
end

