-- ==== Sys2Proof/Machine/Desc.lean ====
section
/-! DEFINITION. The elements of tensors in memory and rows of elements (spec/04 R110, spec/05 R123, R128, R130). -/

namespace Sys2Proof.Machine

open Sys2Proof

/-- The element bits of a packed byte sequence (R130). -/
def unpackBits (w n : Nat) (bs : Bytes) : List Nat :=
  let v := leNat bs
  (seqFrom 0 n).map fun i => v / 2 ^ (i * w) % 2 ^ w

/-- Packs element bits into bytes. -/
def packBits (w : Nat) (es : List Nat) : Bytes :=
  natLe (es.foldr (fun e acc => e + acc * 2 ^ w) 0) ((es.length * w + 7) / 8)

/-- The values of elements under a format byte; `scales` holds a scale byte for each 32 elements under MX. -/
def rowVals (code : Nat) (mx : Bool) (n : Nat) (elems scales : Bytes) : List Val :=
  (unpackBits (codeBits code) n elems).zipIdx.map fun p =>
    if mx then mxVal code (scales.getD (p.2 / 32) 0).toNat p.1 else elemVal code p.1

/-- Cuts a list into pieces of 32. -/
def blocks32 {α : Type} : Nat → List α → List (List α)
  | 0, _ => []
  | n + 1, l => if l.isEmpty then [] else l.take 32 :: blocks32 n (l.drop 32)

/-- The element bits and scale bytes of values in a format; `rs i` is the random value of element `i` (R126 to R129). -/
def putVals (fmt : Nat) (mx : Bool) (md : Rnd) (rs : Nat → Nat) (vs : List Val) : List Nat × Bytes :=
  let code := fmtCode fmt
  let r := fun i => if md = .sr then rs i else 0
  if mx then
    let bl := (blocks32 vs.length vs).zipIdx.map fun p => mxBlock code md (p.1.zipIdx.map fun x => r (32 * p.2 + x.2)) p.1
    (bl.flatMap fun b => b.2, bl.map fun b => BitVec.ofNat 8 b.1)
  else (vs.zipIdx.map fun p => elemBits code (fmtSatOff fmt) md (r p.2) p.1, [])

/-- Reads a row of values from a tenant's device memory. -/
def Fabric.readRow (f : Fabric) (tenant : Nat) (d : Desc) (row : Nat) : Except Nat (List Val) :=
  match f.readDev tenant (d.rowAt row).1 (d.rowAt row).2, f.readDev tenant (d.scaleAt row).1 (d.scaleAt row).2 with
  | .error e, _ => .error e
  | .ok _, .error e => .error e
  | .ok b, .ok sc => .ok (rowVals d.code d.mx (d.dim 0) b sc)

/-- Reads several rows. -/
def Fabric.readRows (f : Fabric) (tenant : Nat) (d : Desc) : List Nat → Except Nat (List (List Val))
  | [] => .ok []
  | r :: rs =>
    match f.readRow tenant d r, f.readRows tenant d rs with
    | .error e, _ => .error e
    | .ok _, .error e => .error e
    | .ok v, .ok vs => .ok (v :: vs)

/-- Writes a row: its elements and its scale bytes; the panes whose writes are held are named. -/
def Fabric.writeRow (f : Fabric) (tenant : Nat) (d : Desc) (row : Nat) (md : Rnd) (rs : Nat → Nat) (vs : List Val) :
    Except Nat (Fabric × List Nat) :=
  let (es, sc) := putVals d.fmt d.mx md rs vs
  match f.writeDev tenant (d.rowAt row).1 (packBits d.bits es) with
  | .error e => .error e
  | .ok (f, h) =>
    match f.writeDev tenant (d.scaleAt row).1 sc with
    | .error e => .error e
    | .ok (f, h') => .ok (f, h ++ h')

end Sys2Proof.Machine
end

