-- ==== Sys2Proof/Machine/Report.lean ====
section
/-! DEFINITION. Record headers, the fault log of the AOD, alerts, and the delivery of DIAG_READ (spec/02 R41, spec/19 R521, spec/21 R541 to R549). -/

namespace Sys2Proof.Machine

open Sys2Proof

/-- The sources of R521 that have a tally of their own (R513). -/
def hasTally (src : Nat) : Bool :=
  src == 0 || (decide (0x10 ≤ src) && decide (src < 0x18)) || (decide (0x20 ≤ src) && decide (src < 0x28)) ||
    (decide (0x30 ≤ src) && decide (src < 0x38)) || [0x40, 0x50, 0x51, 0x52, 0x60, 0x61, 0x62].contains src

/-- A tally as it reads: [62:0] ns, [63] TIME_UNCERTAIN (R513); the spec gives the placement engine and Crucible no tally, so theirs is free. -/
def State.tally (s : State) (src : Nat) : Nat :=
  if hasTally src then s.tal.ns.getD src 0 % 2 ^ 63 + b2n s.tal.uncertain * 2 ^ 63 else s.free % 2 ^ 64

/-- A record with its 24-byte header (R41); its CRC covers header and payload with the CRC field zero. -/
def recordBytes (typ src flags seq tally : Nat) (payload : Bytes) : Bytes :=
  let h := natLe (24 + payload.length) 2 ++ natLe typ 2 ++ natLe src 2 ++ natLe flags 2 ++ natLe seq 4
  h ++ natLe (crc32c (h ++ zeros 4 ++ natLe tally 8 ++ payload)).toNat 4 ++ natLe tally 8 ++ payload

/-- Forms the next record of a source: flag [0] on its first record, flag [1] after lost ones (R521). -/
def State.nextRecord (s : State) (typ src : Nat) (payload : Bytes) : Bytes :=
  let seq := s.tel.seqs.getD src 0
  let flags := b2n (decide (seq = 0)) + 2 * b2n (s.tel.gaps.contains src)
  recordBytes typ src flags seq (s.tally src) payload

/-- The per-source sequence moves on. -/
def State.usedRecord (s : State) (src : Nat) : State :=
  let s := if hasTally src then s else s.tick
  { s with tel := { s.tel with
      seqs := s.tel.seqs.upd src 0 fun n => (n + 1) % 2 ^ 32
      gaps := s.tel.gaps.filter (· ≠ src) } }

/-- The payload of a fault entry (R545), 40 bytes. -/
def Report.payload (r : Report) : Bytes :=
  natLe r.severity 1 ++ natLe r.member 1 ++ natLe r.status 1 ++ natLe r.bit 1 ++ natLe r.reg 2 ++ natLe r.block 2 ++
    natLe r.d0 8 ++ natLe r.d1 8 ++ natLe r.d2 8 ++ zeros 8

/-- Latches an alert and, while ENEC enables it on I3C, sends an in-band interrupt for an enabled event (R508, R523). -/
def State.alert (s : State) (i : Nat) : State :=
  let w := latch s.pwr.alertLatch i
  let s := { s with pwr := { s.pwr with alertLatch := w } }
  if s.sb.protocol = 1 ∧ s.sb.ibiEn ∧ bitOf s.pwr.alertEn i then s.emit (.ibi (field w 0 8)) else s

/-- ALERT_N is low while an enabled bit is latched (R523). -/
def PowerCtl.alertLow (p : PowerCtl) : Bool := p.alertEn &&& p.alertLatch != 0#32

/-- Entries of the fault log from a 64-bit cursor, at most `n`, with the first one's number (R548). -/
def FaultLog.from_ (l : FaultLog) (cursor n : Nat) : List Bytes :=
  let oldest := l.count - l.entries.length
  (l.entries.drop (max cursor oldest - oldest)).take n

/-- The answer of a kind 2 DIAG_READ whose cursor has entries: whole entries to dst, 0xB0 where the cursor was overwritten (R548). -/
def State.diagLog (s : State) (r : CmdRef) (c : Cmd) : State :=
  let cursor := c.fld 0x20 8
  let n := s.log.count
  let es := s.log.from_ cursor (c.fld 0x28 4 / 64)
  let start := max cursor (n - s.log.entries.length)
  let st := if cursor + 2048 < n then 0xB0 else 0
  match s.writeC r.fn (c.fld 0x18 8) es.flatten with
  | .error e => s.writeFails r e 0x18 (c.fld 0x18 8) es.flatten.length
  | .ok (s, h) => s.finishSeen r h st (64 * es.length) (start + es.length)

/-- Ends every waiting DIAG_READ whose cursor now has an entry (R543, R549). -/
def wakeDiag : List CmdRef → State → State
  | [], s => s
  | r :: rs, s =>
    match s.cmd? r with
    | none => wakeDiag rs { s with log := { s.log with waiters := s.log.waiters.filter (· ≠ r) } }
    | some c =>
      if c.fld 0x20 8 < s.log.count then
        wakeDiag rs (State.diagLog { s with log := { s.log with waiters := s.log.waiters.filter (· ≠ r) } } r c)
      else wakeDiag rs s

/-- Appends one 64-byte entry to the ring of 2,048 and ends the waits for it; a member forwards what is severe to its lead (R544, R541 stages 4 and 5). -/
def State.appendEntry (s : State) (b : Bytes) (severity : Nat) : State :=
  let es := s.log.entries ++ [b]
  let s := { s with log := { s.log with entries := es.drop (es.length - 2048), count := s.log.count + 1 } }
  let s := if 2 ≤ severity then s.alert 1 else s
  let s := if 2 ≤ severity ∧ s.sup.straps.cohortId ≠ 0 ∧ s.apt.formed ∧ s.boot.supervisor then s.emit (.cohortMsg 0 0x21 b) else s
  wakeDiag s.log.waiters s

/-- Turns a report into an entry of the fault log (R541 stages 2 and 3, R545). -/
def State.logEntry (s : State) (r : Report) : State :=
  let b := s.nextRecord r.typ r.source r.payload
  (s.usedRecord r.source).appendEntry b r.severity

/-- An entry the AOD writes itself (R541): supply, thermal, boot-halt and reset entries. -/
def State.aodEntry (s : State) (typ severity bit d0 d1 d2 : Nat) : State :=
  s.logEntry { typ := typ, source := 0, severity := severity, bit := bit, reg := if typ = 5 then 0x104 else 0,
               block := 3, d0 := d0, d1 := d1, d2 := d2 }

/-- A supply or thermal entry (R546, type 0x0005): AOD_VIN_MV, rail index, hottest_c. -/
def State.supplyEntry (s : State) (severity bit rail : Nat) : State :=
  s.aodEntry 5 severity bit s.sup.vinMv rail s.sup.hottestC

end Sys2Proof.Machine
end

