-- ==== Sys2Proof/Machine/FlashOps.lean ====
section
/-! DEFINITION. The configuration flash: its admission point, directory, flight log, withdrawn-list copies and settings store (spec/02 R38 to R41, R55, R56; spec/01 R24, R25; spec/03 R90; spec/20 R539). -/

namespace Sys2Proof.Machine

open Sys2Proof

/-! ## Layout (R39) -/

/-- Start of directory copy `i`. -/
def dirBase (i : Nat) : Nat := 0x10000 * i
/-- Start of firmware bank 0 (A) or 1 (B). -/
def bankBase (b : Nat) : Nat := if b = 0 then 0x20000 else 0x2820000
/-- Start of profile slot 0 (A) or 1 (B). -/
def slotBase (b : Nat) : Nat := if b = 0 then 0x5020000 else 0x5420000
/-- Start of the settings store. -/
def storeBase : Nat := 0x5820000
/-- Start of the flight log. -/
def flightBase : Nat := 0x6000000
/-- The erase-done marker (R40). -/
def eraseMarker : Bytes := natLe 0x4F445245 4

/-- Reads the flash; erased bytes read 0xFF. -/
def Flash.read (f : Flash) (a n : Nat) : Bytes := Mem.read 0xFF f.mem a n

/-! ## Operations (R24, R38, R40) -/

/-- Programmed bytes hold what was programmed last: so an image may be programmed over the erase-done markers of its sectors (R40, R524). -/
def programMem (m : Mem) (a : Nat) (bs : Bytes) : Mem := Mem.write 0xFF m a bs

/-- The effect of one finished operation on the flash contents. -/
def FlashOp.apply (m : Mem) : FlashOp → Mem
  | .erase sector => Mem.clear m (sector * 0x10000) 0x10000
  | .program a bs => programMem m a bs
  | .listPart a bs => programMem m a bs
  | .note _ => m

/-- Erases a sector and programs its marker (R40). -/
def eraseOps (sector : Nat) : List FlashOp := [.erase sector, .program (sector * 0x10000) eraseMarker]

/-- Erases every sector a region of `n` bytes from `a` touches and programs its marker (R40); the image programmed next takes the marker's place (R524, R47). -/
def eraseRange (a n : Nat) : List FlashOp := (seqFrom (a / 0x10000) ((n + 0xFFFF) / 0x10000)).flatMap eraseOps

/-- Programs bytes page by page (256 B, R38). -/
def programOps (a : Nat) (bs : Bytes) : List FlashOp :=
  (chunks 256 a bs.length).map fun p => .program p.1 (slice bs (p.1 - a) p.2)

/-- Erases the sectors of a bank or profile slot and programs an image into them. -/
def writeRegion (a : Nat) (bs : Bytes) : List FlashOp := eraseRange a bs.length ++ programOps a bs

/-- The operation changes the flash. -/
def FlashOp.writes : FlashOp → Bool
  | .note _ => false
  | _ => true

/-- The flash as it stands once every operation submitted is done; a reader that comes after them reads this. -/
def Flash.view (f : Flash) : Flash := { f with mem := f.queue.foldl FlashOp.apply f.mem }

/-- A page of a withdrawn-list copy. -/
def FlashOp.isPart : FlashOp → Bool
  | .listPart _ _ => true
  | _ => false

/-- Operations that wait behind the one issued, and that the inhibit holds while it is in force (R24); pages of a withdrawn-list copy are abandoned, not held (R90). -/
def Flash.waiting (f : Flash) : Nat := (if f.busy then f.queue.drop 1 else f.queue).countP fun o => o.writes && !o.isPart

/-- What a loss of V1P8_SB leaves: a program already issued is completed on the hold-up, an erase in progress or suspended leaves its sector without a marker, so that it is found incomplete (R24, R40), and what was not issued is lost. -/
def Flash.powerCut (f : Flash) : Mem :=
  match f.busy, f.queue with
  | true, op :: _ => op.apply f.mem
  | _, _ => f.mem

/-! ## The admission point (R25) -/

/-- Lets the head of the flash queue be issued unless the inhibit holds; the notes at the head take effect by `note`. -/
def flashKick (note : FlashNote → State → State) : Nat → State → State
  | 0, s => s
  | n + 1, s =>
    match s.fl.queue with
    | [] => s
    | .note k :: rest =>
      if s.fl.busy then s
      else flashKick note n (note k { s with fl := { s.fl with queue := rest } })
    | _ :: _ =>
      if s.fl.busy ∨ s.sup.inhibit then s else { s with fl := { s.fl with busy := true } }

/-- What a note of the flash queue does: a command completes, a download piece is known written, a list copy is whole. -/
def runNote (k : FlashNote) (s : State) : State :=
  match k with
  | .command r st r0 r1 => s.finish r st r0 r1
  | .piece none => s.emit (.sideband 0 [])
  | .piece (some f) => s.emit (.hostMsg f 0x7E [0])
  | .listCopied l => { s with fl := { s.fl with savedList := l } }

/-- Submits non-volatile writes; while the inhibit holds they are held and counted (R24). DESIGN CHOICE (log 67): one write of AOD_NVW_HELD is one erase or one page program of the flash, one append of the flight log, or one write accepted for a drive. -/
def State.flashSubmit (s : State) (ops : List FlashOp) : State :=
  let s := { s with fl := { s.fl with queue := s.fl.queue ++ ops } }
  let s := if s.sup.inhibit then { s with sup := { s.sup with nvwHeld := satAdd s.sup.nvwHeld (ops.countP FlashOp.writes) } } else s
  flashKick runNote (s.fl.queue.length) s

/-- Waits for the flash: unless the inhibit holds, every operation submitted is done (R42, R43: the boot ROM waits for its own writes). -/
def State.flashSettle (s : State) : State :=
  if s.sup.inhibit then s
  else
    let q := s.fl.queue
    let s := { s with fl := { s.fl with mem := s.fl.view.mem, queue := [], busy := false, suspended := false } }
    q.foldl (fun s o => match o with | .note k => runNote k s | _ => s) s

/-- A page of a withdrawn-list copy, or the note that the copy is whole. -/
def FlashOp.ofCopy : FlashOp → Bool
  | .listPart _ _ => true
  | .note (.listCopied _) => true
  | _ => false

/-- The inhibit suspends an erase in progress and abandons a withdrawn-list copy that is not whole: its pages and the note of its end (R24, R90). -/
def State.flashInhibit (s : State) : State :=
  let head := if s.fl.busy then s.fl.queue.take 1 else []
  let rest := if s.fl.busy then s.fl.queue.drop 1 else s.fl.queue
  let cut := rest.any FlashOp.isPart
  let susp := match head with | [.erase _] => true | _ => false
  let kept := rest.takeWhile (fun o => !o.isPart) ++ (rest.dropWhile fun o => !o.isPart).filter fun o => !o.ofCopy
  { s with fl := { s.fl with
      queue := head ++ kept
      suspended := susp
      listDue := s.fl.listDue || cut
      logOff := if cut then 0x10000 else s.fl.logOff } }

/-! ## The directory (R41) -/

/-- The code of a bank state. -/
def BankState.code : BankState → Nat
  | .empty => 0
  | .valid => 1
  | .trial => 2
  | .bad => 3

/-- The bank state of a code. -/
def bankStateOf (n : Nat) : BankState := if n = 1 then .valid else if n = 2 then .trial else if n = 3 then .bad else .empty

/-- Bytes 0x04 to 0x1F of a directory copy. -/
def Dir.body (d : Dir) : Bytes :=
  ascii "RDIR" ++ natLe d.seq 8 ++ natLe d.activeBank 1 ++ natLe d.bankA.code 1 ++ natLe d.bankB.code 1 ++
    natLe d.trialLeft 1 ++ natLe d.activeProfile 1 ++ natLe d.pendingProfile 1 ++ zeros 10

/-- A directory copy as it is programmed after the marker. -/
def Dir.bytes (d : Dir) : Bytes := eraseMarker ++ d.body ++ natLe (crc32c d.body).toNat 4

/-- Reads directory copy `i`, if it is valid. -/
def Flash.dirAt (f : Flash) (i : Nat) : Option Dir :=
  let b := f.read (dirBase i) 0x24
  if slice b 0 4 = eraseMarker ∧ slice b 4 4 = ascii "RDIR" ∧ (crc32c (slice b 4 0x1C)).toNat = fieldAt b 0x20 4 then
    some { seq := fieldAt b 8 8, activeBank := fieldAt b 0x10 1, bankA := bankStateOf (fieldAt b 0x11 1),
           bankB := bankStateOf (fieldAt b 0x12 1), trialLeft := fieldAt b 0x13 1,
           activeProfile := fieldAt b 0x14 1, pendingProfile := fieldAt b 0x15 1 }
  else none

/-- The governing directory: the valid copy with the higher sequence, with the copy it stands in. -/
def Flash.directory (f : Flash) : Option (Dir × Nat) :=
  match f.dirAt 0, f.dirAt 1 with
  | some a, some b => if b.seq ≤ a.seq then some (a, 0) else some (b, 1)
  | some a, none => some (a, 0)
  | none, some b => some (b, 1)
  | none, none => none

/-- The operations of one directory update: the copy with the lower sequence is erased and rewritten one higher. -/
def dirOps (copy : Nat) (d : Dir) : List FlashOp := eraseOps (1 - copy) ++ programOps (dirBase (1 - copy)) d.bytes

/-- Updates the directory through the admission point. -/
def State.setDir (s : State) (f : Dir → Dir) : State :=
  let d := f s.boot.dir
  let d := { d with seq := s.boot.dir.seq + 1 }
  let ops := dirOps s.boot.dirCopy d
  { s with boot := { s.boot with dir := d, dirCopy := 1 - s.boot.dirCopy } }.flashSubmit ops

/-- Updates the directory through the admission point and waits for it where the inhibit lets it be written, as the boot ROM does before it loads (R25, R43). -/
def State.setDirNow (s : State) (f : Dir → Dir) : State := (s.setDir f).flashSettle

/-- The state of a bank. -/
def Dir.bank (d : Dir) (b : Nat) : BankState := if b = 0 then d.bankA else d.bankB

/-- Sets the state of a bank. -/
def Dir.setBank (d : Dir) (b : Nat) (st : BankState) : Dir := if b = 0 then { d with bankA := st } else { d with bankB := st }

/-! ## The flight log (R41) -/

/-- A length rounded up to a multiple of 8. -/
def round8 (n : Nat) : Nat := (n + 7) / 8 * 8

/-- The header of a flight-log sector after its marker. -/
def sectorHeader (seq erases : Nat) : Bytes :=
  natLe 0xFFFFFF00 4 ++ natLe seq 8 ++ natLe erases 4 ++ List.replicate 12 0xFF#8

/-- Places a record of `len` bytes: the operations that open a new sector, and where the record goes. The ring advances over the tail it leaves in a full sector too (R90). -/
def Flash.place (f : Flash) (len : Nat) : Flash × List FlashOp × Nat :=
  let n := round8 len
  if f.logOff ≠ 0 ∧ f.logOff + n ≤ 0x10000 then
    ({ f with logOff := f.logOff + n, logSince := f.logSince + n }, [], flightBase + f.logSector * 0x10000 + f.logOff)
  else
    let sec := if f.logOff = 0 then f.logSector else (f.logSector + 1) % 512
    let er := f.logErases.getD sec 0 + 1
    let full := if f.logOff = 0 then [] else [FlashOp.program (flightBase + f.logSector * 0x10000 + 4) (natLe 0xFFFF0000 4)]
    let base := flightBase + sec * 0x10000
    let skipped := if f.logOff = 0 then 0 else 0x10000 - f.logOff
    ({ f with logSector := sec, logOff := 32 + n, logSeq := f.logSeq + 1, logErases := f.logErases.put sec er,
              logSince := f.logSince + skipped + n + 32 },
     full ++ eraseOps (base / 0x10000) ++ [.program (base + 4) (sectorHeader (f.logSeq + 1) er)], base + 32)

/-- Queues one flight-log record. -/
def State.flightWrite (s : State) (b : Bytes) (part : Bool) : State :=
  let (f, ops, at_) := s.fl.place b.length
  let pages := (chunks 256 at_ b.length).map fun p =>
    if part then FlashOp.listPart p.1 (slice b (p.1 - at_) p.2) else .program p.1 (slice b (p.1 - at_) p.2)
  State.flashSubmit { s with fl := f } (ops ++ pages)

/-- The parts of a withdrawn-pane-list copy: records of type 0x2000 of at most 16,000 panes (R90, R546). -/
def listParts (l : List Nat) : List Bytes :=
  let n := max 1 ((l.length + 15999) / 16000)
  (seqFrom 0 n).map fun i =>
    let p := (l.drop (16000 * i)).take 16000
    natLe i 2 ++ natLe n 2 ++ natLe p.length 4 ++ p.flatMap fun x => natLe x 4

/-- Queues the records of a withdrawn-pane-list copy, one after the other. -/
def listWrite : List Bytes → State → State
  | [], s => s
  | p :: r, s =>
    let b := s.nextRecord 0x2000 0x10 p
    listWrite r ((s.usedRecord 0x10).flightWrite b true)

/-- Rewrites the whole withdrawn-pane list into the flight log; due while the inhibit holds, it is made after the lift (R90). -/
def State.copyWithdrawn (s : State) : State :=
  if s.sup.inhibit then { s with fl := { s.fl with listDue := true } }
  else
    State.flashSubmit (listWrite (listParts s.fab.withdrawn) { s with fl := { s.fl with listDue := false, logSince := 0 } })
      [.note (.listCopied s.fab.withdrawn)]

/-- Appends a record to the flight log; while the inhibit holds it goes to the 64 KiB retention buffer or is dropped and counted (R24). After 16 MiB the withdrawn list is copied again (R90). -/
def State.flightAppend (s : State) (b : Bytes) : State :=
  if s.sup.inhibit then
    let used := (s.fl.retention.map fun r => round8 r.length).sum
    if used + round8 b.length ≤ 65536 then
      { s with fl := { s.fl with retention := s.fl.retention ++ [b] },
               sup := { s.sup with nvwHeld := satInc s.sup.nvwHeld } }
    else { s with fl := { s.fl with dropped := s.fl.dropped + 1 } }
  else
    let s := s.flightWrite b false
    if 0x1000000 ≤ s.fl.logSince then s.copyWithdrawn else s

/-- Writes the records of the retention buffer once the inhibit has lifted. -/
def State.flushRetention (s : State) : State :=
  let rs := s.fl.retention
  rs.foldl (fun s b => s.flightAppend b) { s with fl := { s.fl with retention := [] } }

/-- A fault entry of a Gaffer core: into the fault log, with a copy in the flight log (R541 stage 3). -/
def State.logBoth (s : State) (r : Report) : State :=
  let b := s.nextRecord r.typ r.source r.payload
  ((s.usedRecord r.source).appendEntry b r.severity).flightAppend b

/-- Forms a record and appends it to the flight log only. -/
def State.flightRecord (s : State) (typ src : Nat) (payload : Bytes) : State :=
  (s.usedRecord src).flightAppend (s.nextRecord typ src payload)

/-! ## The settings store (R55, R56) -/

/-- Bytes 0x00 to 0x1B of a settings record. -/
def settingBody (gen : Nat) (x : Setting) (seq : Nat) : Bytes :=
  natLe gen 8 ++ natLe x.format 4 ++ natLe x.tenant 1 ++ natLe x.setting 1 ++ natLe x.index 2 ++ natLe x.value 8 ++ natLe seq 4

/-- A settings record. -/
def settingBytes (gen : Nat) (x : Setting) (seq : Nat) : Bytes :=
  let b := settingBody gen x seq
  b ++ natLe (crc32c b).toNat 4

/-- Slots of a settings sector. -/
def storeSlots : Nat := (0x10000 - 0x40) / 32

/-- Where a slot of the settings store lies. -/
def storeAddr (sector slot : Nat) : Nat := storeBase + sector * 0x10000 + 0x40 + 32 * slot

/-- Two settings name the same (tenant, setting, index). -/
def Setting.same (x y : Setting) : Bool := decide (x.tenant = y.tenant ∧ x.setting = y.setting ∧ x.index = y.index)

/-- A record of the settings store as it stands in flash: its generation, sequence and setting; none where its CRC is bad. -/
def settingAt (b : Bytes) : Option (Nat × Nat × Setting) :=
  if (crc32c (slice b 0 0x1C)).toNat = fieldAt b 0x1C 4 then
    some (fieldAt b 0 8, fieldAt b 0x18 4,
      { tenant := fieldAt b 0xC 1, setting := fieldAt b 0xD 1, index := fieldAt b 0xE 2, value := fieldAt b 0x10 8,
        format := fieldAt b 8 4 })
  else none

/-- Every programmed slot of the settings store: sector, slot and bytes; a sector without its marker holds none (R40). -/
def Flash.storeRecords (f : Flash) : List (Nat × Nat × Bytes) :=
  ((seqFrom 0 16).filter fun sec => f.read (storeBase + sec * 0x10000) 4 = eraseMarker).flatMap fun sec =>
    ((seqFrom 0 storeSlots).map fun i => (sec, i, f.read (storeAddr sec i) 32)).filter
      fun r => r.2.2 ≠ List.replicate 32 0xFF#8

/-- The sector in which the record that governs a setting stands: of its records the one with the highest sequence (R56). -/
def Flash.homeOf (f : Flash) (x : Setting) : Nat :=
  (f.storeRecords.foldl (fun (m : Nat × Nat) r =>
    match settingAt r.2.2 with
    | some y => if Setting.same y.2.2 x ∧ m.1 ≤ y.2.1 then (y.2.1, r.1) else m
    | none => m) (0, 0)).2

/-- Copies records into fresh sectors from `sec` and slot 0. -/
def copySettings (gen : Nat) : List Setting → Nat → Nat → Nat → List FlashOp
  | [], _, _, _ => []
  | x :: r, sec, slot, seq =>
    .program (storeAddr (sec % 16) slot) (settingBytes gen x seq) ::
      (if slot + 1 = storeSlots then copySettings gen r (sec + 1) 0 (seq + 1) else copySettings gen r sec (slot + 1) (seq + 1))

/-- Copies a sector's worth of records into the next erased sector, erases the sectors of which no record is left to copy, and goes on with the rest, so that no sector is written that still holds a record (R56); `home` is the sector a record stands in, and `old` are the sectors in use when the compaction began. -/
def compactInto (gen : Nat) (home : Setting → Nat) (old : List Nat) : Nat → List Setting → Boot → Boot × List FlashOp
  | 0, _, b => (b, [])
  | n + 1, l, b =>
    let now := l.take storeSlots
    let rest := l.drop storeSlots
    let sec := (b.storeSector + 1) % 16
    let ops := copySettings gen now sec 0 (b.storeSeq + 1)
    let gone := b.storeUsed.filter fun x => old.contains x && !(rest.any fun y => home y = x)
    let b := { b with storeSector := sec, storeSlot := now.length, storeSeq := b.storeSeq + now.length
                      storeUsed := (b.storeUsed.filter fun x => !(gone.contains x)) ++ [sec] }
    let er := gone.flatMap fun x => eraseOps (storeBase / 0x10000 + x)
    match rest with
    | [] => (b, ops ++ er)
    | _ => let (b, more) := compactInto gen home old n rest b; (b, ops ++ er ++ more)

/-- Compaction (R56): with fewer than two erased sectors left, the governing records that R55 keeps are copied to the next erased sector with new sequences, and only then the sectors they came from are erased. Records of the oldest sector go first, so that the sector behind the copied ones is erased before it is written. -/
def Boot.compact (b : Boot) (f : Flash) (gen : Nat) : Boot × List FlashOp :=
  if 16 < b.storeUsed.length + 2 then
    let l := b.settings.map fun x => (f.homeOf x, x)
    let oldest := (seqFrom (b.storeSector + 1) 16).flatMap fun i => l.filter fun y => y.1 = i % 16
    compactInto gen f.homeOf b.storeUsed 16 (oldest.map (·.2)) b
  else (b, [])

/-- Appends the record of a setting to the store. -/
def Boot.appendSetting (b : Boot) (f : Flash) (gen : Nat) (x : Setting) : Boot × List FlashOp :=
  let b := { b with
    settings := (b.settings.filter fun y => !(Setting.same y x)) ++ [x]
    force := (b.force.filter fun y => !(Setting.same y x)) ++ [x] }
  let (sec, slot) := if b.storeSlot < storeSlots then (b.storeSector, b.storeSlot) else ((b.storeSector + 1) % 16, 0)
  let op := FlashOp.program (storeAddr sec slot) (settingBytes gen x (b.storeSeq + 1))
  let b := { b with storeSector := sec, storeSlot := slot + 1, storeSeq := b.storeSeq + 1,
                    storeUsed := if b.storeUsed.contains sec then b.storeUsed else b.storeUsed ++ [sec] }
  let (b, ops) := b.compact (Flash.view { f with queue := f.queue ++ [op] }) gen
  (b, op :: ops)

/-- Keeps, for each (tenant, setting, index), the record with the highest sequence. -/
def governing : List (Nat × Nat × Setting) → List (Nat × Nat × Setting)
  | [] => []
  | x :: r =>
    let g := governing r
    match List.find? (fun y : Nat × Nat × Setting => Setting.same y.2.2 x.2.2) g with
    | some y => if y.2.1 < x.2.1 then x :: g.filter fun z => !(Setting.same z.2.2 x.2.2) else g
    | none => x :: g

end Sys2Proof.Machine
end

