-- ==== Sys2Proof/Machine/Profile.lean ====
section
/-! DEFINITION. The signed profile: its header, sections, records and the checks of R51 (spec/02 R47 to R54 and the key tables of the chapters). -/

namespace Sys2Proof.Machine

open Sys2Proof

/-- An entry of the section table (R48). -/
structure Section where
  typ : Nat
  inst : Nat
  off : Nat
  len : Nat
  crc : Nat
deriving DecidableEq, Repr

/-- A record of a section (R50). -/
structure PRec where
  key : Nat
  critical : Bool
  value : Bytes
deriving DecidableEq, Repr

namespace Profile

/-- total_size (R47). -/
def total (p : Bytes) : Nat := fieldAt p 0x0C 4
/-- generation (R47). -/
def generation (p : Bytes) : Nat := fieldAt p 0x10 8
/-- The section table (R48). -/
def sections (p : Bytes) : List Section :=
  (seqFrom 0 (fieldAt p 0x38 2)).map fun i =>
    let o := fieldAt p 0x34 4 + 16 * i
    { typ := fieldAt p o 2, inst := fieldAt p (o + 2) 2, off := fieldAt p (o + 4) 4, len := fieldAt p (o + 8) 4,
      crc := fieldAt p (o + 12) 4 }

/-- Reads up to `n` records of a section's bytes; none where a record runs past the end. -/
def recordsN : Nat → Bytes → Option (List PRec)
  | 0, b => if b = [] then some [] else none
  | n + 1, b =>
    if b = [] then some []
    else
      let k := fieldAt b 0 2
      let l := fieldAt b 2 2
      let t := 4 + (l + 3) / 4 * 4
      if b.length < t then none
      else (recordsN n (b.drop t)).map fun r => ⟨k % 0x8000, decide (0x8000 ≤ k), slice b 4 l⟩ :: r

/-- The records of a section. -/
def records (p : Bytes) (x : Section) : Option (List PRec) := recordsN (x.len / 4) (slice p x.off x.len)

/-- The value of a key, if the profile gives it. -/
def value? (p : Bytes) (typ inst key : Nat) : Option Bytes :=
  match (sections p).find? fun x => decide (x.typ = typ ∧ x.inst = inst) with
  | none => none
  | some x => ((records p x).getD []).find? (fun r => decide (r.key = key)) |>.map (·.value)

/-- The number a key holds, or its default (R50). -/
def num (p : Bytes) (typ inst key dflt : Nat) : Nat :=
  match value? p typ inst key with
  | some v => leNat v
  | none => dflt

/-- The range of a key that is a 4-byte unsigned integer (R53, R176, R269, R348, R376, R395, R421, R455, R471). -/
def range (typ key : Nat) : Option (Nat × Nat) :=
  match typ with
  | 1 => match key with | 1 => some (0, 1) | 2 => some (0, 1) | 3 => some (720, 900) | _ => none
  | 2 => match key with | 1 => some (1, 4) | 2 => some (0, 0xFF) | 3 => some (100, 10000) | _ => none
  | 3 =>
    match key with
    | 1 => some (0, 1) | 2 => some (0, 1) | 3 => some (0, 1) | 4 => some (1, 4) | 5 => some (16, 256)
    | 6 => some (0, 65535) | 7 => some (0, 3600000) | 8 => some (0, 16383) | 9 => some (0, 16383) | _ => none
  | 4 =>
    match key with
    | 1 => some (0, 1) | 2 => some (1, 448) | 3 => some (0, 2048) | 4 => some (0, 1) | 5 => some (10, 60000) | _ => none
  | 5 =>
    match key with
    | 1 => some (0, 3) | 2 => some (0, 3) | 3 => some (0, 1) | 4 => some (1, 16384) | 5 => some (10, 1000)
    | 6 => some (1000, 10000) | _ => none
  | 6 =>
    match key with
    | 1 => some (0, 3) | 2 => some (1518, 9216) | 3 => some (0, 1) | 4 => some (0, 7) | 5 => some (0, 0xFF)
    | 6 => some (0, 0xFFFFFFFF) | 7 => some (0, 4096) | 8 => some (64, 65536) | 9 => some (64, 65536)
    | 0xA => some (0, 65472) | 0xB => some (64, 16384) | 0xC => some (65536, 393216) | 0xD => some (2, 7) | _ => none
  | 7 =>
    if 0x20 ≤ key ∧ key < 0x40 then some (0, 0xFFFFFFFF)
    else if 0x100 ≤ key ∧ key < 0x110 then some (0, 1600000)
    else if 0x5000 ≤ key ∧ key < 0x5400 then some (0, 0xFFFF) else none
  | 8 =>
    if key = 1 then some (1000, 60000) else if key = 2 then some (0, 65536) else if key = 3 then some (0, 64)
    else if 0x100 ≤ key ∧ key < 0x110 then some (0, 65536)
    else if 0x120 ≤ key ∧ key < 0x130 then some (0, 64) else none
  | 9 =>
    if key = 1 then some (1024, 65536) else if key = 2 then some (4, 1000) else if key = 3 then some (1, 64)
    else if key = 4 then some (1, 10000) else if key = 5 then some (1, 16)
    else if 0x100 ≤ key ∧ key < 0x110 then some (0, 262144)
    else if 0x120 ≤ key ∧ key < 0x130 then some (0, 1048576) else none
  | 0xA =>
    if key = 1 then some (0, 2048) else if key = 2 then some (0, 2048) else if key = 3 then some (0, 4096)
    else if 0x100 ≤ key ∧ key < 0x110 then some (0, 4096) else none
  | 0xB => if key = 1 then some (32, 64) else if key = 4 then some (0, 1) else none
  | 0xC =>
    match key with
    | 3 => some (0, 15) | 4 => some (0, 15) | 5 => some (1, 10000) | 6 => some (1, 10000) | 7 => some (0, 1) | _ => none
  | 0xD => if key = 1 then some (0, 0xFFFFFFFF) else none
  | _ => none

/-- The lengths of a key that is not a 4-byte integer. -/
def lens (typ key : Nat) : Option (Nat × Nat) :=
  match typ with
  | 6 =>
    if key = 0xE then some (64, 64) else if key = 0xF then some (16, 16)
    else if 0x1000 ≤ key ∧ key < 0x103C then some (64, 64)
    else if 0x2000 ≤ key ∧ key < 0x3000 then some (40, 40)
    else if 0x3000 ≤ key ∧ key < 0x33F8 then some (160, 160)
    else if 0x4000 ≤ key ∧ key < 0x4100 then some (32, 32) else none
  | 7 =>
    if key = 1 then some (64, 64)
    else if 0x1000 ≤ key ∧ key < 0x11E0 then some (32, 32)
    else if 0x2000 ≤ key ∧ key < 0x2FE0 then some (32, 32)
    else if 0x3000 ≤ key ∧ key < 0x4000 then some (32, 32)
    else if 0x4000 ≤ key ∧ key < 0x5000 then some (40, 40) else none
  | 9 =>
    if 0x140 ≤ key ∧ key < 0x150 then some (24, 24)
    else if 0x200 ≤ key ∧ key < 0x210 then some (16, 256)
    else if 0x1000 ≤ key ∧ key < 0x1100 then some (64, 64) else none
  | 0xB =>
    if key = 2 then some (32, 32) else if key = 3 then some (1, 16384)
    else if 0x100 ≤ key ∧ key < 0x110 then some (40, 40) else none
  | 0xC => if key = 1 ∨ key = 2 then some (64, 229440) else none
  | _ => none

/-- The key is known to this firmware. -/
def known (typ key : Nat) : Bool := (range typ key).isSome || (lens typ key).isSome

/-- Whether each weight of prio_weight is 1 to 15 (R376). -/
def weightsOk (n : Nat) : Bool := (seqFrom 0 8).all fun i => decide (n / 16 ^ i % 16 ≠ 0)

/-- A record's value lies in its range or has its length (R51). -/
def valueOk (typ : Nat) (r : PRec) : Bool :=
  match range typ r.key, lens typ r.key with
  | some (lo, hi), _ =>
    let n := leNat r.value
    decide (r.value.length = 4) && decide (lo ≤ n) && decide (n ≤ hi) &&
      (match typ, r.key with
       | 6, 6 => weightsOk n
       | 6, 0xD => decide (n = 2 ∨ n = 6 ∨ n = 7)
       | 7, k => if k < 0x40 then decide (n ≤ 64 ∨ 2 ^ 32 - 32 ≤ n) else
           (if 0x5000 ≤ k then decide (n < 4096 ∨ n = 0xFFFF) else true)
       | 0xA, 1 => decide (n % 16 = 0)
       | 0xA, 2 => decide (n % 16 = 0)
       | _, _ => true)
  | none, some (lo, hi) =>
    decide (lo ≤ r.value.length) && decide (r.value.length ≤ hi)
  | none, none => !r.critical

/-- No two elements are equal. -/
def distinct : List Nat → Bool
  | [] => true
  | a :: r => !(r.contains a) && distinct r

/-- Section entries are in increasing order of (type, instance) (R48). -/
def sorted : List Section → Bool
  | [] => true
  | [_] => true
  | a :: b :: r => decide (a.typ * 65536 + a.inst < b.typ * 65536 + b.inst) && sorted (b :: r)

/-- What the checks of R51 compare a profile with. -/
structure Env where
  serial : Bytes
  ownerHash : Bytes
  arb : Nat
  fwVersion : Nat
  contract : W32
  /-- Checks of the records whose layout stands in another chapter. -/
  extra : Bytes → Bool

/-- The firmware serves a contract_version (R51). -/
def served (contract : W32) (v : Nat) : Bool :=
  let major := v / 256 % 256
  let hi := field contract 8 8
  decide (v / 65536 = 0) && decide (field contract 16 8 ≤ major) && decide (major ≤ hi) &&
    (decide (major < hi) || decide (v % 256 ≤ field contract 0 8))

/-- The header, binding, key and version checks of R51 that do not end in 0x31 or 0x32. DESIGN CHOICE (log 68): beside what R51 lists, a profile whose sizes, table offsets or table order break R47 and R48 is refused; the instance of a section and the place of a section are not checked beyond R51. -/
def headerOk (e : Env) (p : Bytes) : Bool :=
  slice p 0 4 = ascii "AKPF" && decide (fieldAt p 4 2 = 1) && decide (fieldAt p 8 4 = 256) &&
    decide (fieldAt p 0x1C 4 = 0x7400) && (decide (slice p 0x20 16 = zeros 16) || decide (slice p 0x20 16 = e.serial)) &&
    decide (e.arb ≤ fieldAt p 0x18 4) && decide (fieldAt p 0x40 4 ≤ e.fwVersion) && served e.contract (fieldAt p 0x44 4) &&
    decide (total p ≤ 0x400000) && decide (total p ≤ p.length) && decide (fieldAt p 0x3C 4 + 384 = total p) &&
    decide (1 ≤ fieldAt p 0x38 2) && decide (fieldAt p 0x38 2 ≤ 64) && decide (fieldAt p 0x30 4 % 8 = 0) &&
    decide (fieldAt p 0x34 4 % 8 = 0) && decide (fieldAt p 0x3C 4 % 8 = 0) && sorted (sections p)

/-- The owner key hash and the signature (R47, R51). -/
def sigOk (e : Env) (p : Bytes) : Bool :=
  let k := slice p (fieldAt p 0x30 4) 388
  let so := fieldAt p 0x3C 4
  decide (sha256 k = e.ownerHash) && rsaPssVerify (k.take 384) (k.drop 384) (p.take so) (slice p so 384)

/-- Every section lies inside total_size. -/
def insideOk (p : Bytes) : Bool := (sections p).all fun x => decide (x.off + x.len ≤ total p) && decide (x.len % 4 = 0)

/-- Every section's CRC-32C matches. -/
def crcOk (p : Bytes) : Bool := (sections p).all fun x => decide ((crc32c (slice p x.off x.len)).toNat = x.crc)

/-- Every record of every section is whole, single and in range. -/
def recordsOk (p : Bytes) : Bool :=
  (sections p).all fun x =>
    match records p x with
    | none => false
    | some rs => distinct (rs.map (·.key)) && rs.all fun r => valueOk x.typ r

/-- Tenants the profile enables (R53). -/
def tenants (p : Bytes) : List Nat := (seqFrom 1 15).filter fun n => num p 4 n 1 0 = 1

/-- The Ethernet ports of a grouping (R305). -/
def portCount (g : Nat) : Nat := if g = 0 then 4 else if g = 1 then 8 else if g = 2 then 16 else 32

/-- Bits set in a mask of eight. -/
def popcount8 (n : Nat) : Nat := ((seqFrom 0 8).map fun i => n / 2 ^ i % 2).sum

/-- The sum over ports of R376's buffer plan. -/
def ingressPlan (p : Bytes) : Nat :=
  portCount (num p 6 0 1 1) * (8 * num p 6 0 7 64 + num p 6 0 0xB 2048 * popcount8 (num p 6 0 5 0x08))

/-- The checks that relate keys to each other (R53, R176, R376, R395, R421). -/
def relationsOk (p : Bytes) : Bool :=
  let quota := ((tenants p).map fun n => num p 4 n 2 16).sum + if num p 3 0 1 0 = 1 then num p 3 0 5 64 else 0
  decide (quota ≤ 448) && decide (num p 3 0 8 0 ≠ num p 3 0 9 1) &&
    decide (num p 0xA 0 2 64 ≤ num p 0xA 0 1 256) &&
    decide (num p 0xA 0 1 256 + ((tenants p).map fun n => num p 4 n 3 0 / 16 * 16).sum ≤ 2048) && decide (num p 6 0 0xA 1024 + 64 ≤ num p 6 0 9 2048) &&
    decide (ingressPlan p + num p 6 0 0xC 262144 ≤ 524288) &&
    decide (ingressPlan p + num p 6 0 0xC 262144 + num p 9 0 1 16384 ≤ 524288) &&
    decide (((seqFrom 0 16).map fun n => num p 9 0 (0x100 + n) (if n = 0 then 65536 else 0)).sum ≤ 262144) &&
    decide (((seqFrom 0 16).map fun n => num p 9 0 (0x120 + n) (if n = 0 then 4096 else 0)).sum ≤ 1048576) &&
    ([3, 4].all fun k => let n := num p 0xC 0 k 0; n = 0 || (tenants p).contains n)

/-- The refusal of R51, as the status PROFILE_STAGE gives it: 0 where the profile passes (R114). -/
def refusal (e : Env) (p : Bytes) : Nat :=
  if ¬ headerOk e p ∨ ¬ insideOk p then 0x10
  else if ¬ sigOk e p then 0x32
  else if ¬ crcOk p then 0x31
  else if ¬ recordsOk p ∨ ¬ relationsOk p ∨ ¬ e.extra p then 0x10
  else 0

/-- The section type and key at fault in a refused profile, as R546 packs them: of the first section that fails a check of its own the first key that fails, or key 0 where no single key does. DESIGN CHOICE (log 68): 0 where the breach is in no section. -/
def culprit (p : Bytes) : Nat :=
  let bad := (sections p).find? fun x =>
    decide (total p < x.off + x.len) || decide ((crc32c (slice p x.off x.len)).toNat ≠ x.crc) ||
      match records p x with
      | none => true
      | some rs => !distinct (rs.map (·.key)) || rs.any fun r => !valueOk x.typ r
  match bad with
  | none => 0
  | some x =>
    let rs := (records p x).getD []
    let key := match rs.find? fun r => !valueOk x.typ r || decide (1 < (rs.filter fun q => q.key = r.key).length) with | some r => r.key | none => 0
    x.typ * 65536 + key

/-- Keys skipped because they are unknown and not critical (R51). -/
def skipped (p : Bytes) : List (Nat × Nat) :=
  (sections p).flatMap fun x => ((records p x).getD []).filterMap fun r => if known x.typ r.key then none else some (x.typ, r.key)

end Profile

end Sys2Proof.Machine
end

