-- ==== Sys2Proof/Machine/CrucibleOps.lean ====
section
/-! DEFINITION. Crucible's shared operations: the key ladder, the key store and its rights, zeroization, fuses and the error state (spec/16 R427 to R433, R445, R448, R451 to R454). -/

namespace Sys2Proof.Machine

open Sys2Proof

/-- A setting of the applied profile. -/
def State.prof (s : State) (typ inst key dflt : Nat) : Nat := Profile.num s.boot.profile typ inst key dflt

/-- A runtime setting in force, or its default. -/
def State.settingOr (s : State) (tenant setting index dflt : Nat) : Nat :=
  match s.boot.force.find? fun (x : Setting) => decide (x.tenant = tenant ∧ x.setting = setting ∧ x.index = index) with
  | some x => x.value
  | none => dflt

/-- A tenant is enabled: tenant 0 always, tenants 1 to 15 by the profile (R53, R111). -/
def State.tenantOn (s : State) (n : Nat) : Bool :=
  n == 0 || (decide (n < 16) && decide (s.prof 4 n 1 0 = 1) && !s.boot.safe && !s.boot.unowned)

/-- Changes Crucible. -/
def State.modCru (s : State) (f : Crucible → Crucible) : State := { s with cru := f s.cru }

/-- Latches a Crucible event (CRU_EVENTS). -/
def State.cruEvent (s : State) (i : Nat) : State := s.modCru fun c => { c with events := latch c.events i }

/-- Bytes from the DRBG: free values (R443). -/
def State.random (s : State) (n : Nat) : Bytes := natLe s.free n

/-- Uses the DRBG once. -/
def State.usedRandom (s : State) : State := s.tick.modCru fun c => { c with drbgRequests := c.drbgRequests + 1 }

/-! ## Fuses (R426 to R429) -/

/-- Owner slot `k`. -/
def Fuses.slot (f : Fuses) (k : Nat) : OwnerSlot := f.slots.getD k {}

/-- The active owner slot: the lowest with valid blown and revoked intact (R427). -/
def Fuses.active (f : Fuses) : Option Nat := [0, 1, 2, 3].find? fun k => (f.slot k).valid && !(f.slot k).revoked

/-- The next free slot: no bit blown (R427). -/
def Fuses.free (f : Fuses) : Option Nat := [0, 1, 2, 3].find? fun k => f.slot k = {}

/-- SHA-256 of the vendor firmware key. -/
def State.vendorHash (_ : State) : Bytes := Config.vendorKeyHash

/-- The fuse owner key hash; none in an unowned device. -/
def State.ownerHash (s : State) : Option Bytes := s.cru.fuses.active.map fun k => (s.cru.fuses.slot k).hash

/-- The device serial number. -/
def State.serial (_ : State) : Bytes := Config.serial

/-- fw_arb. -/
def State.fwArb (s : State) : Nat := s.cru.fuses.fwArb

/-- profile_arb. -/
def State.profArb (s : State) : Nat := s.cru.fuses.profArb

/-- Advances a counter to a security version, at most 64, never down (R428). -/
def advanced (cur want : Nat) : Nat := max cur (min want 64)

/-- Advances fw_arb; while the inhibit holds no pulse starts (R429). -/
def State.setFwArb (want : Nat) (s : State) : State :=
  if advanced s.fwArb want = s.fwArb then s
  else if s.sup.inhibit then s.cruEvent 5
  else s.modCru fun c => { c with fuses := { c.fuses with fwArb := advanced c.fuses.fwArb want } }

/-- Advances profile_arb. -/
def State.setProfArb (want : Nat) (s : State) : State :=
  if advanced s.profArb want = s.profArb then s
  else if s.sup.inhibit then s.cruEvent 5
  else s.modCru fun c => { c with fuses := { c.fuses with profArb := advanced c.fuses.profArb want } }

/-! ## The key ladder (R430) -/

/-- KDF(K, label, context, L) of R430: SP 800-108 in counter mode with CMAC-AES-256, `n` bytes. -/
def kdf (k : Bytes) (label : String) (ctx : Bytes) (n : Nat) : Bytes :=
  ((seqFrom 1 ((n + 15) / 16)).flatMap fun i =>
    cmac k (natBe i 4 ++ ascii label ++ [0] ++ ctx ++ natBe (8 * n) 4)).take n

/-- K_owner: owk of the active slot. -/
def State.kOwner (s : State) : Option Bytes := s.cru.fuses.active.map fun k => (s.cru.fuses.slot k).owk

/-- TRK_n. -/
def State.trk (s : State) (n : Nat) : Option Bytes := s.kOwner.map fun k => kdf k "TENANT-ROOT" (natLe n 1) 32

/-- The rounding seed of tenant n (R133). -/
def State.roundingSeed (s : State) (n : Nat) : Bytes := ((s.trk n).map fun k => kdf k "ROUNDING-SEED" [] 16).getD (zeros 16)

/-- K_job of a job seed. -/
def State.jobKey (s : State) (seed : Bytes) : Option Bytes := s.kOwner.map fun k => kdf k "JOB" seed 32

/-- The epoch key of a key nonce; none where K_job is not held. -/
def State.epochKey (s : State) (nonce : Bytes) : Option Bytes := s.cru.kJob.map fun k => kdf k "EPOCH" nonce 32

/-! ## The key store (R432, R433) -/

/-- The handle of an index. -/
def Crucible.handle (c : Crucible) (i : Nat) : Nat :=
  match c.keys.find? i with
  | some e => e.cls * 2 ^ 28 + e.tenant * 2 ^ 24 + c.gens.getD i 0 % 64 * 2 ^ 18 + i
  | none => 0

/-- Stores a key at the lowest free index; none where all 262,144 entries are in use. -/
def State.storeKey (s : State) (cls tenant : Nat) (key : Bytes) : State × Option Nat :=
  match lowestFree (s.cru.keys.map (·.1)) 0 262144 with
  | none => (s, none)
  | some i =>
    let s := s.modCru fun c => { c with keys := c.keys.put i ⟨cls, tenant, key⟩, gens := c.gens.upd i 0 (· + 1) }
    (s, some (s.cru.handle i))

/-- Deletes a key. -/
def State.deleteKey (s : State) (handle : Nat) : State :=
  if s.cru.handle (handle % 2 ^ 18) = handle then
    s.modCru fun c => { c with keys := c.keys.del (handle % 2 ^ 18), cache := c.cache.filter (· ≠ handle % 2 ^ 18) }
  else s

/-- A request of the cipher array with a tenant tag (16 the device): the key, or a refusal counted and latched (R433). -/
def State.useKey (s : State) (tag handle : Nat) : State × Option Bytes :=
  let i := handle % 2 ^ 18
  match s.cru.keys.find? i with
  | some e =>
    if s.cru.handle i = handle ∧ s.cru.state = 1 ∧ (if tag = 16 then e.cls = 4 else e.tenant = tag ∧ e.cls ≤ 3) then
      if s.cru.cache.contains i then (s, some e.key)
      else
        let out := if s.cru.cache.length < 16384 then s.cru.cache else s.cru.cache.eraseIdx (s.free % 16384)
        (s.tick.modCru fun c => { c with cache := out ++ [i], cacheMiss := satInc c.cacheMiss }, some e.key)
    else ((s.modCru fun c => { c with keyDeny := satInc c.keyDeny }).cruEvent 1, none)
  | none => ((s.modCru fun c => { c with keyDeny := satInc c.keyDeny }).cruEvent 1, none)

/-- A tag mismatch is counted (R448). -/
def State.tagFailed (s : State) : State := (s.modCru fun c => { c with tagFail := satInc c.tagFail }).cruEvent 0

/-! ## Zeroization (R451 to R453) -/

/-- Level 1: every volatile CSP is destroyed. -/
def Crucible.zeroize1 (c : Crucible) : Crucible :=
  { c with keys := [], cache := [], tik := [], kJob := none, drbgRequests := 0, zeroizes := satInc c.zeroizes, events := latch c.events 4 }

/-- Zeroization level 1 (R451). -/
def State.zeroizeVolatile (s : State) : State := s.modCru Crucible.zeroize1

/-- One fuse step of levels 2 and 3. -/
def Fuses.blow (f : Fuses) : FuseStep → Fuses
  | .owner k => { f with slots := f.slots.upd k {} fun o => { o with revoked := true, owk := List.replicate 32 0xFF#8 } }
  | .device => { f with dusGone := true, lifeCycle := 2 }

/-- Fuse steps at the inhibit: done, or recorded as pending (R429, R453); the status of the service that asked. -/
def State.fuseSteps (s : State) (l : List FuseStep) : State × Nat :=
  if l = [] then (s, 0)
  else if s.sup.inhibit then
    ((s.modCru fun c => { c with fuses := { c.fuses with pending := c.fuses.pending ++ l } }).cruEvent 5, 0x92)
  else (s.modCru fun c => { c with fuses := l.foldl Fuses.blow c.fuses }, 0)

/-- Pending fuse steps resume (R453). -/
def State.resumeFuses (s : State) : State :=
  if s.sup.inhibit then s
  else s.modCru fun c => { c with fuses := { c.fuses.pending.foldl Fuses.blow c.fuses with pending := [] } }

/-- A zeroization at a level (R451). -/
def State.zeroize (s : State) (level : Nat) : State × Nat :=
  let l2 := match s.cru.fuses.active with | some k => [FuseStep.owner k] | none => []
  s.zeroizeVolatile.fuseSteps (if level = 1 then [] else if level = 2 then l2 else l2 ++ [.device])

/-- The error state (R445): level 1 zeroization, and every service but GET_STATUS refused. -/
def State.cruError (s : State) (failed : Nat) : State :=
  State.zeroizeVolatile ((s.modCru fun c =>
    { c with state := 2, approved := false, selftest := c.selftest &&& ~~~(w32 failed) }).cruEvent 3)

/-- Crucible after the self-tests of a start have passed (R444, R58). -/
def State.cruStart (s : State) : State :=
  s.modCru fun c => { c with state := 1, approved := decide (c.debugScope = 0), selftest := 0xFF#32, entropyFailed := false,
                             drbgSeeds := 1, maskKeys := 1 }

/-- Crucible across a reset of the device (R61, R450, R456); its zeroization is the reset's own. -/
def Crucible.reset (c : Crucible) (warm : Bool) : Crucible :=
  { fuses := c.fuses, tagFail := c.tagFail, keyDeny := c.keyDeny, entropyFail := c.entropyFail, zeroizes := c.zeroizes,
    cacheMiss := c.cacheMiss, gens := c.gens, faultCount := c.faultCount
    events := if warm then c.events else 0, debugScope := if warm then c.debugScope else 0
    jtag := if warm then c.jtag else {} }

/-- Unwraps the profile's tenant import keys (R431, R455). -/
def State.loadTiks (s : State) : State :=
  match s.kOwner with
  | none => s
  | some k =>
    (seqFrom 0 16).foldl (fun s n =>
      match (Profile.value? s.boot.profile 0xB 0 (0x100 + n)).bind (keyUnwrap k) with
      | some t => if n = 0 ∨ Profile.num s.boot.profile 4 n 1 0 = 1 then s.modCru fun c => { c with tik := c.tik.put n t } else s
      | none => s) s

end Sys2Proof.Machine
end

