-- ==== Sys2Proof/Machine/Panes.lean ====
section
/-! DEFINITION. Physical panes, the placement engine's choice of a free one, and what waits for writes to be admitted (spec/00 R8, spec/03 R73, R82, R90, R91). -/

namespace Sys2Proof.Machine

open Sys2Proof

/-- Panes of the device. -/
def paneCount : Nat := 2 ^ 23

/-- A physical pane outside the device tables that nothing uses (R82). DESIGN CHOICE (log 27): R82 takes 32 MiB of each stack for them and does not say where; the model takes the first 32 MiB of every stack. -/
def Fabric.freePane (f : Fabric) (p : Nat) : Bool :=
  decide (p < paneCount) && decide (512 ≤ p % 2 ^ 20) && (f.placed.find? p).isNone && !(f.withdrawn.contains p) &&
    !(f.candidates.contains p)

/-- The lowest free pane from `p` on. -/
def Fabric.nextFree (f : Fabric) : Nat → Nat → Option Nat
  | _, 0 => none
  | p, n + 1 => if f.freePane p then some p else f.nextFree (p + 1) n

/-- The pane the placement engine chooses: any free one (R8); the choice is open. -/
def State.choosePane (s : State) : Option Nat :=
  let p := Config.placePane s.freeCtr
  if s.fab.freePane p then some p else s.fab.nextFree 0 (s.fab.placed.length + s.fab.withdrawn.length + s.fab.candidates.length + 8 * 512 + 1)

/-- Panes in service that nothing uses. -/
def Fabric.freeCount (f : Fabric) : Nat := 8 * (2 ^ 20 - 512) - f.placed.length - f.withdrawn.length

/-! ## Held and waiting writes (R73, R91) -/

/-- Waiting writes enter the freed places of the hold buffer in arrival order (R91). -/
def drainWaiting (i : Nat) : Nat → Fabric → Fabric
  | 0, f => f
  | n + 1, f =>
    match (f.ctrl i).waiting with
    | [] => f
    | w :: r =>
      if 256 ≤ (f.ctrl i).held.length then f
      else drainWaiting i n ((f.modCtrl i fun c => { c with waiting := r }).enter w.pa w.bytes)

/-- Some write to a pane is held or waits. -/
def Fabric.pendingIn (f : Fabric) (p : Nat) : Bool :=
  let c := f.ctrl (p / 2 ^ 20)
  (c.held ++ c.waiting).any fun w => paneOf w.pa = p

/-- A write on a pane is not visible yet: held, waiting, or stopped by a fence (R73, R91, R250). -/
def State.pendingPane (s : State) (p : Nat) : Bool := s.fab.pendingIn p || (decide (p = fencePane) && s.mem.fenced)

/-- Writes an index or flag word of a unit once the writes it reports, and an earlier value of the same word, are visible (R73); none where the write is refused. -/
def State.flagWrite (s : State) (tenant off : Nat) (bs : Bytes) (panes : List Nat) : Option State :=
  match s.fab.writeDev tenant off bs with
  | .error _ => none
  | .ok (f, _) =>
    if panes.any s.pendingPane ∨ s.fab.flags.any fun x => decide (x.tenant = tenant ∧ x.off = off) then
      some { s with fab := { s.fab with flags := s.fab.flags ++ [⟨tenant, off, bs, panes⟩] } }
    else some { s with fab := f }

/-- Index and flag words that waited are written in order where they may be. -/
def postFlags : List FlagWrite → State → State
  | [], s => s
  | x :: r, s => postFlags r ((s.flagWrite x.tenant x.off x.bytes x.panes).getD s)

/-- Posts the records of commands all of whose writes have become visible (R73). -/
def postSeen : List Unseen → State → State
  | [], s => s
  | u :: r, s =>
    if u.panes.any s.pendingPane then postSeen r { s with fab := { s.fab with unseen := s.fab.unseen ++ [u] } }
    else postSeen r (s.finish u.ref u.status u.r0 u.r1)

/-- What waited for writes to be admitted goes on: the records of commands, the records whose own slots were held, then index and flag words (R73). -/
def State.seen (s : State) : State :=
  let l := s.fab.unseen
  let s := postSeen l { s with fab := { s.fab with unseen := [] } }
  let l := s.fab.records
  let s := postHeld l { s with fab := { s.fab with records := [] } }
  let l := s.fab.flags
  postFlags l { s with fab := { s.fab with flags := [] } }

/-- No write is held or waits at any controller. -/
def Fabric.noneHeld (f : Fabric) : Bool := f.ctrls.all fun c => decide (c.2.held = [] ∧ c.2.waiting = [])

/-- The writes held or waiting for panes that are unmapped go with them: a pane is cleared before anything maps it again (R112). -/
def Fabric.dropWrites (f : Fabric) (gone : List Nat) : Fabric :=
  if f.noneHeld then f
  else
    let stay := fun (l : List HeldWrite) => l.filter fun w => !(gone.contains (paneOf w.pa))
    let f := { f with ctrls := f.ctrls.mapVal fun _ c => { c with held := stay c.held, waiting := stay c.waiting } }
    (seqFrom 0 8).foldl (fun f i => drainWaiting i (f.ctrl i).waiting.length f) f

end Sys2Proof.Machine
end

