-- ==== Sys2Proof/Machine/Placement.lean ====
section
/-! DEFINITION. The placement of panes, tenants' charges and the job's space (spec/04 R112, spec/07 R178, R183, spec/09 R264, R266). -/

namespace Sys2Proof.Machine

open Sys2Proof

/-- Owner codes of a placed pane: 0 to 15 a tenant, 17 the job, 18 the parison area. -/
def jobOwner : Nat := 17
def parisonOwner : Nat := 18

/-- Panes placed for an owner. -/
def Fabric.placedFor (f : Fabric) (owner : Nat) : Nat := (f.placed.filter fun p => p.2 = owner).length

/-- A tenant's charge against its quota in bytes: its mapped panes and its registry copies (R112, R167). -/
def State.charged (s : State) (n : Nat) : Nat := s.fab.placedFor n * paneBytes

/-- The HBM quota of a tenant in GiB, as TENANT_SET last set it (R54). -/
def State.quotaGib (s : State) (n : Nat) : Nat := s.settingOr n 1 0 (s.prof 4 n 2 16)

/-- Tenants 1 to 15 that are enabled. -/
def State.tenants (s : State) : List Nat := (seqFrom 1 15).filter s.tenantOn

/-- The job's space in bytes (R183). -/
def State.jobSpace (s : State) : Nat :=
  (448 - s.prof 3 0 5 64 - ((s.tenants.map fun n => s.prof 4 n 2 16).sum)) * 2 ^ 30 - s.fab.withdrawn.length * paneBytes

/-- Bytes of the job's space in use: tenant 0's own panes and registry copies, and the panes mapped for the job. -/
def State.jobUsed (s : State) : Nat := (s.fab.placedFor 0 + s.fab.placedFor jobOwner) * paneBytes

/-- Whether a tenant's charge may grow by some bytes. -/
def State.fitsQuota (s : State) (n bytes : Nat) : Bool :=
  if n = 0 then decide (s.jobUsed + bytes ≤ s.jobSpace) else decide (s.charged n + bytes ≤ s.quotaGib n * 2 ^ 30)

/-- A free pane of a stack; which one is the placement engine's choice. -/
def State.chooseIn (s : State) (stack : Nat) : Option Nat :=
  let p := Config.placePane s.freeCtr
  if s.fab.freePane p ∧ p / 2 ^ 20 = stack then some p
  else
    match s.fab.nextFree (stack * 2 ^ 20) (2 ^ 20) with
    | some q => if q / 2 ^ 20 = stack then some q else none
    | none => none

/-- Clears a pane to zero. -/
def Fabric.clearPane (f : Fabric) (p : Nat) : Fabric :=
  { f with hbm := Mem.clear f.hbm (p * paneBytes) paneBytes, bad := f.bad.filter fun b => b / 1024 ≠ p }

/-- Maps one cleared pane at an offset of a table's space for an owner. -/
def State.mapPane (s : State) (table off owner p : Nat) (forJob : Bool) : State :=
  let f := s.fab.clearPane p
  { s.tick with fab := { f with
      placed := f.placed.put p owner
      panes := f.panes.upd table [] fun t => t.put (off / paneBytes) { phys := p, read := true, write := true, forJob := forJob } } }

/-- Maps the unmapped ones of `n` panes from an offset; none where no pane is free. `stripe` places pane i in stack i mod 8 (R178). -/
def State.mapPanes (table owner : Nat) (forJob stripe : Bool) : Nat → Nat → Nat → State → Option State
  | _, _, 0, s => some s
  | off, i, n + 1, s =>
    if (s.fab.pane? table off).isSome then State.mapPanes table owner forJob stripe (off + paneBytes) (i + 1) n s
    else
      match if stripe then s.chooseIn (i % 8) else s.choosePane with
      | none => none
      | some p => State.mapPanes table owner forJob stripe (off + paneBytes) (i + 1) n (s.mapPane table off owner p forJob)

/-- Unmaps the mapped ones of `n` panes from an offset; the panes become free and are out of scope, and writes granted before that still wait for them end with them. -/
def Fabric.unmapPanes (f : Fabric) (table off n : Nat) : Fabric :=
  let lo := off / paneBytes
  let t := f.panes.getD table []
  let gone := (t.filter fun p => decide (lo ≤ p.1 ∧ p.1 < lo + n)).map fun p => p.2.phys
  let f := f.dropWrites gone
  { f with
    panes := f.panes.put table (t.filter fun p => ¬ (lo ≤ p.1 ∧ p.1 < lo + n))
    placed := f.placed.filter fun p => !(gone.contains p.1)
    scope := f.scope.filter fun p => !(gone.contains p)
    copyReq := f.copyReq.filter fun p => !(gone.contains p)
    starved := f.starved.filter fun p => !(gone.contains p)
    bad := f.bad.filter fun b => !(gone.contains (b / 1024)) }

/-- Unmaps panes, and lets the records go on that waited for writes to them (R73, R112). -/
def State.unmap (s : State) (table off n : Nat) : State :=
  let t := { s with fab := s.fab.unmapPanes table off n }
  if s.fab.noneHeld then t else t.seen

/-- Panes of `n` panes from an offset that a table maps. -/
def Fabric.mappedIn (f : Fabric) (table off n : Nat) : List PaneEntry :=
  ((f.panes.getD table []).filter fun p => decide (off / paneBytes ≤ p.1 ∧ p.1 < off / paneBytes + n)).map (·.2)

/-! ## Registry copies of models in the device's own table -/

/-- Where the registry copy of a tenant's model lies in the device's own space. -/
def registryBase (tenant id : Nat) : Nat := 2 ^ 46 + (tenant * 65536 + id) * 2 ^ 27

/-- Panes of `n` bytes. -/
def panesOf (n : Nat) : Nat := (n + paneBytes - 1) / paneBytes

end Sys2Proof.Machine
end

