-- ==== Sys2Proof/Machine/TensorOps.lean ====
section
/-! DEFINITION. The tensor complex: matrix products, model images and their evaluation, quarters and residency (spec/06 R152 to R174). -/

namespace Sys2Proof.Machine

open Sys2Proof

/-- Changes the tensor complex. -/
def State.modTen (s : State) (f : Tensor → Tensor) : State := { s with ten := f s.ten }

/-- Latches a tensor event (TNS_EVENTS). -/
def State.tenEvent (s : State) (i : Nat) : State := s.modTen fun t => { t with events := latch t.events i }

/-- Quarter `q`. -/
def State.quarter (s : State) (q : Nat) : Quarter := s.ten.quarters.getD q {}

/-- Changes a quarter. -/
def State.modQuarter (s : State) (q : Nat) (f : Quarter → Quarter) : State :=
  s.modTen fun t => { t with quarters := t.quarters.upd q {} f }

/-- A quarter runs a work unit, alone or in a gang. -/
def Quarter.busy (q : Quarter) : Bool := q.work.isSome || q.helps.isSome

/-- Quarters 0 to 127. -/
def allQuarters : List Nat := seqFrom 0 128

/-- Quarters a tenant holds. -/
def State.quartersOf (s : State) (n : Nat) : List Nat := allQuarters.filter fun q => (s.quarter q).owner = n

/-- The seed of stochastic rounding of a tenant: the job seed for tenant 0 (R133). DESIGN CHOICE (log 87): before any job seed is agreed tenant 0's key is 16 zero bytes; the spec names none. -/
def State.srSeed (s : State) (n : Nat) : Bytes := if n = 0 then s.ann.seed ++ zeros (16 - s.ann.seed.length) else s.roundingSeed n

/-! ## Matrix products (R160 to R163) -/

/-- A matrix product: operands, whether each is read along its rows' other dimension, and how it rounds. -/
structure MatJob where
  a : Desc
  b : Desc
  ta : Bool
  tb : Bool
  c : Option Desc
  d : Desc
  exact : Bool
  md : Rnd
  relu : Bool
  step : Nat
  /-- Q was reused and has changed (R163). -/
  stale : Bool := false
deriving DecidableEq, Repr

/-- K, M and N of a product. -/
def MatJob.kmn (j : MatJob) : Nat × Nat × Nat :=
  (if j.ta then j.a.dim 1 else j.a.dim 0, if j.ta then j.a.dim 0 else j.a.dim 1, if j.tb then j.b.dim 1 else j.b.dim 0)

/-- The class of an operand format: BF16, FP16, FP8, FP6 or FP4, INT8; 0 where it is no operand. -/
def operandClass (code : Nat) : Nat :=
  match code with
  | 2 => 1 | 3 => 2 | 4 => 3 | 5 => 3 | 6 => 4 | 7 => 4 | 8 => 4 | 9 => 5 | _ => 0

/-- An output format fits the operands' class (R161). -/
def outputOk (cls : Nat) (out : Nat) : Bool := if cls = 5 then out == 9 || out == 10 else (fmtOf out).isSome

/-- Operands of one class that may meet. -/
def pairOk (a b : Nat) : Bool := decide (operandClass a ≠ 0 ∧ operandClass a = operandClass b)

/-- Batch extents are equal (R161). -/
def sameBatch (a b : Desc) : Bool := decide (a.dims.drop 2 = b.dims.drop 2)

/-- The first rule of R161 and R163 a product breaks, as the status and the operand (0 A, 1 B, 2 C, 3 D, 4 mode); none where it is well formed. -/
def MatJob.bad (j : MatJob) : Option (Nat × Nat) :=
  let (k, m, n) := j.kmn
  let cls := operandClass j.a.code
  let ds := [(0, j.a), (1, j.b)] ++ (match j.c with | some c => [(2, c)] | none => []) ++ [(3, j.d)]
  match ds.find? fun p => !p.2.ok with
  | some p => some (0x10, p.1)
  | none =>
    match ds.find? fun p => decide (p.2.addr / 2 ^ 48 ≠ 0) with
    | some p => some (0x11, p.1)
    | none =>
      if cls = 0 then some (0x10, 0)
      else if ¬ pairOk j.a.code j.b.code ∨ (if j.tb then j.b.dim 0 else j.b.dim 1) ≠ k ∨ ¬ sameBatch j.a j.b then some (0x10, 1)
      else if j.a.mx ∧ j.ta then some (0x10, 0)
      else if j.b.mx ∧ ¬ j.tb then some (0x10, 1)
      else if ¬ outputOk cls j.d.code ∨ j.d.dim 0 ≠ n ∨ j.d.dim 1 ≠ m ∨ ¬ sameBatch j.a j.d then some (0x10, 3)
      else if ¬ (1 ≤ k ∧ k ≤ 2 ^ 24 ∧ 1 ≤ m ∧ m ≤ 2 ^ 24) ∨ (j.exact ∧ 2 ^ 20 < k) then some (0x10, 0)
      else if ¬ (1 ≤ n ∧ n ≤ 2 ^ 24) then some (0x10, 1)
      else if 2 ^ 43 < j.d.elems then some (0x10, 3)
      else
        match j.c with
        | none => none
        | some c => if c.code = (if cls = 5 then 10 else 1) ∧ c.dims = j.d.dims then none else some (0x10, 2)

/-- A dot product: the value before conversion and the exact-mode products dropped below range (R135 to R139, R162). -/
def dotVal (exact int : Bool) (init : Option Val) (ps : List (Val × Val)) : Val × Nat :=
  if int then (ps.foldl (fun a p => a.add (p.1.mul p.2)) (init.getD Val.zero), 0)
  else if exact then
    let a := exactDot init ps
    (a.val, a.small)
  else (fastDot init ps, 0)

/-- ReLU before the conversion: a negative value, −0 or −infinity becomes +0 (R162). -/
def reluVal : Val → Val
  | .inf true => Val.zero
  | .fin true _ _ => Val.zero
  | v => v

/-- The value as it is rounded does not fit an INT32 (R127, R139); `r` is the random value of stochastic rounding. -/
def saturates32 (md : Rnd) (r : Nat) : Val → Bool
  | .inf _ => true
  | .fin s m e => let n := roundInt md r (.fin s m e); decide (n < -(2 ^ 31) ∨ 2 ^ 31 ≤ n)
  | .nan => false

/-- Values of a row whose conversion to INT32 saturates; `rs i` is the random value of element `i`. -/
def saturated (md : Rnd) (rs : Nat → Nat) (vs : List Val) : Nat :=
  (vs.zipIdx.filter fun p => saturates32 md (if md = .sr then rs p.2 else 0) p.1).length

/-- Row `i` of batch `b` of a product: its values, the saturated ones and the dropped products. -/
def MatJob.row (j : MatJob) (rs : Nat → Nat) (av : List Val) (bm : List (List Val)) (cv : Option (List Val)) : List Val × Nat × Nat :=
  let (_, _, n) := j.kmn
  let int := j.a.code == 9 && !j.a.mx && !j.b.mx
  let out := (seqFrom 0 n).map fun c =>
    let bv := if j.tb then bm.getD c [] else bm.map fun r => r.getD c Val.zero
    let (v, d) := dotVal j.exact int (cv.map fun l => l.getD c Val.zero) (List.zip av bv)
    (if j.relu then reluVal v else v, d)
  let sat := if j.d.code = 10 then saturated j.md rs (out.map (·.1)) else 0
  (out.map (·.1), sat, (out.map (·.2)).sum)

/-- Address ranges of a tensor's rows with their scale bytes. -/
def Desc.spans (d : Desc) : List (Nat × Nat) := (seqFrom 0 d.rows).flatMap fun i => if d.mx then [d.rowAt i, d.scaleAt i] else [d.rowAt i]

/-- Two tensors share a byte. -/
def Desc.overlaps (a b : Desc) : Bool :=
  a.spans.any fun x => b.spans.any fun y => decide (x.1 < y.1 + y.2 ∧ y.1 < x.1 + x.2)

/-- Writes an output row whose contents are undefined. -/
def State.freeRow (s : State) (tenant : Nat) (d : Desc) (row : Nat) : Except Nat (State × List Nat) :=
  let n := (d.rowAt row).2
  let k := (d.scaleAt row).2
  match s.fab.writeDev tenant (d.rowAt row).1 (freeBytesFrom s.freeCtr (row * (n + k)) n) with
  | .error e => .error e
  | .ok (f, h) =>
    match f.writeDev tenant (d.scaleAt row).1 (freeBytesFrom s.freeCtr (row * (n + k) + n) k) with
    | .error e => .error e
    | .ok (f, h') => .ok ({ s with fab := f }, h ++ h')

/-- Computes and writes one output row; it is undefined where D overlaps A or B (R161) or a changed Q is reused (R163). -/
def State.matRow (s : State) (tenant : Nat) (j : MatJob) (row : Nat) : Except Nat (State × List Nat × Nat × Nat) :=
  let (k, m, _) := j.kmn
  let b := row / m
  let i := row % m
  let f := s.fab
  let arows := if j.ta then (seqFrom (b * k) k) else [b * m + i]
  let brows := seqFrom (b * j.b.dim 1) (j.b.dim 1)
  match f.readRows tenant j.a arows, f.readRows tenant j.b brows with
  | .error e, _ => .error e
  | .ok _, .error e => .error e
  | .ok al, .ok bm =>
    let av := if j.ta then al.map fun r => r.getD i Val.zero else al.getD 0 []
    match (match j.c with | none => .ok none | some c => match f.readRow tenant c row with | .error e => .error e | .ok v => .ok (some v) : Except Nat (Option (List Val))) with
    | .error e => .error e
    | .ok cv =>
      let rs := fun e => srValue (s.srSeed tenant) 1 j.step j.d.tid (row * j.d.dim 0 + e)
      let (vs, sat, drop) := j.row rs av bm cv
      if j.stale ∨ j.d.overlaps j.a ∨ j.d.overlaps j.b then
        match s.freeRow tenant j.d row with
        | .error e => .error e
        | .ok (s, h) => .ok (s, h, sat, drop)
      else
      match f.writeRow tenant j.d row j.md rs vs with
      | .error e => .error e
      | .ok (f, h) => .ok ({ s with fab := f }, h, sat, drop)

/-- Computes rows; stops at the first failure. -/
def State.matRows (tenant : Nat) (j : MatJob) : List Nat → List Nat → Nat → Nat → State → Except Nat (State × List Nat × Nat × Nat)
  | [], h, sat, drop, s => .ok (s, h, sat, drop)
  | r :: rs, h, sat, drop, s =>
    match s.matRow tenant j r with
    | .error e => .error e
    | .ok (s, h', a, b) => State.matRows tenant j rs (h ++ h') (sat + a) (drop + b) s

/-- Where the operands of MATMUL and PROJECT lie: the offsets of A or in, B or Q, C and D or out in the body. -/
def matOffset (i : Nat) : Nat := if i = 4 then 0x30 else 0x10 + 8 * i

/-- A descriptor address in the device space, read: a failure as a status and the operand. -/
def State.readDesc (s : State) (fn i a : Nat) : Except (Nat × Nat) Desc :=
  if a / 2 ^ 48 ≠ 0 then .error (0x11, i)
  else match s.fab.readDev (tenantOf fn) a 64 with | .ok b => .ok (Desc.parse b) | .error e => .error (e, i)

/-- The product a MATMUL or PROJECT command asks for (R160, R163); a failure as a status and the operand. -/
def State.matJob (s : State) (fn : Nat) (c : Cmd) : Except (Nat × Nat) MatJob :=
  let mode := c.byte 0x30
  let project := c.opcode == 0x11
  match rndOf (mode % 4) with
  | none => .error (0x10, 4)
  | some md =>
    if mode / 2 ^ (if project then 5 else 6) ≠ 0 then .error (0x10, 4)
    else
      match s.readDesc fn 0 (c.fld 0x10 8), s.readDesc fn 1 (c.fld 0x18 8),
          (if c.fld 0x20 8 = 0 then .ok none else match s.readDesc fn 2 (c.fld 0x20 8) with | .ok d => .ok (some d) | .error e => .error e : Except (Nat × Nat) (Option Desc)),
          s.readDesc fn 3 (c.fld 0x28 8) with
      | .error e, _, _, _ => .error e
      | .ok _, .error e, _, _ => .error e
      | .ok _, .ok _, .error e, _ => .error e
      | .ok _, .ok _, .ok _, .error e => .error e
      | .ok a, .ok b, .ok ci, .ok d =>
        let j : MatJob :=
          { a := a, b := b, c := ci, d := d, exact := mode / 4 % 2 = 1, md := md, step := c.fld 0x38 6
            ta := !project && decide (mode / 8 % 2 = 1)
            tb := if project then decide (mode / 8 % 2 = 0) else decide (mode / 16 % 2 = 1)
            relu := !project && decide (mode / 32 % 2 = 1) }
        match j.bad with
        | some e => .error e
        | none =>
          let r := b.dim 1
          let j := { j with stale := project && s.ten.staleQ.any fun r => decide (r.fn = fn ∧ r.handle = c.handle) }
          if project ∧ (b.code ≠ 2 ∧ b.code ≠ 4 ∧ b.code ≠ 5) then .error (0x10, 1)
          else if project ∧ ¬ (1 ≤ r ∧ r ≤ 1024) then .error (0x10, 1)
          else .ok j

/-! ## Model images (R165) -/

/-- One layer record. -/
structure Layer where
  wfmt : Nat
  flags : Nat
  act : Nat
  inF : Nat
  outF : Nat
  ofmt : Nat
  woff : Nat
  boff : Nat
deriving DecidableEq, Repr

namespace Layer

def wmx (l : Layer) : Bool := l.flags % 2 = 1
def bias (l : Layer) : Bool := l.flags / 2 % 2 = 1
def exact (l : Layer) : Bool := l.flags / 4 % 2 = 1
def md (l : Layer) : Rnd := (rndOf (l.flags / 8 % 4)).getD .rne
def omx (l : Layer) : Bool := l.flags / 32 % 2 = 1

/-- Bytes of the weights' elements. -/
def elemBytes (l : Layer) : Nat := (l.outF * l.inF * codeBits (fmtCode l.wfmt) + 7) / 8

/-- Where the scale bytes begin in the weights (R128, R165). -/
def scaleBase (l : Layer) : Nat := (l.elemBytes + 63) / 64 * 64

/-- Bytes of the weights with their scales. -/
def weightBytes (l : Layer) : Nat := if l.wmx then l.scaleBase + l.outF * (l.inF / 32) else l.elemBytes

end Layer

/-- Layer `i` of an image. -/
def layerAt (b : Bytes) (i : Nat) : Layer :=
  let o := 64 + 32 * i
  { wfmt := fieldAt b (o + 1) 1, flags := fieldAt b (o + 2) 1, act := fieldAt b (o + 3) 1, inF := fieldAt b (o + 4) 4
    outF := fieldAt b (o + 8) 4, ofmt := fieldAt b (o + 0xC) 1, woff := fieldAt b (o + 0x10) 4, boff := fieldAt b (o + 0x14) 4 }

/-- layer_count. -/
def imageLayers (b : Bytes) : Nat := fieldAt b 6 2

/-- weight_bytes. -/
def imageWeights (b : Bytes) : Nat := fieldAt b 8 4

/-- The checks of one layer with the format, MX flag and width of its input: offset in the image and whether it holds. -/
def layerChecks (b : Bytes) (i : Nat) (ifmt : Nat) (imx : Bool) (width : Nat) : List (Nat × Bool) :=
  let o := 64 + 32 * i
  let l := layerAt b i
  let cls := operandClass (fmtCode ifmt)
  [(o, decide (fieldAt b o 1 = 1)),
   (o + 1, fmtByteOk l.wfmt && pairOk (fmtCode ifmt) (fmtCode l.wfmt) && mxOk (fmtCode l.wfmt) l.wmx && (!l.wmx || decide (l.inF % 32 = 0))),
   (o + 2, decide (l.flags / 64 = 0) && (rndOf (l.flags / 8 % 4)).isSome && (!l.exact || decide (l.inF ≤ 2 ^ 20))),
   (o + 3, decide (l.act ≤ 3)),
   (o + 4, decide (1 ≤ l.inF ∧ l.inF ≤ 65536 ∧ l.inF = width) && (!imx || decide (l.inF % 32 = 0))),
   (o + 8, decide (1 ≤ l.outF ∧ l.outF ≤ 65536) && (!l.omx || decide (l.outF % 32 = 0))),
   (o + 0xC, fmtByteOk l.ofmt && outputOk cls (fmtCode l.ofmt) && mxOk (fmtCode l.ofmt) l.omx),
   (o + 0xD, decide (fieldAt b (o + 0xD) 3 = 0)),
   (o + 0x10, decide (l.woff % 64 = 0 ∧ l.woff + l.weightBytes ≤ imageWeights b)),
   (o + 0x14, decide (l.boff % 64 = 0) && (!l.bias || decide (l.boff + 4 * l.outF ≤ imageWeights b))),
   (o + 0x18, decide (fieldAt b (o + 0x18) 8 = 0))]

/-- The checks of the layers from `i` on. -/
def layersChecks (b : Bytes) : Nat → Nat → Nat → Bool → Nat → List (Nat × Bool)
  | 0, _, _, _, _ => []
  | n + 1, i, ifmt, imx, width =>
    layerChecks b i ifmt imx width ++ layersChecks b n (i + 1) (layerAt b i).ofmt (layerAt b i).omx (layerAt b i).outF

/-- The offset of the first offending field of an image (R165, R167). -/
def imageBad (b : Bytes) : Option Nat :=
  let n := imageLayers b
  let last := layerAt b (n - 1)
  let head :=
    [(0, decide (slice b 0 4 = ascii "AKMD")), (4, decide (fieldAt b 4 2 = 1)), (6, decide (1 ≤ n ∧ n ≤ 64)),
     (8, decide (64 ≤ imageWeights b ∧ imageWeights b ≤ 67108864 ∧ imageWeights b % 64 = 0)),
     (0xC, decide (1 ≤ fieldAt b 0xC 4 ∧ fieldAt b 0xC 4 ≤ 65536 ∧ fieldAt b 0xC 4 = (layerAt b 0).inF)),
     (0x10, fmtByteOk (fieldAt b 0x10 1) && decide (operandClass (fmtCode (fieldAt b 0x10 1)) ≠ 0)),
     (0x11, decide (fieldAt b 0x11 1 < 2) && mxOk (fmtCode (fieldAt b 0x10 1)) (fieldAt b 0x11 1 = 1)),
     (0x12, decide (fieldAt b 0x12 2 = 0)), (0x14, decide (fieldAt b 0x14 4 = last.outF)),
     (0x18, decide (slice b 0x18 36 = zeros 36)),
     (0x3C, decide ((crc32c (b.take 0x3C ++ zeros 4 ++ b.drop 0x40)).toNat = fieldAt b 0x3C 4))]
  ((head ++ layersChecks b (min n 64) 0 (fieldAt b 0x10 1) (decide (fieldAt b 0x11 1 = 1)) (fieldAt b 0xC 4)).find? fun p => !p.2).map (·.1)

/-! ## Running a model (R166) -/

/-- The activation on an FP32 value (R166). -/
def activate (act : Nat) (v : Val) : Val :=
  match act with
  | 1 => reluVal v
  | 2 => activation 2 v
  | 3 => activation 3 v
  | _ => v

/-- One layer on one row: the output elements' bits and scales, the INT32 results that saturate as they are converted (R139, R166), and drops. -/
def layerRow (b : Bytes) (i : Nat) (l : Layer) (imxInt : Bool) (seed : Bytes) (step id row : Nat) (x : List Val) :
    (List Nat × Bytes) × Nat × Nat :=
  let w := slice b (64 + 32 * imageLayers b + l.woff) l.weightBytes
  let code := fmtCode l.wfmt
  let int := imxInt && code == 9 && !l.wmx
  let wb := codeBits code
  let outs := (seqFrom 0 l.outF).map fun o =>
    let es := (seqFrom 0 l.inF).map fun k =>
      let e := leNat (slice w (((o * l.inF + k) * wb) / 8) 5) / 2 ^ (((o * l.inF + k) * wb) % 8) % 2 ^ wb
      if l.wmx then mxVal code (w.getD (l.scaleBase + (o * l.inF + k) / 32) 0).toNat e else elemVal code e
    let init := if l.bias then some (ofF32 (fieldAt b (64 + 32 * imageLayers b + l.boff + 4 * o) 4)) else none
    let (v, d) := dotVal l.exact int init (List.zip x es)
    (activate l.act (r32 v), d)
  let rs := fun e => srValue seed 1 step (id * 256 + i) (row * l.outF + e)
  (putVals l.ofmt l.omx l.md rs (outs.map (·.1)),
   if fmtCode l.ofmt = 10 then saturated l.md rs (outs.map (·.1)) else 0, (outs.map (·.2)).sum)

/-- The layers from `i` on, on one row of values. -/
def runLayers (b : Bytes) (seed : Bytes) (step id row : Nat) :
    Nat → Nat → Bool → List Val → (List Nat × Bytes) × Nat × Nat → (List Nat × Bytes) × Nat × Nat
  | 0, _, _, _, acc => acc
  | n + 1, i, int, x, acc =>
    let l := layerAt b i
    let ((es, sc), sat, drop) := layerRow b i l int seed step id row x
    let y := es.zipIdx.map fun p =>
      if l.omx then mxVal (fmtCode l.ofmt) (sc.getD (p.2 / 32) 0).toNat p.1 else elemVal (fmtCode l.ofmt) p.1
    runLayers b seed step id row n (i + 1) (fmtCode l.ofmt == 9 && !l.omx) y ((es, sc), acc.2.1 + sat, acc.2.2 + drop)

/-- Bytes of a dense row of elements with its scale bytes (R169). -/
def rowBytes (code : Nat) (mx : Bool) (n : Nat) : Nat :=
  let e := (n * codeBits code + 7) / 8
  if mx then (e + 63) / 64 * 64 + n / 32 else e

/-- The values of an input row. -/
def inputRow (b : Bytes) (raw : Bytes) : List Val :=
  let fmt := fmtCode (fieldAt b 0x10 1)
  let mx := decide (fieldAt b 0x11 1 = 1)
  let n := fieldAt b 0xC 4
  let e := (n * codeBits fmt + 7) / 8
  rowVals fmt mx n (raw.take e) (raw.drop ((e + 63) / 64 * 64))

/-- The bytes of an output row. -/
def outputRow (b : Bytes) (o : List Nat × Bytes) : Bytes :=
  let l := layerAt b (imageLayers b - 1)
  let es := packBits (codeBits (fmtCode l.ofmt)) o.1
  if l.omx then padTo 64 es ++ o.2 else es

/-! ## Models and residency (R167 to R173) -/

/-- A tenant's model. -/
def State.model? (s : State) (tenant id : Nat) : Option Model := s.ten.models.find? fun m => decide (m.tenant = tenant ∧ m.id = id)

/-- Changes a tenant's model. -/
def State.modModel (s : State) (tenant id : Nat) (f : Model → Model) : State :=
  s.modTen fun t => { t with models := t.models.map fun m => if m.tenant = tenant ∧ m.id = id then f m else m }

/-- Counts for a tenant. -/
def State.tenCount (s : State) (n : Nat) (f : TenCounts → TenCounts) : State := s.modTen fun t => { t with counts := t.counts.upd n {} f }

/-- A model's granules in a quarter. -/
def Model.inQuarter (m : Model) (q : Nat) : Nat := ((m.seats.filter fun p => p.1 = q).map (·.2)).sum

/-- Granules in use in a quarter. -/
def State.granulesIn (s : State) (q : Nat) : Nat := (s.ten.models.map fun m => m.inQuarter q).sum

/-- Drops a model's residency and pin. -/
def Model.drop (m : Model) : Model := { m with seats := [], bench := [], pinned := false, fetching := false }

/-- A model is resident. -/
def Model.resident (m : Model) : Bool := m.seats ≠ [] && !m.fetching

/-- A work unit of a model is running. -/
def State.modelUnits (s : State) (tenant id : Nat) : Bool :=
  s.ten.quarters.any fun q => q.2.work.any fun w => w.model == some (tenant, id)

/-- Quarters ordered by free granules, most first. -/
def insertBy (f : Nat → Nat) (q : Nat) : List Nat → List Nat
  | [] => [q]
  | x :: r => if f x < f q then q :: x :: r else x :: insertBy f q r

/-- Places granules over the fewest quarters that hold them: the emptiest first (R173's placement is the placement engine's choice). -/
def seatsFor (free : Nat → Nat) : List Nat → Nat → Option (List (Nat × Nat))
  | _, 0 => some []
  | [], _ + 1 => none
  | q :: r, n => if free q = 0 then none else (seatsFor free r (n - free q)).map fun l => (q, min n (free q)) :: l

/-- Seats for `n` granules in a tenant's quarters, if they have room. -/
def State.seats (s : State) (tenant n : Nat) : Option (List (Nat × Nat)) :=
  let free := fun q => 16 - s.granulesIn q
  let qs := ((s.quartersOf tenant).filter fun q => (s.quarter q).moving.isNone).foldl (fun l q => insertBy free q l) []
  seatsFor free qs n

/-- A run of a model is granted and not finished: some command names it as started. -/
def State.modelRuns (s : State) (tenant id : Nat) : Bool :=
  s.con.fns.any fun f => decide (tenantOf f.1 = tenant) && f.2.queues.any fun q =>
    q.2.engine == 1 && q.2.running.any fun c => c.opcode == 4 && c.fld 0x10 2 == id && (c.prog.getD 4 0 == 1)

/-- The unpinned resident model of a tenant with the least recent run. -/
def leastRecent : List Model → Option Model
  | [] => none
  | m :: r => match leastRecent r with | none => some m | some x => if m.lastRun ≤ x.lastRun then some m else some x

/-- Makes room for a fetch by eviction in order of least recent run (R172): the seats, or none where only pinned models and models with a running work unit remain. -/
def State.makeRoom (tenant n : Nat) : Nat → State → State × Option (List (Nat × Nat))
  | 0, s => (s, s.seats tenant n)
  | f + 1, s =>
    match s.seats tenant n with
    | some l => (s, some l)
    | none =>
      match leastRecent (s.ten.models.filter fun m =>
          decide (m.tenant = tenant) && m.resident && !m.pinned && !m.fetching && !s.modelUnits tenant m.id) with
      | none => (s, none)
      | some m => State.makeRoom tenant n f (s.modModel tenant m.id Model.drop)

/-- Starts the fetch of a model, if room can be made: it takes its seats and counts a miss (R172). -/
def State.startFetch (s : State) (tenant id : Nat) : State :=
  match s.model? tenant id with
  | none => s
  | some m =>
    if m.fetching ∨ m.resident then s
    else
      match s.makeRoom tenant m.granules s.ten.models.length with
      | (s, none) => s.tenEvent 4
      | (s, some l) =>
        (s.modModel tenant id fun m => { m with seats := l, fetching := true }).tenCount tenant fun c =>
          { c with miss := satInc c.miss, fetched := satAdd c.fetched m.granules }

/-- Pinned granules of a tenant. -/
def State.pinnedGranules (s : State) (tenant : Nat) : Nat :=
  ((s.ten.models.filter fun m => decide (m.tenant = tenant) && (m.pinned || m.pinNext)).map (·.granules)).sum

/-- Removes a model from the registry: its copy is freed (R168). -/
def State.unregister (s : State) (tenant id : Nat) : State :=
  match s.model? tenant id with
  | none => s
  | some m =>
    (s.modTen fun t => { t with models := t.models.filter fun x => ¬ (x.tenant = tenant ∧ x.id = id) }).unmap
      deviceTable (registryBase tenant id) (panesOf m.bytes)

/-- The TENSOR commands of a tenant that wait for a model. -/
def State.fetchWaiters (s : State) (tenant id : Nat) : List (CmdRef × Cmd) :=
  s.con.fns.flatMap fun f =>
    if tenantOf f.1 ≠ tenant then [] else
      f.2.queues.flatMap fun q =>
        if q.2.engine ≠ 1 then [] else
          (q.2.running.filter fun c => (c.prog.getD 0 0 == 2 || c.prog.getD 0 0 == 3) && c.fld 0x10 2 == id).map fun c => (⟨f.1, q.1, c.handle⟩, c)



/-- Starts the fetches that waited for room (R172). -/
def State.pokeFetches (s : State) (tenant : Nat) : State :=
  (s.ten.models.filter fun m => m.tenant = tenant).foldl (fun s m =>
    if s.fetchWaiters tenant m.id = [] then s else s.startFetch tenant m.id) s

/-- Ends what waits for a model that is registered no more: runs and loads with 0x91 (R168, R170). -/
def State.endFetchWaiters (s : State) (m : Model) : State :=
  (s.fetchWaiters m.tenant m.id).foldl (fun s w => s.finish w.1 0x91 0 0) s

/-- Ends the MODEL_EVICT commands of a model once nothing they wait for is left (R168, R170): its running work units; for an unregister every granted run. DESIGN CHOICE (log 39): an evict that meets a fetch lets it end first. -/
def State.settleEvicts (s : State) (tenant id : Nat) : State :=
  match s.model? tenant id with
  | none => s
  | some m =>
    let plain := m.evicts.filter fun e => !e.2
    let gone := m.evicts.filter (·.2)
    if m.evicts = [] ∨ m.fetching ∨ s.modelUnits tenant id then s
    else if gone ≠ [] ∧ ¬ s.modelRuns tenant id then
      m.evicts.foldl (fun s e => s.finish e.1 0 0 0) ((((s.modModel tenant id Model.drop).unregister tenant id).endFetchWaiters m).pokeFetches tenant)
    else if plain = [] then s
    else
      plain.foldl (fun s e => s.finish e.1 0 0 0) ((s.modModel tenant id fun m => { m.drop with evicts := gone }).pokeFetches tenant)

/-! ## Quarters -/

/-- The allotment of a tenant at start in quarters (R155). -/
def State.startQuarters (s : State) (n : Nat) : Nat := s.prof 4 n 3 0 / 16

/-- Free quarters for one tenant: those of the lowest die that has enough, else the lowest (R158). -/
def pickQuarters (taken : List Nat) (n : Nat) : List Nat :=
  let free := allQuarters.filter fun q => !(taken.contains q)
  match [0, 1, 2, 3].find? fun d => decide (n ≤ (free.filter fun q => q / 32 = d).length) with
  | some d => (free.filter fun q => q / 32 = d).take n
  | none => free.take n

/-- The quarters of the enabled tenants at start; tenant 0 keeps the rest (R155). -/
def State.allot (s : State) : List Nat → List Nat → Tbl Quarter
  | [], taken => (allQuarters.filter fun q => !(taken.contains q)).map fun q => (q, {})
  | n :: r, taken =>
    let qs := pickQuarters taken (s.startQuarters n)
    qs.foldl (fun t q => t.put q { owner := n }) (s.allot r (taken ++ qs))

/-- Quarters that projection_tiles reserves for tenant 0's projections (R154, R158): the placement engine takes the lowest it holds, a quarter of each die with an engine of the job in turn. -/
def State.projQuarters (s : State) : List Nat :=
  let own := s.quartersOf 0
  let turns := (seqFrom 0 32).flatMap fun i => (seqFrom 0 4).map fun d => 32 * d + i
  (turns.filter fun q => own.contains q).take (s.prof 0xA 0 2 64 / 16)

/-- The tensor complex at the start of the device: dies ready and quarters allotted. -/
def State.startTensor (s : State) : State :=
  s.modTen fun t => { t with quarters := s.allot s.tenants [], ready := s.fab.cmpPresent % 16 }

/-- job_tile_min in quarters (R176). -/
def State.jobQuarters (s : State) : Nat := s.prof 0xA 0 1 256 / 16

/-- Clears the tensor complex at a reset; its ROS counters, its events and the selector are kept (R174, R177). -/
def Tensor.reset (t : Tensor) : Tensor :=
  { ceCount := t.ceCount, ueCount := t.ueCount, intSat := t.intSat, exactDrop := t.exactDrop, events := t.events, sel := t.sel }

/-- FLR of a tenant's function (R174): its models, residency, SRAM and counters go; the allotment stays. -/
def State.flrTensor (s : State) (n : Nat) : State :=
  let s := (s.ten.models.filter fun m => m.tenant = n).foldl (fun s m => s.unregister n m.id) s
  s.modTen fun t =>
    { t with
      quarters := t.quarters.mapVal fun _ q => if q.owner = n then { q with work := none, helps := none, loaded := none } else q
      counts := t.counts.del n }

/-! ## Registers (R177) -/

/-- Reads a TNS_ register. -/
def State.tnsRead (s : State) (off : Nat) : Option Nat :=
  let t := s.ten
  let n := field t.sel 0 4
  let on := s.tenantOn n
  let c := t.counts.getD n {}
  let qs := s.quartersOf n
  let ms := t.models.filter fun m => m.tenant = n
  let res := ms.filter Model.resident
  match off with
  | 0x00 => some (pack [(0, t.ready), (8, if t.quarters = [] then 0 else (s.quartersOf 0).length - s.jobQuarters)])
  | 0x04 => some t.events.toNat
  | 0x08 => some t.ceCount
  | 0x0C => some t.ueCount
  | 0x10 => some t.intSat
  | 0x14 => some t.exactDrop
  | 0x18 => some t.lastErr.toNat
  | 0x20 => some t.sel.toNat
  | 0x24 => some (if on then pack [(0, qs.length), (8, (qs.filter fun q => (s.quarter q).busy).length)] else 0)
  | 0x28 => some (if on then pack [(0, ms.length), (16, res.length)] else 0)
  | 0x2C => some (if on then pack [(0, (res.map (·.granules)).sum), (12, ((ms.filter (·.pinned)).map (·.granules)).sum)] else 0)
  | 0x30 => some (if on then c.miss else 0)
  | 0x34 => some (if on then c.fetched else 0)
  | 0x38 => some (if on then c.switches else 0)
  | 0x3C => some (if on then c.migrations else 0)
  | _ => none

/-- Writes a TNS_ register; read-only offsets and reserved bits change nothing. -/
def State.tnsWrite (s : State) (off : Nat) (v : W32) : State :=
  match off with
  | 0x04 => s.modTen fun t => { t with events := w1c t.events v }
  | 0x20 => s.modTen fun t => { t with sel := v &&& 0xF#32 }
  | _ => s

end Sys2Proof.Machine
end

