-- ==== Sys2Proof/Machine/JobOps.lean ====
section
/-! DEFINITION. What the job's units share: the member table, shards, the job's place in device memory, messages to members, and the hold of a step (spec/07 R180, R183, R195; spec/08 R215; spec/09 R245 to R247, R265). -/

namespace Sys2Proof.Machine

open Sys2Proof

/-- Changes the job. -/
def State.modAnn (s : State) (f : Anneal → Anneal) : State := { s with ann := f s.ann }
/-- Changes Lehr. -/
def State.modLeh (s : State) (f : Lehr → Lehr) : State := { s with leh := f s.leh }
/-- Changes the membership. -/
def State.modMem (s : State) (f : Members → Members) : State := { s with mem := f s.mem }
/-- Latches an Anneal event. -/
def State.annEvent (s : State) (i : Nat) : State := s.modAnn fun a => { a with events := latch a.events i }
/-- Latches a Lehr event. -/
def State.lehEvent (s : State) (i : Nat) : State := s.modLeh fun l => { l with events := latch l.events i }
/-- Latches a membership event. -/
def State.memEvent (s : State) (i : Nat) : State := s.modMem fun m => { m with events := latch m.events i }

/-! ## The job's numbers -/

/-- param_count P. -/
def Anneal.p (a : Anneal) : Nat := fieldAt a.shard 0 8
/-- init_src. -/
def Anneal.initSrc (a : Anneal) : Nat := fieldAt a.shard 8 8
/-- credit_offset. -/
def Anneal.creditOff (a : Anneal) : Nat := fieldAt a.shard 0x18 8
/-- members of SHARD_DEFINE. -/
def Anneal.members (a : Anneal) : Nat := fieldAt a.shard 0x24 4
/-- contributor_mask. -/
def Anneal.mask (a : Anneal) : Nat := fieldAt a.shard 0x28 4
/-- ring_depth. -/
def Anneal.depth (a : Anneal) : Nat := fieldAt a.shard 0x2C 1
/-- Slot size in bytes. -/
def Anneal.slot (a : Anneal) : Nat := 2 ^ fieldAt a.shard 0x2D 1

/-- Contributors of a mask, rising. -/
def contributors (mask : Nat) : List Nat := (seqFrom 0 32).filter fun c => mask / 2 ^ c % 2 = 1

/-- State format COMPACT (R53). -/
def State.compact (s : State) : Bool := s.prof 3 0 2 1 == 1
/-- Reduction mode INVARIANT (R53). -/
def State.invariantMode (s : State) : Bool := s.prof 3 0 3 0 == 1
/-- replica_count K. -/
def State.replicas (s : State) : Nat := s.prof 3 0 4 2

/-! ## The member table (R245, R246) -/

/-- Members n of a table. -/
def tableN (t : Bytes) : Nat := fieldAt t 8 4
/-- Membership generation. -/
def tableGen (t : Bytes) : Nat := fieldAt t 0xC 4
/-- Recorder and standby rank. -/
def tableRecorder (t : Bytes) : Nat := fieldAt t 0x10 4
def tableStandby (t : Bytes) : Nat := fieldAt t 0x14 4
/-- The entry of a rank. -/
def tableEntry (t : Bytes) (r : Nat) : Bytes := slice t (64 + 64 * r) 64
/-- Serial number of a rank. -/
def tableSerial (t : Bytes) (r : Nat) : Bytes := slice (tableEntry t r) 0 16
/-- Job endpoint address of a rank. -/
def tableAddr (t : Bytes) (r : Nat) : Bytes := slice (tableEntry t r) 0x10 16
/-- Failure-domain label of a rank at a level. -/
def tableLabel (t : Bytes) (r level : Nat) : Nat := fieldAt (tableEntry t r) (0x20 + 4 * level) 4
/-- A rank is recorder-eligible. -/
def tableEligible (t : Bytes) (r : Nat) : Bool := fieldAt (tableEntry t r) 0x34 1 % 2 = 1
/-- The device's serial as a table holds it. -/
def State.tableOwn (s : State) : Bytes := (s.serial ++ zeros 16).take 16

/-- All elements of a list of byte strings differ. -/
def allDistinct : List Bytes → Bool
  | [] => true
  | a :: r => !(r.contains a) && allDistinct r

/-- The layout and rules a member table follows by itself (R245, R246). -/
def tableOk (t : Bytes) : Bool :=
  let n := tableN t
  slice t 0 4 = ascii "RMBT" && decide (fieldAt t 4 2 = 1) && decide (fieldAt t 6 2 = 64) && decide (1 ≤ n ∧ n ≤ 16384) &&
    decide (t.length = 64 + 64 * n) && decide (slice t 0x18 40 = zeros 40) &&
    ((seqFrom 0 n).all fun r => decide (fieldAt (tableEntry t r) 0x34 1 < 2) && decide (slice (tableEntry t r) 0x35 11 = zeros 11)) &&
    allDistinct ((seqFrom 0 n).map (tableSerial t)) &&
    decide (tableRecorder t < n ∧ tableStandby t < n) &&
    tableEligible t (tableRecorder t) && tableEligible t (tableStandby t)

/-! ## Ranks and shards (R183) -/

/-- Members n of the job: of the member table, or as SHARD_DEFINE gives them. -/
def State.jobN (s : State) : Nat := if s.mem.table = [] then s.ann.members else tableN s.mem.table

/-- Children of a rank in a tree with fan-in `k` over n ranks, its parent rank (r − 1) / k. -/
def treeKids (k n r : Nat) : List Nat := (seqFrom (k * r + 1) k).filter fun c => decide (c < n)
/-- Parent of a rank. -/
def treeParent (k r : Nat) : Nat := (r - 1) / k

/-- This device's rank. -/
def State.jobRank (s : State) : Nat := if s.mem.table = [] then fieldAt s.ann.shard 0x20 4 else s.mem.rank

/-- The other members that are not lost. -/
def State.others (s : State) : List Nat := (seqFrom 0 s.jobN).filter fun r => decide (r ≠ s.jobRank) && !(s.mem.lost.contains r)

/-- Groups of 32 parameters of P. -/
def groupCount (p : Nat) : Nat := (p + 31) / 32

/-- The first group of rank r and the first group after it. -/
def shardGroups (p n r : Nat) : Nat × Nat := (groupCount p * r / n, groupCount p * (r + 1) / n)

/-- The parameter range of rank r: first and one past the last. -/
def shardRange (p n r : Nat) : Nat × Nat := let g := shardGroups p n r; (min p (32 * g.1), min p (32 * g.2))

/-- The rank the shard's layout follows. -/
def Anneal.rank (a : Anneal) : Nat := fieldAt a.shard 0x20 4
/-- The shard of this device, as SHARD_DEFINE or the last re-shard laid it out. -/
def State.myGroups (s : State) : Nat × Nat := shardGroups s.ann.p s.ann.members s.ann.rank
/-- Its parameters. -/
def State.myRange (s : State) : Nat × Nat := shardRange s.ann.p s.ann.members s.ann.rank

/-- Members this member sends a message on to, down the fan-out-16 tree over the survivors rooted at a rank. -/
def State.downKids (s : State) (root : Nat) : List Nat :=
  let l := (seqFrom 0 s.jobN).filter fun r => !(s.mem.lost.contains r)
  let n := l.length
  let place := fun r => l.findIdx fun x => x = r
  (treeKids 16 n ((place s.jobRank + n - place root) % n)).map fun k => l.getD ((k + place root) % n) 0

/-- The part of a range inside another, as first and one past the last. -/
def cut (a b : Nat × Nat) : Nat × Nat := let lo := max a.1 b.1; (lo, max lo (min a.2 b.2))

/-! ## Where the job lies in tenant 0's device space -/

def scopeBase : Nat := 2 ^ 40
def gradBase : Nat := 2 * 2 ^ 40
def intakeBase : Nat := 3 * 2 ^ 40
def exchBase : Nat := 4 * 2 ^ 40
def parisonBase : Nat := 5 * 2 ^ 40

/-- Bytes of this shard's state groups. -/
def State.stateBytes (s : State) : Nat := (s.myGroups.2 - s.myGroups.1) * groupBytes s.compact
/-- Where the side state begins: the first whole pane after the state groups (R215). -/
def State.sideBase (s : State) : Nat := scopeBase + paneBytes + panesOf s.stateBytes * paneBytes
/-- Offset of a state group, by its number in the job. -/
def State.groupOff (s : State) (g : Nat) : Nat := scopeBase + paneBytes + (g - s.myGroups.1) * groupBytes s.compact
/-- Bytes of Adafactor side state: R and C of each factored tensor this shard holds part of (R202). -/
def State.holdsFactor (s : State) (f : Nat × Nat × Nat) : Bool := let c := cut (f.1, f.1 + f.2.1 * f.2.2) s.myRange; decide (c.1 < c.2)
def State.sideBytes (s : State) : Nat := ((s.ann.rule.factors.filter s.holdsFactor).map fun f => 4 * (f.2.1 + f.2.2)).sum
/-- Panes of the scope (R215). -/
def State.scopePanes (s : State) : Nat := 1 + panesOf s.stateBytes + panesOf s.sideBytes
/-- Parison panes. -/
def State.parisonPanes (s : State) : Nat := s.prof 3 0 5 64 * 2 ^ 14
/-- Bytes of the rings. -/
def Anneal.ringBytes (a : Anneal) : Nat := (contributors a.mask).length * a.depth * a.slot
/-- Bytes of the copies of projection bases (R183). -/
def Anneal.baseBytes (a : Anneal) : Nat := (a.buckets.map fun b => b.q.length).sum
/-- Base of a contributor's ring. -/
def Anneal.ringAt (a : Anneal) (c : Nat) : Nat :=
  intakeBase + ((contributors a.mask).filter fun x => decide (x < c)).length * a.depth * a.slot

/-- The physical pane of scope pane `i`. -/
def State.scopePhys (s : State) (i : Nat) : Option Nat := (s.fab.pane? 0 (scopeBase + i * paneBytes)).map (·.phys)

/-! ## Messages (R195) -/

/-- An immediate word. -/
def immWord (id step kind : Nat) : Nat := id % 65536 * 65536 + step % 256 * 256 + kind

/-- The 16-byte header of a job message. -/
def msgHead (step src off : Nat) : Bytes := natLe step 6 ++ zeros 2 ++ natLe src 4 ++ natLe off 4

/-- The job QP to a rank is in ERROR: it sends nothing more (R399, R405). -/
def State.peerDown (s : State) (rank : Nat) : Bool :=
  let addr := tableAddr (if s.mem.table = [] then s.ann.table else s.mem.table) rank
  s.rme.qps.any fun q => q.2.job && decide (q.2.state = 4 ∧ q.2.peer = addr)

/-- Sends a message as one SEND with immediate on the job QP to a rank (R195, R248): the model takes messages whole, as the table's rows give them. -/
def State.sendPeer (s : State) (rank imm : Nat) (bytes : Bytes) : State := if s.peerDown rank then s else s.emit (.peer rank imm bytes)

/-- Sends a job message to a rank. -/
def State.toRank (s : State) (rank id kind off : Nat) (body : Bytes) : State :=
  s.sendPeer rank (immWord id s.ann.step kind) (msgHead s.ann.step s.jobRank off ++ body)

/-- Sends a job message to every other member. -/
def State.toAll (s : State) (id kind off : Nat) (body : Bytes) : State := s.others.foldl (fun s r => s.toRank r id kind off body) s

/-- Codes of the model for messages whose wire form the spec does not give. -/
def msgDigest : Nat := 0x100
def msgAnnounce : Nat := 0x101
def msgAnnounceAck : Nat := 0x102
def msgSegment : Nat := 0x103
def msgSegmentAck : Nat := 0x104
def msgReport : Nat := 0x105
def msgManifest : Nat := 0x106
def msgManifestAck : Nat := 0x107
def msgCommit : Nat := 0x108
def msgDiscard : Nat := 0x109
def msgTake : Nat := 0x10A
def msgPull : Nat := 0x10B
def msgReshard : Nat := 0x10C
def msgReshardDone : Nat := 0x10D
def msgSegmentRefused : Nat := 0x10E
def msgConfirm : Nat := 0x10F
def msgProbeAsk : Nat := 0x110

/-- A message of Lehr in the model's own form: the membership generation, then its body (R231, R248). -/
def State.tell (s : State) (rank code : Nat) (body : Bytes) : State := s.sendPeer rank code (natLe s.mem.gen 4 ++ body)

/-! ## Buddies (R265) -/

/-- Ranks in cyclic order from a start. -/
def cyclic (n start : Nat) : List Nat := (seqFrom 0 n).map fun i => (start + i) % n

/-- Whether rank d may be a buddy of r with a cap on its load. -/
def buddyOk (t : Bytes) (level r : Nat) (load : Tbl Nat) (chosen : List Nat) (cap d : Nat) : Bool :=
  decide (d ≠ r) && decide (load.getD d 0 < cap) && decide (tableLabel t d level ≠ tableLabel t r level) &&
    chosen.all fun x => decide (tableLabel t d level ≠ tableLabel t x level)

/-- The buddies of one rank: the j-th from r + j · floor(n / (K + 1)). -/
def buddiesOne (t : Bytes) (level k r : Nat) : List Nat → Tbl Nat → List Nat → Option (List Nat × Tbl Nat)
  | [], load, chosen => some (chosen, load)
  | j :: js, load, chosen =>
    let n := tableN t
    let order := cyclic n ((r + j * (n / (k + 1))) % n)
    match (order.find? (buddyOk t level r load chosen k)).or (order.find? (buddyOk t level r load chosen (k + 1))) with
    | none => none
    | some d => buddiesOne t level k r js (load.put d (load.getD d 0 + 1)) (chosen ++ [d])

/-- The buddies of every rank, or none. -/
def buddiesAll (t : Bytes) (level k : Nat) : List Nat → Tbl Nat → Option (Tbl (List Nat))
  | [], _ => some []
  | r :: rs, load =>
    match buddiesOne t level k r (seqFrom 1 k) load [] with
    | none => none
    | some (c, load) => (buddiesAll t level k rs load).map fun l => (r, c) :: l

/-- The buddies of every rank of the table in force. -/
def State.buddyTable (s : State) : Option (Tbl (List Nat)) :=
  buddiesAll s.mem.table (s.prof 5 0 1 1) s.replicas (seqFrom 0 (tableN s.mem.table)) []

/-- This rank's buddies; empty where none can be placed. -/
def State.buddies (s : State) : List Nat := match s.buddyTable with | some t => t.getD s.jobRank [] | none => []

/-- Ranks this rank serves as buddy. -/
def State.servedRanks (s : State) : List Nat :=
  match s.buddyTable with
  | some t => (t.filter fun p => p.2.contains s.jobRank).map (·.1)
  | none => []

/-! ## The hold (R180) -/

/-- A RUNNING job, or one in the initial write-back of its START. -/
def Anneal.live (a : Anneal) : Bool := decide (a.state = .running) || a.initial

/-- The job leaves RUNNING for STOPPED and its STOP completes (R181). -/
def State.stopJob (s : State) : State :=
  let r := s.ann.stopping
  let b := s.ann.start
  let s := s.modAnn fun a => { a with state := .stopped, stopping := none, start := none, barrier := false, initial := false, timer := false }
  let s := s.ddtUpdate
  let s := match b with | some r => s.finish r 0x40 0 0 | none => s
  match r with | some r => s.finish r 0 0 0 | none => s

/-- STEP_HOLD (R180): the step is held with a reason; where nothing has been written, ABORT goes to every member; a STOP that waits takes effect at once. In the initial write-back a lost peer or an unreadable state ends START with that status; any other reason, no status of START (R212), holds the job's first step as soon as it runs (DESIGN CHOICE, log 44). -/
def State.holdStep (s : State) (reason : Nat) : State :=
  if ¬ s.ann.live ∨ s.ann.hold.isSome then s
  else if s.ann.initial ∧ reason ≠ 0x30 ∧ reason ≠ 0x40 then s.modAnn fun a => { a with abortNext := some (a.step, reason) }
  else if s.ann.initial then
    let r := s.ann.start
    let s := s.modAnn fun a => { a with initial := false, start := none }
    match r with | some r => s.finish r reason 0 0 | none => s
  else
    let s := ((s.modAnn fun a => { a with hold := some reason, helds := satInc a.helds }).annEvent 0).ddtUpdate
    let s := s.report { source := 0x30, severity := 2, status := reason, bit := 0, reg := 4, block := 0xD, d0 := s.ann.step }
    let s := if s.ann.wrote then s else s.toAll 0 0x30 reason []
    if s.ann.stopping.isSome then s.stopJob else s

/-- The job runs (AOD and power rules). -/
def State.jobRuns (s : State) : Bool := s.ann.live

/-- A port serves the RUNNING job (R287). -/
def State.servesJob (s : State) (port : Nat) : Bool :=
  let c := 8 * s.sup.straps.cohortId + port
  decide (s.ann.state = .running) &&
    (decide (s.ann.mask / 2 ^ c % 2 = 1) || (s.ann.groups ++ s.ann.nextGroups).any fun g => decide (g.2.mask / 2 ^ c % 2 = 1))

/-- Writes bytes into a contributor's accelerator memory: this device's port, or another cohort member's, lost and counted where no route leads there (R207, R293, R296). An access past the aperture is not made (R275), one that reports earlier writes is never relaxed (R276), and a fence stops the write until it ends (R250). -/
def State.toAccel (s : State) (c off : Nat) (bytes : Bytes) (rep : Bool := false) : State :=
  if s.mem.fenced then s.modMem fun m => { m with stalled := m.stalled ++ [(c, off, bytes, rep)] }
  else if c / 8 = s.sup.straps.cohortId then
    if (s.port (c % 8)).reachable ∧ off + bytes.length ≤ (s.port (c % 8)).aperture then s.portWrites (c % 8) off bytes (!rep) else s
  else if (s.route (c / 8)).isNone then s.forwardLost
  else s.emit (.cohortMsg (c / 8) 0x12 (natLe (c % 8) 1 ++ natLe (b2n rep) 1 ++ natLe off 8 ++ bytes))

/-! ## Generations and the fence (R248, R250) -/

/-- A message of a lower generation is refused and counted (R248). -/
def State.staleGen (s : State) : State := s.modMem fun m => { m with staleGens := satInc m.staleGens }

/-- The fence ends: the writes it stopped go out in order, and what waited for them goes on (R250). -/
def State.unfence (s : State) : State :=
  if ¬ s.mem.fenced then s
  else
    let l := s.mem.stalled
    (l.foldl (fun s w => s.toAccel w.1 w.2.1 w.2.2.1 w.2.2.2) (s.modMem fun m => { m with fenced := false, stalled := [] })).seen

/-- A member takes a message of a generation: a lower one than its own is refused and counted, any other ends its fence (R248, R250). A higher generation comes into force with the LOST that names it (R253; DEDUCED, log 74). -/
def State.memberHeard (s : State) (gen : Nat) (f : State → State) : State :=
  if s.mem.joined ∧ gen < s.mem.gen then s.staleGen else f (if s.mem.joined then s.unfence else s)

end Sys2Proof.Machine
end

