-- ==== Sys2Proof/Machine/Image.lean ====
section
/-! DEFINITION. The firmware image: its manifest, its components and its checks, and the bank selection of the boot ROM (spec/20 R524 to R527, R534; spec/02 R42, R43). -/

namespace Sys2Proof.Machine

open Sys2Proof

namespace Image

/-- manifest_bytes (R525). -/
def manifestBytes (b : Bytes) : Nat := fieldAt b 0x08 4
/-- firmware_version (R525). -/
def version (b : Bytes) : Nat := fieldAt b 0x0C 4
/-- security_version (R525). -/
def security (b : Bytes) : Nat := fieldAt b 0x10 4
/-- data_block_count (R525). -/
def blockCount (b : Bytes) : Nat := fieldAt b 0x18 4
/-- contract (R525). -/
def contract (b : Bytes) : Nat := fieldAt b 0x1C 4
/-- settings_format (R525). -/
def settingsFormat (b : Bytes) : Nat := fieldAt b 0x20 4
/-- CRC-32C of data block `i` as the manifest gives it (R524). -/
def blockCrc (b : Bytes) (i : Nat) : Nat := fieldAt b (0x288 + 32 * 7 + 4 * i) 4
/-- Data block `i` of an image (R524). -/
def block (b : Bytes) (i : Nat) : Bytes := slice b (0x10000 + 4096 * i) 4096

/-- Component `c` of the manifest (R526). -/
def component (b : Bytes) (c : Nat) : Component :=
  let o := 0x288 + 32 * c
  { epoch := fieldAt b (o + 2) 2, acceptMin := (seqFrom 0 7).map fun j => fieldAt b (o + 4 + 2 * j) 2,
    firstBlock := fieldAt b (o + 0x14) 4, blockCount := fieldAt b (o + 0x18) 4 }

/-- SHA-256 of a component's blocks. -/
def componentDigest (b : Bytes) (c : Nat) : Bytes :=
  let k := component b c
  sha256 ((seqFrom k.firstBlock k.blockCount).flatMap (block b))

/-- The layout rules of the manifest and its device class (R525, R526). -/
def layoutOk (b : Bytes) : Bool :=
  slice b 0 4 = ascii "RFWM" && decide (fieldAt b 4 2 = 1) && decide (fieldAt b 6 2 = 0) &&
    decide (manifestBytes b ≤ 65536) && decide (0x288 + 32 * 7 + 384 ≤ manifestBytes b) &&
    decide (1 ≤ security b) && decide (security b ≤ 64) && decide (fieldAt b 0x14 4 = 0x7400) &&
    decide (1 ≤ blockCount b) && decide (blockCount b ≤ 10224) && decide (fieldAt b 0x24 2 = 7) &&
    (seqFrom 0 7).all fun c =>
      decide (fieldAt b (0x288 + 32 * c) 1 = c) && decide (1 ≤ (component b c).epoch) &&
        decide ((component b c).firstBlock + (component b c).blockCount ≤ blockCount b)

/-- The key hash and the signature over every byte before it (R42 step 4, R524). -/
def sigOk (vendorHash b : Bytes) : Bool :=
  let k := slice b 0x100 388
  let so := manifestBytes b - 384
  decide (sha256 k = vendorHash) && rsaPssVerify (k.take 384) (k.drop 384) (b.take so) (slice b so 384)

/-- The manifest check of R527 step 1: 0 where it passes. -/
def manifestStatus (vendorHash : Bytes) (arb : Nat) (b : Bytes) : Nat :=
  if ¬ layoutOk b then 0x10 else if ¬ sigOk vendorHash b then 0x32 else if security b < arb then 0xA8 else 0

/-- Block `i` matches its CRC-32C. -/
def blockOk (b : Bytes) (i : Nat) : Bool := decide ((crc32c (block b i)).toNat = blockCrc b i)

/-- Every block's CRC and image_digest (R527 step 3). -/
def blocksStatus (b : Bytes) : Nat :=
  if (seqFrom 0 (blockCount b)).all (blockOk b) ∧
      sha256 ((seqFrom 0 (blockCount b)).flatMap (block b)) = slice b 0x28 32 then 0 else 0x31

/-- Whole verification of an image. -/
def status (vendorHash : Bytes) (arb : Nat) (b : Bytes) : Nat :=
  let m := manifestStatus vendorHash arb b
  if m ≠ 0 then m else blocksStatus b

/-- The outcome row of R44 for a bank that fails: 1 signature or key, 2 security version, 3 block CRC, 4 digest; none where it passes. -/
def bootFailure (vendorHash : Bytes) (arb : Nat) (b : Bytes) : Option (Nat × Nat) :=
  if ¬ layoutOk b ∨ ¬ sigOk vendorHash b then some (1, 0)
  else if security b < arb then some (2, 0)
  else match (seqFrom 0 (blockCount b)).find? fun i => !(blockOk b i) with
    | some i => some (3, i)
    | none => if blocksStatus b = 0 then none else some (4, 0)

end Image

/-- The bytes of a bank up to its last data block. -/
def Flash.image (f : Flash) (bank : Nat) : Bytes :=
  let m := f.read (bankBase bank) 0x24
  f.read (bankBase bank) (0x10000 + 4096 * min 10224 (Image.blockCount m))

/-- The bank the boot ROM takes first, with the directory it writes before it loads (R43). -/
def selectBank (d : Dir) : Nat × Dir × Bool :=
  let b := d.activeBank
  let (d, wr) :=
    if d.bank b = .trial then
      if d.trialLeft = 0 then (d.setBank b .bad, true) else ({ d with trialLeft := d.trialLeft - 1 }, true)
    else (d, false)
  let b := if d.bank b = .valid ∨ d.bank b = .trial then b else 1 - b
  (b, d, wr)

/-- One direction of the epoch rule of R534: the pair that fails when component `c` is replaced, if any. -/
def epochFail (new : Component) (c : Nat) (run : Nat → Component) : List Nat → Option (Nat × Nat)
  | [] => none
  | j :: r =>
    if j = c then epochFail new c run r
    else if new.acceptMin.getD j 0 ≠ 0 ∧ (run j).epoch < new.acceptMin.getD j 0 then some (c, j)
    else if (run j).acceptMin.getD c 0 ≠ 0 ∧ new.epoch < (run j).acceptMin.getD c 0 then some (c, j)
    else epochFail new c run r

/-- The epoch rule over the replacements in order (R534): none where every step passes. -/
def epochRule (new : Nat → Component) : List Nat → (Nat → Component) → Option (Nat × Nat)
  | [], _ => none
  | c :: r, run =>
    match epochFail (new c) c run (seqFrom 0 7) with
    | some p => some p
    | none => epochRule new r fun j => if j = c then new c else run j

/-- The order of replacement (R534). -/
def handoverOrder : List Nat := [5, 4, 3, 2, 1, 0, 6]

end Sys2Proof.Machine
end

