-- ==== Sys2Proof/Machine/MemberOps.lean ====
section
/-! DEFINITION. Suspicion and confirmation among the job's members: watch sets, confirmers, probes (spec/09 R247 to R252, R256). -/

namespace Sys2Proof.Machine

open Sys2Proof

/-- The rank of a cohort member, by the serial number it joined with. -/
def State.cohortRank (s : State) (m : Nat) : Option Nat :=
  match s.apt.memberInfo.find? m with
  | some x => (seqFrom 0 (tableN s.mem.table)).find? fun r => leNat (tableSerial s.mem.table r) = x.2
  | none => none

/-- The cohort member of a rank, where it is one that has joined this cohort, reachable now or not. -/
def State.rankCohort (s : State) (r : Nat) : Option Nat := (s.apt.memberInfo.map (·.1)).find? fun m => s.cohortRank m = some r

/-- The watch set of a rank (R247): members of the table in force; of cohort members this device knows its own. -/
def State.watchOf (s : State) (r : Nat) : List Nat :=
  let n := tableN s.mem.table
  let t := s.buddyTable.getD []
  let near := [(r + 1) % n, (r + 2) % n, (r + n - 1 % n) % n, (r + n - 2 % n) % n]
  let served := (List.filter (fun (p : Nat × List Nat) => p.2.contains r) t).map (·.1)
  let tree := (if r = 0 then [] else [treeParent 16 r]) ++ treeKids 16 n r
  let cohort := if r = s.mem.rank then (s.apt.memberInfo.map (·.1)).filterMap s.cohortRank else []
  ((near ++ t.getD r [] ++ served ++ tree ++ cohort).filter fun x => decide (x ≠ r ∧ x < n)).eraseDups

/-- A message of the membership: generation and kind in its immediate, the header of R195 with the generation in the offset field; cohort members that are reachable get it over the cohort link (R248). -/
def State.memberMsg (s : State) (r seq kind : Nat) (body : Bytes) : State :=
  let imm := s.mem.gen % 65536 * 65536 + seq % 256 * 256 + kind
  let b := msgHead s.ann.step s.mem.rank s.mem.gen ++ body
  match (s.rankCohort r).filter fun m => s.apt.present.contains m with
  | some m => s.emit (.cohortMsg m kind (natLe imm 4 ++ b))
  | none => s.sendPeer r imm b

/-- This member holds a rank suspect. -/
def State.suspectOf (s : State) (r : Nat) : Bool := s.mem.suspects.any fun x => x.rank = r

/-- The lowest-ranked recorder-eligible member that is neither suspect nor recorder or standby (R256). -/
def State.candidate9 (s : State) : Option Nat :=
  (seqFrom 0 (tableN s.mem.table)).find? fun r =>
    tableEligible s.mem.table r && !s.suspectOf r && decide (r ≠ s.mem.recorder ∧ r ≠ s.mem.standby)

/-- The lead of this device's cohort as a rank, while it is in the table and not suspect. -/
def State.leadRank (s : State) : Option Nat :=
  let l := if s.sup.straps.cohortId = 0 then (if s.apt.formed then some s.mem.rank else none) else s.cohortRank 0
  l.filter fun r => !s.suspectOf r

/-- The confirmer of a suspect (R251, R256): where the recorder is suspect, and the standby too or silent about it, the member that stands in for them. -/
def State.confirmer (s : State) (p : Nat) : Nat :=
  match (if (s.rankCohort p).isSome then s.leadRank.filter (· ≠ p) else none) with
  | some l => l
  | none =>
    if s.suspectOf s.mem.recorder ∧ (s.suspectOf s.mem.standby ∨ s.mem.unanswered) then s.candidate9.getD s.mem.recorder
    else if p = s.mem.recorder then s.mem.standby
    else s.mem.recorder

/-- Three probes from each of two port groups (R252); a cohort member is probed on its link. -/
def State.sendProbes (s : State) (p : Nat) : State :=
  [0, 1, 2].foldl (fun s i => [0, 1].foldl (fun s g => s.memberMsg p i 0x42 (natLe g 1)) s) s

/-- A confirmer starts to probe a suspect, and asks one watcher of it in another level-0 domain to do the same (R252). -/
def State.startProbe (s : State) (p watcher : Nat) : State :=
  let m := s.mem
  if p = m.rank ∨ tableN m.table ≤ p ∨ (m.probing.any fun x => x.1 = p) ∨ m.confirmed.contains p then s
  else
    let s := (s.modMem fun m => { m with probing := m.probing ++ [(p, watcher)] }).sendProbes p
    match (s.watchOf p).find? fun w => decide (w ≠ m.rank ∧ w ≠ p) && decide (tableLabel m.table w 0 ≠ tableLabel m.table m.rank 0) with
    | some w => s.tell w msgProbeAsk (natLe p 4)
    | none => s

/-- This device is the lead of the cohort that a rank belongs to (R251). -/
def State.leadOf (s : State) (p : Nat) : Bool := decide (s.sup.straps.cohortId = 0) && (s.rankCohort p).isSome

/-- A confirmer takes up a suspicion: of a cohort member its lead probes that member; one that stands in for recorder and standby probes both (R251, R256). -/
def State.confirm (s : State) (p watcher : Nat) : State :=
  let m := s.mem
  if ¬ s.leadOf p ∧ m.rank ≠ m.recorder ∧ m.rank ≠ m.standby ∧ (p = m.recorder ∨ p = m.standby) then
    (s.startProbe m.recorder watcher).startProbe m.standby watcher
  else s.startProbe p watcher

/-- A watcher makes a peer suspect and reports it to its confirmer (R249, R251). -/
def State.suspect (s : State) (p : Nat) : State :=
  let m := s.mem
  if ¬ m.joined ∨ p = m.rank ∨ tableN m.table ≤ p ∨ s.suspectOf p then s
  else
    let s := (s.modMem fun m => { m with suspectCount := satInc m.suspectCount, suspects := m.suspects ++ [⟨p, 0⟩] }).memEvent 0
    let s := s.report { source := 0x40, severity := 1, bit := 0, reg := 0x8C, block := 0xE, d0 := p }
    let c := s.confirmer p
    let s := s.modMem fun m => { m with suspects := m.suspects.map fun x => if x.rank = p then { x with confirmer := c } else x }
    if c = m.rank then s.confirm p m.rank else s.memberMsg c 0 0x41 (natLe p 4 ++ natLe m.rank 4)

/-- A job message of a rank passes or fails its integrity check; two failures in a row make it suspect (R249). -/
def State.integrityOf (s : State) (r : Nat) (ok : Bool) : State :=
  let n := if ok then 0 else s.mem.fails.getD r 0 + 1
  let s := s.modMem fun m => { m with fails := m.fails.put r n }
  if 2 ≤ n then s.suspect r else s

/-- A cohort link to a member goes down (R249, R293). -/
def State.suspectMember (s : State) (m : Nat) : State := match s.cohortRank m with | some r => s.suspect r | none => s

/-- JOB_ACCEL_WITHDRAWAL (R287): the step is held with 0x40 at the phase reached and WITHDRAW goes to the recorder on the path of R248. -/
def State.withdraw (s : State) : State :=
  if ¬ s.ann.live then s
  else
    let s := s.holdStep 0x40
    (s.memberMsg (if s.mem.recorder = s.mem.rank then s.mem.standby else s.mem.recorder) 0 0x45 []).report
      { typ := 7, source := 0x40, severity := 3, block := 0xE, d0 := s.mem.rank, d1 := s.mem.gen }

end Sys2Proof.Machine
end

