-- ==== Sys2Proof/Machine/GafferOps.lean ====
section
/-! DEFINITION. Mailbox FIFOs, the GAF_ registers of them, and the loading of cores and programs (spec/17 R457 to R463, R468, R469, R472; spec/18 R499). -/

namespace Sys2Proof.Machine

open Sys2Proof

/-- Core `c`. -/
def State.core (s : State) (c : Nat) : Core := s.gaf.cores.getD c {}

/-- Changes the complex. -/
def State.modGaf (s : State) (f : Gaffer → Gaffer) : State := { s with gaf := f s.gaf }

/-- Changes core `c`. -/
def State.modCore (s : State) (c : Nat) (f : Core → Core) : State := s.modGaf fun g => { g with cores := g.cores.upd c {} f }

/-- FIFO `f`. -/
def State.fifo (s : State) (f : Nat) : Fifo := s.gaf.fifos.getD f {}

/-- Changes FIFO `f`. -/
def State.modFifo (s : State) (f : Nat) (h : Fifo → Fifo) : State := s.modGaf fun g => { g with fifos := g.fifos.upd f {} h }

/-! ## FIFOs -/

/-- Entries of a message by its first entry: bits [62:58] plus 1 (R461). -/
def msgLen (e : Nat) : Nat := e / 2 ^ 58 % 32 + 1

/-- An accepted push: bit 63 is the valid tag; with packet framing the producer's message goes on (R458, R461). -/
def Fifo.push (f : Fifo) (e : Nat) : Fifo :=
  let v := e % 2 ^ 63 + 2 ^ 63
  let left := if f.toPush = 0 then msgLen e - 1 else f.toPush - 1
  { f with entries := f.entries ++ [v]
           toPush := if f.packet then left else 0
           pushed := if f.packet ∧ left ≠ 0 then f.pushed + 1 else 0 }

/-- A push of a core: a full FIFO drops it and sets overrun, counted (R458). -/
def State.corePush (s : State) (f e : Nat) : State :=
  if (s.fifo f).entries.length < 32 then s.modFifo f fun x => x.push e
  else (s.modFifo f fun x => { x with overrun := true }).modGaf fun g => { g with overruns := satInc g.overruns, events := latch g.events 10 }

/-- A push of a helper: at a full FIFO it waits (R458). -/
def State.helperPush (s : State) (f e : Nat) : State :=
  if (s.fifo f).entries.length < 32 then s.modFifo f fun x => x.push e else s

/-- A pop (R459 to R461): the value returned and the FIFO after it. -/
def Fifo.pop (f : Fifo) : Nat × Fifo :=
  match f.entries with
  | e :: r =>
    let left := if f.toPop = 0 then msgLen e - 1 else f.toPop - 1
    (e, { f with entries := r, last := e, toPop := if f.packet then left else 0 })
  | [] =>
    let f := if f.packet ∧ f.toPop ≠ 0 then { f with msgGap := true } else f
    if f.flagMode then (f.last, { f with underrun := true }) else (0, f)

/-- GAF_MB_COUNT.ready (R461). -/
def Fifo.ready (f : Fifo) : Bool :=
  match f.entries with
  | [] => false
  | e :: _ =>
    if f.packet then
      let m := if f.toPop = 0 then msgLen e else f.toPop
      let n := f.entries.length
      decide (m ≤ n) || (decide (f.threshold ≠ 0) && decide (f.threshold ≤ min n m))
    else true

/-- A write of GAF_MB_CTRL: only while the count is 0; a threshold above 32 leaves that field (R463). -/
def Fifo.ctrlWrite (f : Fifo) (v : W32) : Fifo :=
  if f.entries = [] then
    { f with flagMode := bitOf v 0, packet := bitOf v 1, threshold := if field v 2 6 ≤ 32 then field v 2 6 else f.threshold, toPush := 0, pushed := 0, toPop := 0 }
  else { f with ctrlIgnored := true }

/-- GAF_MB_CTRL. -/
def Fifo.ctrl (f : Fifo) : Nat := pack [(0, b2n f.flagMode), (1, b2n f.packet), (2, f.threshold)]

/-- GAF_MB_STATUS. -/
def Fifo.status (f : Fifo) : Nat :=
  pack [(0, b2n f.entries.isEmpty), (1, b2n f.underrun), (2, b2n f.overrun), (3, b2n f.msgGap), (4, b2n f.ctrlIgnored)]

/-- A write of GAF_MB_STATUS: W1C flags. -/
def Fifo.statusWrite (f : Fifo) (v : W32) : Fifo :=
  { f with underrun := f.underrun && !bitOf v 1, overrun := f.overrun && !bitOf v 2, msgGap := f.msgGap && !bitOf v 3,
           ctrlIgnored := f.ctrlIgnored && !bitOf v 4 }

/-- The first FIFO of open core `c` (R457). -/
def fifoBase (c : Nat) : Nat := 448 + 32 * (c - 6)

/-- Core `c` reaches FIFO `f`: open cores only their own 32 (R457). -/
def reachesFifo (c f : Nat) : Bool := decide (c < 6) || (decide (fifoBase c ≤ f) && decide (f < fifoBase c + 32))

/-- Core `c` may write GAF_MB_CTRL of FIFO `f` (R463): firmware cores theirs, an open core those it consumes, core 0 those a helper of an open core consumes. -/
def mayCtrl (c f : Nat) : Bool := if f < 448 then decide (c < 6) else c == 0 || reachesFifo c f

/-- A core's write of GAF_MB_CTRL. -/
def State.mbCtrlWrite (s : State) (c f : Nat) (v : W32) : State :=
  if f < 512 ∧ mayCtrl c f then
    let bad := decide (field v 8 24 ≠ 0)
    ((s.modFifo f fun x => x.ctrlWrite v).modGaf fun g => { g with faultCount := g.faultCount + b2n bad }).rsvNote bad 1 (0x1014 + 32 * f) v
  else s

/-! ## Registers (R472, R540) -/

/-- Bits of the cores that satisfy a test. -/
def Gaffer.mask (g : Gaffer) (p : Core → Bool) : Nat := ((seqFrom 0 8).map fun c => b2n (p (g.cores.getD c {})) * 2 ^ c).sum

/-- GAF_STATUS. -/
def Gaffer.status (g : Gaffer) : Nat :=
  g.mask (·.running) + 256 * g.mask (·.restarting) + 65536 * (g.mask (·.program) / 64 % 4)

/-- GAF_FW_STATUS. -/
def Boot.fwStatus (b : Boot) : Nat :=
  pack [(0, b.phase % 8), (3, b.component % 8), (6, b.bank % 2), (7, b2n (decide (b.dir.bank b.bank = .trial))), (8, b.lastStatus % 256)]

/-- The value of a 32-bit GAF_ register; GAF_MB_PUSH and GAF_MB_POP are no 32-bit registers. -/
def State.gafRead (s : State) (off : Nat) : Option Nat :=
  let sel := s.gaf.cores.getD s.gaf.coreSel {}
  if off < 0x1000 then
    match off with
    | 0x00 => some s.gaf.status
    | 0x04 => some s.gaf.events.toNat
    | 0x08 => some s.gaf.coreSel
    | 0x0C => some sel.restarts
    | 0x10 => some sel.lastCause
    | 0x14 => some 0
    | 0x18 => some s.gaf.overruns
    | 0x20 => some s.boot.fwStatus
    | 0x24 => some s.boot.events.toNat
    | 0x28 => some s.boot.settingsReset
    | _ => none
  else if off < 0x5000 then
    let f := s.fifo ((off - 0x1000) / 32)
    match off % 32 with
    | 0x10 => some (f.entries.length + 256 * b2n f.ready)
    | 0x14 => some f.ctrl
    | 0x18 => some f.status
    | _ => none
  else none

/-- A write of a 32-bit GAF_ register by core `c`. -/
def State.gafWrite (s : State) (c off : Nat) (v : W32) : State :=
  let rsv := fun (s : State) (b : Bool) => (s.modGaf fun g => { g with faultCount := g.faultCount + b2n b }).rsvNote b 1 off v
  if off < 0x1000 then
    match off with
    | 0x00 => rsv s (decide (v &&& 0xFFFC0000#32 ≠ 0#32))
    | 0x10 => rsv s (decide (v &&& 0xFFFFFFFC#32 ≠ 0#32))
    | 0x20 => rsv s (decide (v &&& 0xFFFF0000#32 ≠ 0#32))
    | 0x04 => rsv (s.modGaf fun g => { g with events := w1c g.events v }) (decide (field v 11 21 ≠ 0))
    | 0x08 => rsv (s.modGaf fun g => { g with coreSel := field v 0 3 }) (decide (field v 3 29 ≠ 0))
    | 0x24 => rsv { s with boot := { s.boot with events := w1c s.boot.events v } } (decide (field v 5 27 ≠ 0))
    | _ => s
  else if off < 0x5000 then
    let f := (off - 0x1000) / 32
    match off % 32 with
    | 0x10 => rsv s (decide (v &&& 0xFFFFFEC0#32 ≠ 0#32))
    | 0x14 => s.mbCtrlWrite c f v
    | 0x18 => rsv (s.modFifo f fun x => x.statusWrite v) (decide (field v 5 27 ≠ 0))
    | _ => s
  else s

/-! ## Loading cores and programs -/

/-- Writes a core's SRAM. -/
def Core.poke (k : Core) (a : Nat) (bs : Bytes) : Core := { k with sram := Mem.write 0 k.sram a bs }

/-- Every register and the SRAM of a core at reset; its restart history stays (R465, R490). -/
def Core.cleared (k : Core) : Core :=
  { restarts := k.restarts, lastCause := k.lastCause, halted := k.halted, restarting := k.restarting, alarm := none }

/-- The image of open core `c` in the applied profile (R471). -/
def State.openImage (s : State) (c : Nat) : Option Bytes := Profile.value? s.boot.profile 0xC 0 (c - 5)

/-- The bound tenant of open core `c` (R471). -/
def State.boundTenant (s : State) (c : Nat) : Nat := Profile.num s.boot.profile 0xC 0 (c - 3) 0

/-- Trap entry (R494): EPC, ECAUSE and EADDR set, mode and ie saved, then kernel mode with ie clear at VBASE. -/
def Core.enterTrap (k : Core) (epc : W32) (cause : Nat) (eaddr : W32) : Core :=
  { k with
    epc := epc, ecause := w32 cause, eaddr := eaddr
    psr := w32 (pack [(2, field k.psr 0 1), (3, field k.psr 1 1)])
    pc := k.vbase, afterEret := false, waiting := false }

/-- An image passes R468. -/
def openImageOk (b : Bytes) : Bool :=
  let t := fieldAt b 0xC 4; let d := fieldAt b 0x10 4; let z := fieldAt b 0x14 4; let k := fieldAt b 0x18 4
  slice b 0 4 = ascii "AKOP" && decide (fieldAt b 4 2 = 1) && decide (fieldAt b 6 2 = 0) && decide (fieldAt b 8 4 < t) &&
    decide (t % 4 = 0) && decide (1024 ≤ k) && decide (t + d + z + k ≤ 229376) && decide (64 + t + d ≤ b.length) &&
    decide (slice b 0x20 32 = zeros 32) &&
    decide ((crc32c (b.take 0x1C ++ zeros 4 ++ b.drop 0x20)).toNat = fieldAt b 0x1C 4)

/-- The MPU regions the kernel grants a program: base, last word and rights (R469, R492). -/
def programRegions (c t total : Nat) : List (Nat × Nat × Nat) :=
  [(0, t - 4, 0xB), (t, (total - 1) / 4 * 4, 0x7), (0x40001000 + 0x20 * fifoBase c, 0x40001000 + 0x20 * fifoBase c + 0x3FC, 0x7),
   (0x40000014, 0x40000014, 0x7)]

/-- Loads a program and starts it in user mode at its entry (R468, R469, R499). -/
def Core.loadProgram (k : Core) (c tenant : Nat) (b : Bytes) : Core :=
  let t := fieldAt b 0xC 4; let d := fieldAt b 0x10 4; let total := t + d + fieldAt b 0x14 4 + fieldAt b 0x18 4
  let rs := programRegions c t total
  let k := { k with sram := Mem.clear k.sram 0 229376 }.poke 0 (slice b 64 (t + d))
  { k with
    g := [(1, w32 tenant), (2, w32 c), (30, w32 total)]
    pc := w32 (fieldAt b 8 4 / 4 * 4), psr := 3, afterEret := false, waiting := false, program := true, alarm := none, alarmPend := false
    mpuBase := (seqFrom 0 4).map fun i => (i, w32 ((rs.getD i (0, 0, 0)).1))
    mpuLimit := (seqFrom 0 4).map fun i => (i, w32 ((rs.getD i (0, 0, 0)).2.1))
    mpuAttr := (seqFrom 0 4).map fun i => (i, w32 ((rs.getD i (0, 0, 0)).2.2)) }

/-- Loads the program of an open core, if the profile has one. -/
def State.startProgram (s : State) (c : Nat) : State :=
  match s.openImage c with
  | some b => if openImageOk b then s.modCore c fun k => k.loadProgram c (s.boundTenant c) b else s
  | none => s

/-- The code of a core in a bank: components 0 to 5 at the bottom of SRAM, component 6, the kernel, at the trap vector (R526). -/
def State.coreCode (s : State) (bank : Nat) (k : Component) (c : Nat) : Nat × Bytes :=
  let a := if c < 6 then 0 else 0x38000
  let n := min (4096 * k.blockCount) (0x40000 - a)
  (a, s.fl.read (bankBase bank + 0x10000 + 4096 * k.firstBlock) n)

/-- Starts a core from the code of a component of a bank. -/
def State.startCoreFrom (s : State) (bank : Nat) (k : Component) (c : Nat) : State :=
  let (a, b) := s.coreCode bank k c
  s.modCore c fun k => { k.cleared.poke a b with running := true, restarting := false }

/-- The running component of a core: 0 to 5 its own, 6 the kernel of both open cores. -/
def Boot.coreComponent (b : Boot) (c : Nat) : Component := b.components.getD (min c 6) ⟨1, [], 0, 0⟩

/-- Starts a core from its running code. -/
def State.startCore (s : State) (c : Nat) : State := s.startCoreFrom s.boot.bank (s.boot.coreComponent c) c

/-- Starts every core and program (R42 step 6, R58). -/
def State.startCores (s : State) : State :=
  let s := (seqFrom 0 8).foldl (fun s c => s.startCore c) s
  if s.boot.safe ∨ s.boot.unowned then s else (s.startProgram 6).startProgram 7

/-- The complex across a reset: FIFOs emptied, cores stopped (R472). -/
def Gaffer.reset (g : Gaffer) (warm : Bool) : Gaffer :=
  { events := if warm then g.events else 0, coreSel := if warm then g.coreSel else 0, overruns := g.overruns, dropped := g.dropped,
    faultCount := g.faultCount, cores := g.cores.mapVal fun _ k => { restarts := k.restarts } }

/-- SHA-256 input of measurement 7: core 6's image followed by core 7's (R468). -/
def State.programDigests (s : State) : Bytes := (s.openImage 6).getD [] ++ (s.openImage 7).getD []

end Sys2Proof.Machine
end

