-- ==== Sys2Proof/Machine/NetOps.lean ====
section
/-! DEFINITION. Frames, templates, patterns and classes, the packet buffer, security associations and packet rings (spec/13 R350 to R374). -/

namespace Sys2Proof.Machine

open Sys2Proof

/-! ## Profile records -/

/-- The records of a section whose keys lie in a range, by key less its start. -/
def Profile.keyed (p : Bytes) (typ lo n : Nat) : Tbl Bytes :=
  ((Profile.sections p).filter fun x => x.typ = typ ∧ x.inst = 0).foldl (fun t x =>
    ((Profile.records p x).getD []).foldl (fun t r => if lo ≤ r.key ∧ r.key < lo + n then Tbl.put t (r.key - lo) r.value else t) t) []

/-- A key of the NETWORK section. -/
def State.netKey (s : State) (key dflt : Nat) : Nat := s.prof 6 0 key dflt

/-- Ports of the grouping (R350). -/
def State.netPorts (s : State) : Nat := Profile.portCount (s.netKey 1 1)

/-- Port rate in Mb/s (R350). -/
def State.portRate (s : State) : Nat := 6400000 / s.netPorts

/-- max_frame, FCS counted (R376). -/
def State.maxFrame (s : State) : Nat := s.netKey 2 9216

/-- A port. -/
def State.netPort (s : State) (p : Nat) : NetPort := s.net.ports.getD p {}

/-- Changes a port. -/
def State.modNet (s : State) (p : Nat) (f : NetPort → NetPort) : State :=
  { s with net := { s.net with ports := s.net.ports.upd p {} f } }

/-- Changes the pipeline. -/
def State.modMrv (s : State) (f : Marver → Marver) : State := { s with mrv := f s.mrv }

/-- Latches a pipeline event (MRV_EVENTS). -/
def State.mrvEvent (s : State) (i : Nat) : State := s.modMrv fun m => { m with events := latch m.events i }

/-! ## Reading frames -/

/-- A big-endian field of a frame. -/
def fbe (b : Bytes) (off n : Nat) : Nat := beNat (slice b off n)

/-- VLAN tags of a frame: the outer with TPID 0x8100 or 0x88A8, the others 0x8100; at most three are counted (R351, R357). -/
def tagCount (b : Bytes) : Nat :=
  let tpid := fun i => fbe b (12 + 4 * i) 2
  if tpid 0 ≠ 0x8100 ∧ tpid 0 ≠ 0x88A8 then 0
  else if tpid 1 ≠ 0x8100 then 1
  else if tpid 2 ≠ 0x8100 then 2 else 3

/-- The L3 start (R358). -/
def l3Of (b : Bytes) : Nat := 14 + 4 * tagCount b

/-- The EtherType. -/
def etherType (b : Bytes) : Nat := fbe b (l3Of b - 2) 2

/-- The frame carries IPv4, or IPv6. -/
def isV4 (b : Bytes) : Bool := decide (etherType b = 0x0800)
def isV6 (b : Bytes) : Bool := decide (etherType b = 0x86DD)

/-- IP protocol or IPv6 next header; 0 for other frames. -/
def ipProto (b : Bytes) : Nat := if isV4 b then fbe b (l3Of b + 9) 1 else if isV6 b then fbe b (l3Of b + 6) 1 else 0

/-- The traffic class byte: DSCP and ECN. -/
def tosByte (b : Bytes) : Nat := if isV4 b then fbe b (l3Of b + 1) 1 else if isV6 b then fbe b (l3Of b) 2 / 16 % 256 else 0

/-- The DSCP. -/
def dscpOf (b : Bytes) : Nat := tosByte b / 4

/-- The L4 start: after a 20-byte IPv4 or a 40-byte IPv6 header. -/
def l4Of (b : Bytes) : Nat := l3Of b + if isV6 b then 40 else 20

/-- An IP address as the 16 bytes of R557. -/
def mapped (b : Bytes) : Bytes := if b.length = 4 then zeros 10 ++ [0xFF, 0xFF] ++ b else b

/-- Source and destination IP addresses. -/
def srcIp (b : Bytes) : Bytes := if isV4 b then mapped (slice b (l3Of b + 12) 4) else slice b (l3Of b + 8) 16
def dstIp (b : Bytes) : Bytes := if isV4 b then mapped (slice b (l3Of b + 16) 4) else slice b (l3Of b + 24) 16

/-- The one's complement sum of 16-bit big-endian words. -/
def onesSum : Bytes → Nat
  | [] => 0
  | [a] => a.toNat * 256
  | a :: b :: r => a.toNat * 256 + b.toNat + onesSum r

/-- Folds a sum into 16 bits. -/
def fold16 : Nat → Nat → Nat
  | 0, n => n % 65536
  | k + 1, n => if n < 65536 then n else fold16 k (n % 65536 + n / 65536)

/-- The Internet checksum of bytes. -/
def inetSum (b : Bytes) : Nat := 0xFFFF - fold16 8 (onesSum b)

/-- Length of the IP packet as its header gives it, header included. -/
def ipLength (b : Bytes) : Nat := if isV4 b then fbe b (l3Of b + 2) 2 else 40 + fbe b (l3Of b + 4) 2

/-- The priority of a frame (R353). -/
def State.framePrio (s : State) (b : Bytes) : Nat :=
  if 0 < tagCount b then fbe b 14 2 / 8192
  else if s.netKey 3 0 = 1 ∧ (isV4 b ∨ isV6 b) then
    match Profile.value? s.boot.profile 6 0 0xE with
    | some m => (m.getD (dscpOf b) 0).toNat % 8
    | none => dscpOf b / 8
  else s.netKey 4 0

/-! ## Packet buffer (R354, R355) -/

/-- Cells of a frame of L bytes, FCS counted. -/
def cellsOf (b : Bytes) : Nat := (b.length + 4 + 255) / 256

/-- Priority `q` is lossless. -/
def State.lossless (s : State) (q : Nat) : Bool := decide (s.netKey 5 8 / 2 ^ q % 2 = 1)

/-- Cells a pair draws on the shared pool: what it holds beyond min_cells, less what its headroom carries. -/
def State.sharedCells (s : State) (q use : Nat) : Nat :=
  (if s.lossless q then min use (s.netKey 9 2048) else use) - s.netKey 7 64

/-- Cells of the shared ingress pool: what neither egress_cells nor min_cells nor headroom_cells reserve. -/
def State.sharedPool (s : State) : Nat :=
  524288 - s.netKey 0xC 262144 - s.prof 9 0 1 16384 - Profile.ingressPlan s.boot.profile

/-- Shared cells in use. -/
def State.sharedUse (s : State) : Nat :=
  (s.net.ports.map fun p => (p.2.cells.map fun c => s.sharedCells c.1 c.2).sum).sum

/-- A frame of a pair fits (R354). -/
def State.fits (s : State) (port q n : Nat) : Bool :=
  let use := (s.netPort port).cells.getD q 0
  let lim := if s.lossless q then s.netKey 9 2048 + s.netKey 0xB 2048 else s.netKey 8 4096
  decide (use + n ≤ lim) && decide (s.sharedUse + s.sharedCells q (use + n) ≤ s.sharedPool + s.sharedCells q use)

/-- Sends a PFC frame and counts it. -/
def State.sendPfc (s : State) (port q quanta : Nat) : State :=
  (s.modNet port fun p => { p with pfcTx := satInc p.pfcTx }).emit (.pfc port q quanta)

/-- XOFF at xoff_cells, XON at xon_cells (R355). -/
def State.pfcCheck (s : State) (port q : Nat) : State :=
  let p := s.netPort port
  let use := p.cells.getD q 0
  if ¬ s.lossless q then s
  else if s.netKey 9 2048 ≤ use ∧ ¬ p.xoff.contains q then
    (s.modNet port fun p => { p with xoff := p.xoff ++ [q] }).sendPfc port q 0xFFFF
  else if use ≤ s.netKey 0xA 1024 ∧ p.xoff.contains q then
    (s.modNet port fun p => { p with xoff := p.xoff.filter (· ≠ q) }).sendPfc port q 0
  else s

/-- Frees a frame's cells. -/
def State.freeCells (s : State) (port q n : Nat) : State :=
  (s.modNet port fun p => { p with cells := p.cells.upd q 0 fun c => c - n }).pfcCheck port q

/-! ## Slow path and malformed frames (R357) -/

/-- The frame is an IP fragment. -/
def isFragment (b : Bytes) : Bool :=
  (isV4 b && decide (fbe b (l3Of b + 6) 2 % 16384 ≠ 0)) || (isV6 b && decide (ipProto b = 44))

/-- The frame goes to the slow path before templates are tried. -/
def oddFrame (b : Bytes) : Bool :=
  decide (2 < tagCount b) || (isV4 b && decide (fbe b (l3Of b) 1 % 16 ≠ 5)) || isFragment b ||
    (isV6 b && [0, 43, 44, 60, 135, 139, 140, 253, 254].contains (ipProto b))

/-- The length of the IP packet agrees with the frame: equal, or shorter inside a frame padded to the minimum. -/
def lengthAgrees (b : Bytes) : Bool :=
  let have_ := b.length - l3Of b
  decide (ipLength b = have_) || (decide (b.length ≤ 60 + 4 * tagCount b) && decide (ipLength b ≤ have_))

/-- The frame is dropped as malformed. -/
def malformedFrame (b : Bytes) : Bool :=
  let v := fbe b (l3Of b) 1 / 16
  (isV4 b && (decide (v ≠ 4) || decide (inetSum (slice b (l3Of b) 20) ≠ 0) || !lengthAgrees b)) ||
    (isV6 b && (decide (v ≠ 6) || !lengthAgrees b))

/-! ## Templates, patterns, classes (R358 to R363) -/

/-- The key of a template's fields, zero-padded to 64 bytes; none where a field leaves the frame. -/
def templateKey (t b : Bytes) : Option Bytes :=
  let fs := (seqFrom 0 8).map fun i => (fieldAt t (0x10 + 4 * i) 2, fieldAt t (0x12 + 4 * i) 1)
  if fs.all fun f => decide (f.2 = 0 ∨ l3Of b + f.1 + f.2 ≤ b.length) then
    let k := fs.flatMap fun f => slice b (l3Of b + f.1) f.2
    some (k ++ zeros (64 - k.length))
  else none

/-- A template matches a frame (R358); its key. -/
def templateMatch (t b : Bytes) (port : Nat) : Option Bytes :=
  let flags := fieldAt t 0 1
  let vc := fieldAt t 1 1
  let pm := fieldAt t 5 1
  let dm := fieldAt t 8 2
  let dp := l3Of b + if isV6 b then 42 else 22
  if flags % 2 = 1 ∧ fieldAt t 0xC 4 / 2 ^ port % 2 = 1 ∧ (vc = tagCount b ∨ vc = 0xFF) ∧ etherType b = fieldAt t 2 2 ∧
      Nat.land (ipProto b) pm = Nat.land (fieldAt t 4 1) pm ∧
      (flags / 2 % 2 = 0 ∨ (dp + 2 ≤ b.length ∧ Nat.land (fbe b dp 2) dm = Nat.land (fieldAt t 6 2) dm)) then
    templateKey t b
  else none

/-- A template record of the device: EtherType, protocol with its mask, destination port with its mask (R363). -/
def deviceTemplate (et proto pmask l4 dport : Nat) : Bytes :=
  natLe (1 + 2 * l4) 1 ++ [0xFF] ++ natLe et 2 ++ natLe proto 1 ++ natLe pmask 1 ++ natLe dport 2 ++ natLe 0xFFFF 2 ++ zeros 2 ++
    natLe 0xFFFFFFFF 4 ++ zeros 48

/-- The templates in force: the profile's 0 to 59 and the device's 60 to 63. -/
def State.templates (s : State) : Tbl Bytes :=
  Profile.keyed s.boot.profile 6 0x1000 60 ++
    [(60, deviceTemplate 0x0806 0 0 0 0), (61, deviceTemplate 0x86DD 58 0xFF 0 0), (62, deviceTemplate 0x0800 17 0xFF 1 4791),
     (63, deviceTemplate 0x86DD 17 0xFF 1 4791)]

/-- The lowest-numbered matching template and its key. -/
def pickTemplate (port : Nat) (b : Bytes) : Tbl Bytes → Nat × Bytes × Bytes
  | [] => (0xFF, [], [])
  | (i, t) :: r =>
    match templateMatch t b port with
    | some k => (i, t, k)
    | none => pickTemplate port b r

/-- An ASCII letter with case folded. -/
def foldCase (x : Byte) : Byte := if 65 ≤ x.toNat ∧ x.toNat ≤ 90 then x + 32 else x

/-- `p` occurs at some place of `w`. -/
def occursIn (p : Bytes) : Bytes → Bool
  | [] => p.isEmpty
  | x :: r => (x :: r).take p.length == p || occursIn p r

/-- A pattern record matches in a window (R360, R361). -/
def patternHits (pat w : Bytes) : Bool :=
  let n := fieldAt pat 0 1
  let p := slice pat 4 n
  decide (n ≠ 0) && (if fieldAt pat 2 1 % 2 = 1 then occursIn (p.map foldCase) (w.map foldCase) else occursIn p w)

/-- Runs the pattern matcher: the group mask and the lowest matching pattern. -/
def State.matchPatterns (s : State) (t b : Bytes) : Nat × Nat :=
  let w := (b.drop (l3Of b + fieldAt t 0xA 2)).take 512
  let hits := (Profile.keyed s.boot.profile 6 0x2000 4096).filter fun p => patternHits p.2 w
  (hits.foldl (fun m p => Nat.lor m (2 ^ (fieldAt p.2 1 1 % 64))) 0, match hits with | [] => 0xFFFF | p :: _ => p.1)

/-- A class rule matches (R362). -/
def classMatch (r : Bytes) (port template groups : Nat) (key : Bytes) : Bool :=
  let flags := fieldAt r 0 1
  let gm := fieldAt r 0x10 8
  decide (flags % 2 = 1) && (decide (flags / 2 % 2 = 1) || decide (fieldAt r 1 1 = template)) &&
    decide (fieldAt r 4 4 / 2 ^ port % 2 = 1) &&
    decide (List.zipWith (· &&& ·) (slice key 0 64) (slice r 0x60 64) = List.zipWith (· &&& ·) (slice r 0x20 64) (slice r 0x60 64)) &&
    decide (Nat.land groups gm = fieldAt r 8 8)

/-- The class rules of the profile. -/
def State.classes (s : State) : Tbl Bytes := Profile.keyed s.boot.profile 6 0x3000 1016

/-- job_endpoint_addr; none where the profile gives none. -/
def State.jobAddr (s : State) : Option Bytes := Profile.value? s.boot.profile 6 0 0xF

/-- A tenant's GIDs: the addresses the profile lists for it (R401, R421). -/
def State.gids (s : State) (tenant : Nat) : List Bytes :=
  let v := (Profile.value? s.boot.profile 9 0 (0x200 + tenant)).getD []
  (seqFrom 0 (v.length / 16)).map fun i => slice v (16 * i) 16

/-- The remote memory engine serves an address: the job's endpoint address or a tenant's GID (R363, R401). -/
def State.rmeServes (s : State) (a : Bytes) : Bool :=
  s.jobAddr == some a || (seqFrom 0 16).any fun t => (s.gids t).contains a

/-- ARP, neighbour discovery or ICMP for the job's endpoint address (R363). -/
def State.forJob (s : State) (template : Nat) (b : Bytes) : Bool :=
  match s.jobAddr with
  | none => false
  | some a =>
    if template = 60 then decide (mapped (slice b (l3Of b + 24) 4) = a)
    else if isV4 b then decide (ipProto b = 1) && decide (dstIp b = a)
    else isV6 b && decide (ipProto b = 58) &&
      (decide (dstIp b = a) || decide (slice b (l3Of b + 24) 13 = [0xFF, 0x02, 0, 0, 0, 0, 0, 0, 0, 0, 0, 0x01, 0xFF] ∧ slice b (l3Of b + 37) 3 = a.drop 13))

/-- The class of a parsed frame: the lowest matching of the profile, then the device's, then 1023 (R362, R363). -/
def State.pickClass (s : State) (port template groups : Nat) (key b : Bytes) : Nat :=
  match List.find? (fun (c : Nat × Bytes) => classMatch c.2 port template groups key) s.classes with
  | some c => c.1
  | none => if (template = 62 ∨ template = 63) ∧ s.rmeServes (dstIp b) then 1016 else if s.forJob template b then 1017 else 1023

/-- Templates, patterns and class of a packet (R358 to R363). -/
def State.classify (s : State) (p : Pkt) : Pkt :=
  let (t, rec_, key) := pickTemplate p.port p.bytes s.templates
  let (g, f) := if t ≠ 0xFF ∧ fieldAt rec_ 0 1 / 4 % 2 = 1 then s.matchPatterns rec_ p.bytes else (0, 0xFFFF)
  { p with template := t, groups := g, firstPattern := f, cls := s.pickClass p.port t g (key ++ zeros (64 - key.length)) p.bytes }

/-- dest, tenant and ring of a class (R362, R363). -/
def State.classDest (s : State) (c : Nat) : Nat × Nat × Nat :=
  if c = 1016 then (1, 0, 0) else if c = 1017 then (3, 0, 0)
  else match s.classes.find? c with
    | some x => (fieldAt x 2 1, fieldAt x 3 1, fieldAt x 0x18 2)
    | none => (0, 0, 0)

/-- A packet of a class is dropped and counted in it (R364). -/
def State.classDrop (s : State) (c : Nat) : State := s.modMrv fun m => { m with classDrops := m.classDrops.upd c 0 satInc }

/-! ## Checksums (R364, R373) -/

/-- The pseudo-header sum input of UDP or TCP over IP. -/
def pseudo (b : Bytes) : Bytes :=
  let n := ipLength b - (l4Of b - l3Of b)
  if isV4 b then slice b (l3Of b + 12) 8 ++ [0] ++ natBe (ipProto b) 1 ++ natBe n 2
  else slice b (l3Of b + 8) 32 ++ natBe n 4 ++ [0, 0, 0] ++ natBe (ipProto b) 1

/-- The L4 segment of the IP packet. -/
def l4Bytes (b : Bytes) : Bytes := slice b (l4Of b) (ipLength b - (l4Of b - l3Of b))

/-- Where the L4 checksum stands, for UDP and TCP. -/
def l4SumAt (b : Bytes) : Option Nat :=
  if ¬ (isV4 b ∨ isV6 b) then none
  else if ipProto b = 17 then some (l4Of b + 6) else if ipProto b = 6 then some (l4Of b + 16) else none

/-- l4_ok: the UDP or TCP checksum is good; an IPv4 UDP checksum of 0 is none (R364). -/
def l4Good (b : Bytes) : Bool :=
  match l4SumAt b with
  | none => false
  | some o => (isV4 b && ipProto b == 17 && fbe b o 2 == 0) || decide (inetSum (pseudo b ++ l4Bytes b) = 0)

/-- Replaces bytes of a frame. -/
def poke (b : Bytes) (off : Nat) (v : Bytes) : Bytes := b.take off ++ v ++ b.drop (off + v.length)

/-- Inserts the IPv4 header checksum. -/
def putIpSum (b : Bytes) : Bytes :=
  if isV4 b then
    let z := poke b (l3Of b + 10) [0, 0]
    poke z (l3Of b + 10) (natBe (inetSum (slice z (l3Of b) 20)) 2)
  else b

/-- Inserts the UDP or TCP checksum; a UDP sum of 0 is sent as 0xFFFF. -/
def putL4Sum (b : Bytes) : Bytes :=
  match l4SumAt b with
  | none => b
  | some o =>
    let z := poke b o [0, 0]
    let c := inetSum (pseudo z ++ l4Bytes z)
    poke z o (natBe (if c = 0 ∧ ipProto b = 17 then 0xFFFF else c) 2)

/-! ## Security associations (R369 to R372) -/

/-- The SA index encoding of SERVICE and the kernel: [15:0] index, [16] outbound (R370). -/
def saCode (out : Bool) (i : Nat) : Nat := i + 65536 * b2n out

/-- Installs an SA from a 64-byte record (R370, R498): its key unwrapped under the tenant's TIK; an inbound SA stands at SPI[15:0]. -/
def State.installSa (s : State) (tenant : Nat) (r : Bytes) : State × Except Nat Nat :=
  let spi := fieldAt r 0 4
  let flags := fieldAt r 4 1
  let out := decide (flags % 2 = 1)
  match s.cru.tik.find? tenant with
  | none => (s, .error 0x32)
  | some tik =>
    match keyUnwrap tik (slice r 24 40) with
    | none => (s, .error 0x32)
    | some key =>
      let slot := if out then lowestFree (s.mrv.saOut.map (·.1)) 0 65536
        else if (s.mrv.saIn.find? (spi % 65536)).isSome then none else some (spi % 65536)
      match slot with
      | none => (s, .error 0x13)
      | some i =>
        match s.storeKey (if out then 2 else 1) tenant key with
        | (s, none) => (s, .error 0x13)
        | (s, some h) =>
          let sa : Sa := { tenant := tenant, spi := spi, flags := flags, dst := slice r 8 16, handle := h }
          (s.modMrv fun m => if out then { m with saOut := m.saOut.put i sa } else { m with saIn := m.saIn.put i sa }, .ok (saCode out i))

/-- Removes an SA and deletes its key: 0x12 for another tenant's, 0x11 for none (R370). -/
def State.removeSa (s : State) (tenant code : Nat) : State × Nat :=
  let i := code % 65536
  let out := decide (code / 65536 % 2 = 1)
  match (if out then s.mrv.saOut else s.mrv.saIn).find? i with
  | none => (s, 0x11)
  | some sa =>
    if sa.tenant ≠ tenant then (s, 0x12)
    else
      ((s.deleteKey sa.handle).modMrv fun m => if out then { m with saOut := m.saOut.del i } else { m with saIn := m.saIn.del i }, 0)

/-- Zeroizes every SA key of a tenant, and its SAs become invalid (R454). -/
def State.dropTenantSas (s : State) (n : Nat) : State :=
  let gone := (s.mrv.saIn ++ s.mrv.saOut).filter fun x => x.2.tenant = n
  let s := gone.foldl (fun s x => s.deleteKey x.2.handle) s
  s.modMrv fun m => { m with saIn := m.saIn.filter fun x => x.2.tenant ≠ n, saOut := m.saOut.filter fun x => x.2.tenant ≠ n }

/-- The AES key of an SA and its 4-byte salt, which the record does not give. -/
def Sa.keyOf (sa : Sa) (material : Bytes) : Bytes × Bytes :=
  (if sa.flags / 8 % 2 = 1 then material.take 32 else material.take 16, (Config.espSalt material).take 4)

/-- The GCM nonce and additional data of an ESP packet: salt and 8-byte IV; SPI and sequence number (RFC 4106). -/
def Sa.gcmParts (sa : Sa) (salt : Bytes) (seq : Nat) : Bytes × Bytes :=
  (salt ++ natBe seq 8, natBe sa.spi 4 ++ (if sa.flags / 2 % 2 = 1 then natBe seq 8 else natBe (seq % 2 ^ 32) 4))

/-- The full sequence number of an inbound packet: with ESN the high half that puts it nearest the window (RFC 4303). -/
def Sa.fullSeq (sa : Sa) (lo : Nat) : Nat :=
  if sa.flags / 2 % 2 = 0 then lo
  else
    let hi := sa.top / 2 ^ 32
    let tl := sa.top % 2 ^ 32
    if 1023 ≤ tl then (if tl - 1023 ≤ lo then hi * 2 ^ 32 + lo else (hi + 1) * 2 ^ 32 + lo)
    else (if lo < tl + 2 ^ 32 - 1023 then hi * 2 ^ 32 + lo else (hi - 1) * 2 ^ 32 + lo)

/-- A sequence number below the window of 1,024, or already seen (R371). -/
def Sa.replayed (sa : Sa) (seq : Nat) : Bool := decide (seq = 0) || decide (seq + 1024 ≤ sa.top) || sa.seen.contains seq

/-- Marks a sequence number in the window. -/
def Sa.mark (sa : Sa) (seq : Nat) : Sa :=
  let t := max sa.top seq
  { sa with top := t, seen := (seq :: sa.seen).filter fun x => t < x + 1024 }

/-- The outcome of ESP inbound: 0 bad SA, 1 replay, 2 authentication failure, or the packet in clear. -/
inductive EspIn where
  | bad
  | replay
  | auth
  | clear (p : Pkt)
deriving DecidableEq, Repr

/-- The frame an ESP payload stood for: transport restores the header, tunnel takes the inner packet (RFC 4303). -/
def espInner (b : Bytes) (tunnel : Bool) (pt : Bytes) : Bytes :=
  let next := (pt.getD (pt.length - 1) 0).toNat
  let pad := (pt.getD (pt.length - 2) 0).toNat
  let body := pt.take (pt.length - 2 - pad)
  let l2 := b.take (l3Of b)
  if tunnel then
    poke (l2 ++ body) (l3Of b - 2) (natBe (if next = 41 then 0x86DD else 0x0800) 2)
  else
    let ip := slice b (l3Of b) (l4Of b - l3Of b)
    let f := l2 ++ ip ++ body
    if isV4 b then putIpSum (poke (poke f (l3Of b + 9) (natBe next 1)) (l3Of b + 2) (natBe (20 + body.length) 2))
    else poke (poke f (l3Of b + 6) (natBe next 1)) (l3Of b + 4) (natBe body.length 2)

/-- ESP inbound (R371): SA, window, ICV; the window moves only for a packet that passes. -/
def State.espInbound (s : State) (p : Pkt) (tenant : Nat) : State × EspIn :=
  let b := p.bytes
  let o := l4Of b
  let e := l4Bytes b
  let spi := fbe b o 4
  let i := spi % 65536
  match s.mrv.saIn.find? i with
  | none => (s, .bad)
  | some sa =>
    if sa.spi ≠ spi ∨ sa.dst ≠ dstIp b ∨ sa.tenant ≠ tenant ∨ ipProto b ≠ 50 ∨ e.length < 34 then (s, .bad)
    else
      let seq := sa.fullSeq (fbe b (o + 4) 4)
      if sa.replayed seq then (s, .replay)
      else
        match s.useKey tenant sa.handle with
        | (s, none) => (s, .bad)
        | (s, some m) =>
          let (key, salt) := sa.keyOf m
          let (_, aad) := sa.gcmParts salt seq
          let nonce := salt ++ slice e 8 8
          let ct := slice e 16 (e.length - 32)
          if gcmTag key nonce aad ct ≠ slice e (e.length - 16) 16 then (s.tagFailed, .auth)
          else
            let pt := gcmCrypt key nonce ct
            (s.modMrv fun m => { m with saIn := m.saIn.put i (sa.mark seq) },
             .clear { p with bytes := espInner b (decide (sa.flags / 4 % 2 = 1)) pt, esp := true, sa := i })

/-- Bytes ESP adds to a frame: header, IV, padding to 4 bytes with its trailer, ICV, and a tunnel's outer header. -/
def espGrowth (sa : Sa) (b : Bytes) : Nat :=
  let inner := if sa.flags / 4 % 2 = 1 then b.length - l3Of b else b.length - l4Of b
  16 + ((4 - (inner + 2) % 4) % 4 + 2) + 16 + (if sa.flags / 4 % 2 = 1 then (if sa.dst.take 12 = zeros 10 ++ [0xFF, 0xFF] then 20 else 40) else 0)

/-- The ESP frame of a clear one (R372, RFC 4303): the sequence number is the IV; a tunnel's outer header takes TOS and TTL from the inner one. -/
def espWrap (sa : Sa) (material : Bytes) (src b : Bytes) (seq : Nat) : Bytes :=
  let tunnel := decide (sa.flags / 4 % 2 = 1)
  let (key, salt) := sa.keyOf material
  let (nonce, aad) := sa.gcmParts salt seq
  let next := if tunnel then (if isV6 b then 41 else 4) else ipProto b
  let pay := if tunnel then b.drop (l3Of b) else b.drop (l4Of b)
  let pad := (4 - (pay.length + 2) % 4) % 4
  let pt := pay ++ ((seqFrom 1 pad).map fun i => BitVec.ofNat 8 i) ++ natBe pad 1 ++ natBe next 1
  let ct := gcmCrypt key nonce pt
  let esp := natBe sa.spi 4 ++ natBe (seq % 2 ^ 32) 4 ++ natBe seq 8 ++ ct ++ gcmTag key nonce aad ct
  let l2 := b.take (l3Of b)
  if tunnel then
    let ttl := if isV6 b then slice b (l3Of b + 7) 1 else slice b (l3Of b + 8) 1
    if sa.dst.take 12 = zeros 10 ++ [0xFF, 0xFF] then
      putIpSum (poke (l2 ++ [0x45] ++ natBe (tosByte b) 1 ++ natBe (20 + esp.length) 2 ++ zeros 4 ++ ttl ++ [50, 0, 0] ++ src.drop 12 ++ sa.dst.drop 12 ++ esp)
        (l3Of b - 2) (natBe 0x0800 2))
    else
      poke (l2 ++ natBe (0x60000000 + tosByte b * 2 ^ 20) 4 ++ natBe esp.length 2 ++ [50] ++ ttl ++ src ++ sa.dst ++ esp)
        (l3Of b - 2) (natBe 0x86DD 2)
  else
    let f := b.take (l4Of b) ++ esp
    if isV4 b then putIpSum (poke (poke f (l3Of b + 9) [50]) (l3Of b + 2) (natBe (20 + esp.length) 2))
    else poke (poke f (l3Of b + 6) [50]) (l3Of b + 4) (natBe esp.length 2)

/-! ## Packet rings (R373, R374) -/

/-- A ring record of the profile. -/
def State.ringRec (s : State) (r : Nat) : Option Bytes := Profile.value? s.boot.profile 6 0 (0x4000 + r)

/-- Fields of a ring record. -/
def ringTenant (b : Bytes) : Nat := fieldAt b 0 1
def ringTx (b : Bytes) : Bool := decide (fieldAt b 1 1 = 1)
def ringSlot (b : Bytes) : Nat := 2 ^ fieldAt b 2 1
def ringSize (b : Bytes) : Nat := 2 ^ fieldAt b 3 1
def ringSync (b : Bytes) : Nat := fieldAt b 4 2
def ringBase (b : Bytes) : Nat := fieldAt b 8 8
def ringIndex (b : Bytes) : Nat := fieldAt b 0x10 8
def ringLeaf (b : Bytes) : Nat := fieldAt b 0x18 4

/-- A ring's runtime state. -/
def State.ring (s : State) (r : Nat) : Ring := s.mrv.rings.getD r {}

/-- Changes a ring. -/
def State.modRing (s : State) (r : Nat) (f : Ring → Ring) : State := s.modMrv fun m => { m with rings := m.rings.upd r {} f }

/-- The count software keeps in the ring's sync counter. -/
def State.ringSoft (s : State) (b : Bytes) : Nat := ((s.con.fn (ringTenant b)).sync.getD (ringSync b) 0).toNat % 2 ^ 31

/-- A ring enters error (R374). -/
def State.ringError (s : State) (r : Nat) : State := (s.modRing r fun x => { x with error := true }).mrvEvent 8

/-- Writes a slot of a ring under its tenant's tag and names the panes whose writes are held; a refusal puts the ring in error. -/
def State.ringWrite (s : State) (b : Bytes) (off : Nat) (bs : Bytes) : Option (State × List Nat) :=
  match s.fab.writeDev (ringTenant b) off bs with
  | .ok (f, h) => some ({ s with fab := f }, h)
  | .error _ => none

/-- The receive slot header (R373). -/
def slotHeader (p : Pkt) : Bytes :=
  natLe p.bytes.length 2 ++ natLe p.port 1 ++ natLe p.prio 1 ++ natLe p.cls 2 ++ natLe p.template 1 ++
    natLe (pack [(0, b2n p.l4ok), (1, b2n p.esp), (2, b2n p.ce), (3, b2n (decide (p.firstPattern ≠ 0xFFFF)))]) 1 ++
    natLe p.firstPattern 2 ++ natLe p.sa 2 ++ zeros 4 ++ natLe p.groups 8 ++ natLe p.seq 8

/-- Delivers a packet to a receive ring (R373): header and frame, then the count word once they are visible (R73). -/
def State.ringReceive (s : State) (r : Nat) (p : Pkt) : State :=
  match s.ringRec r with
  | none => s.classDrop p.cls
  | some b =>
    let k := (s.ring r).count
    if (s.ring r).error ∨ ringTx b ∨ ringSize b ≤ (k + 2 ^ 31 - s.ringSoft b) % 2 ^ 31 then s.classDrop p.cls
    else
      match s.ringWrite b (ringBase b + ringSlot b * (k % ringSize b)) (slotHeader p ++ p.bytes) with
      | none => (s.ringError r).classDrop p.cls
      | some (s, h) =>
        let n := (k + 1) % 2 ^ 31
        match s.flagWrite (ringTenant b) (ringIndex b) (natLe n 8) h with
        | none => s.ringError r
        | some s => s.modRing r fun x => { x with count := n }

/-- A tenant's rings after its function's reset: disabled, both counts 0 (R374). -/
def State.dropTenantRings (s : State) (n : Nat) : State :=
  (seqFrom 0 256).foldl (fun s r =>
    match s.ringRec r with
    | some b => if ringTenant b = n then s.modRing r fun _ => { count := 0, error := true } else s
    | none => s) s

/-- The first write to a ring's sync counter after its panes are mapped again resumes it (R374). -/
def State.ringResume (s : State) (fn index : Nat) : State :=
  (s.mrv.rings.filter fun x => x.2.error).foldl (fun s x =>
    match s.ringRec x.1 with
    | some b =>
      if ringTenant b = fn ∧ ringSync b = index ∧ (s.fab.pane? fn (ringBase b)).isSome ∧ (s.fab.pane? fn (ringIndex b)).isSome then
        s.modRing x.1 fun y => { y with error := false }
      else s
    | none => s) s

/-! ## Slow path (R368) -/

/-- A packet goes to the slow path queue of a core, or is dropped and counted. -/
def State.slowPath (s : State) (core : Nat) (p : Pkt) (cls : Option Nat) : State :=
  if (s.mrv.slowQ.getD core []).length < 4096 then
    let s := s.modMrv fun m => { m with slow := satInc m.slow, slowQ := m.slowQ.upd core [] (· ++ [p]) }
    if 6 ≤ core then s.helperPush (fifoBase core) p.bytes.length else s
  else
    let s := (s.modMrv fun m => { m with slowDrop := satInc m.slowDrop }).mrvEvent 1
    match cls with | some c => s.classDrop c | none => s

/-- The reassembly key of a fragment: version, addresses, identification, protocol. -/
def fragKey (b : Bytes) : Bytes :=
  if isV4 b then [4] ++ slice b (l3Of b + 12) 8 ++ slice b (l3Of b + 4) 2 ++ slice b (l3Of b + 9) 1
  else [6] ++ slice b (l3Of b + 8) 32 ++ slice b (l3Of b + 44) 4 ++ slice b (l3Of b + 40) 1

/-- Offset, more flag and payload of a fragment. -/
def fragPart (b : Bytes) : Nat × Bool × Bytes :=
  if isV4 b then
    let w := fbe b (l3Of b + 6) 2
    (w % 8192 * 8, decide (w / 8192 % 2 = 1), slice b (l4Of b) (ipLength b - 20))
  else
    let w := fbe b (l3Of b + 42) 2
    (w / 8 * 8, decide (w % 2 = 1), slice b (l3Of b + 48) (ipLength b - 48))

/-- The headers of a reassembled datagram with `n` payload bytes. -/
def fragHead (b : Bytes) (n : Nat) : Bytes :=
  if isV4 b then putIpSum (poke (poke (b.take (l4Of b)) (l3Of b + 6) [0, 0]) (l3Of b + 2) (natBe (20 + n) 2))
  else poke (poke (b.take (l3Of b + 40)) (l3Of b + 6) (slice b (l3Of b + 40) 1)) (l3Of b + 4) (natBe n 2)

/-- The payload, once every byte of it is held. -/
def Frag.whole (f : Frag) : Option Bytes :=
  match f.total with
  | none => none
  | some n =>
    let got := f.pieces.foldl (fun (acc : Nat × Bytes) p =>
      if p.1 ≤ acc.1 then (max acc.1 (p.1 + p.2.length), acc.2 ++ p.2.drop (acc.1 - p.1)) else acc) (0, [])
    if got.1 = n then some got.2 else none

/-- Adds a fragment to the datagrams in reassembly. -/
def addFrag (fs : List Frag) (p : Pkt) : List Frag :=
  let (off, more, pay) := fragPart p.bytes
  let add := fun (f : Frag) =>
    { f with
      pieces := f.pieces.put off pay
      head := if off = 0 then p.bytes else f.head
      total := if more then f.total else some (off + pay.length) }
  if fs.any fun f => f.key = fragKey p.bytes then fs.map fun f => if f.key = fragKey p.bytes then add f else f
  else fs ++ [add { key := fragKey p.bytes, port := p.port, prio := p.prio, head := [], pieces := [], total := none }]

/-- A packet enters the parser once more, with a new arrival sequence (R368). -/
def State.reinject (s : State) (port prio : Nat) (b : Bytes) : State :=
  s.modNet port fun x => { x with inbox := x.inbox ++ [{ bytes := b, port := port, prio := prio, seq := x.seq, reinjected := true }], seq := x.seq + 1 }

/-- Core 2 takes a fragment (R368): at most 1,024 datagrams of at most 65,535 bytes; a whole one is reinjected. One of a datagram that timed out is late, unless it begins a datagram again (R68; DEDUCED, log 76). -/
def State.reassemble (s : State) (p : Pkt) : State :=
  let (off, _, pay) := fragPart p.bytes
  let known := s.mrv.frags.any fun f => f.key = fragKey p.bytes
  if s.mrv.lateFrags.contains (fragKey p.bytes) ∧ off ≠ 0 then s.lateDiscarded
  else if (¬ known ∧ 1024 ≤ s.mrv.frags.length) ∨ 65535 < off + pay.length + 20 then
    (s.modMrv fun m => { m with slowDrop := satInc m.slowDrop }).mrvEvent 1
  else
    let s := s.modMrv fun m => { m with slow := satInc m.slow, frags := addFrag m.frags p, lateFrags := m.lateFrags.filter (· ≠ fragKey p.bytes) }
    match s.mrv.frags.find? fun f => f.key = fragKey p.bytes with
    | none => s
    | some f =>
      match f.whole with
      | none => s
      | some d =>
        (s.modMrv fun m => { m with frags := m.frags.filter fun g => g.key ≠ f.key }).reinject f.port f.prio (fragHead f.head d.length ++ d)

/-- An odd case goes to slow_path_dest; core 2 reassembles fragments; one that was reinjected is dropped and counted (R357, R368). -/
def State.oddCase (s : State) (p : Pkt) : State :=
  let d := s.netKey 0xD 2
  if p.reinjected then (s.modMrv fun m => { m with slowDrop := satInc m.slowDrop }).mrvEvent 1
  else if d = 2 ∧ isFragment p.bytes then s.reassemble p
  else s.slowPath d p none

end Sys2Proof.Machine
end

