-- ==== Sys2Proof/Machine/TmOps.lean ====
section
/-! DEFINITION. The scheduling tree, shapers, policers and leaf queues of the traffic manager (spec/14_traffic_manager.md). -/

namespace Sys2Proof.Machine

open Sys2Proof

/-! ## The tree (R379, R395) -/

/-- Runtime keys of class, tenant and port nodes; a leaf's key is its number. -/
def classKey (c : Nat) : Nat := 0x10000 + c
def tenantKey (t : Nat) : Nat := 0x11000 + t
def portKey (p : Nat) : Nat := 0x12000 + p

/-- Changes the traffic manager. -/
def State.modTm (s : State) (f : Tm → Tm) : State := { s with tm := f s.tm }

/-- Latches an event (TM_EVENTS). -/
def State.tmEvent (s : State) (i : Nat) : State := s.modTm fun t => { t with events := latch t.events i }

/-- The node record of a device node under a parent: priority 0, weight 1, unshaped. -/
def deviceNode (parent cells : Nat) : Bytes :=
  natLe parent 2 ++ [16, 0, 1, 1, 0xFF, 0] ++ zeros 12 ++ natLe cells 4 ++ natLe cells 4 ++ [0xFF, 0xFF, 0, 0]

/-- egress_cells. -/
def State.egressCells (s : State) : Nat := s.netKey 0xC 262144

/-- The leaf block that holds a leaf. -/
def State.leafBlock (s : State) (l : Nat) : Option Bytes :=
  (List.find? (fun (b : Nat × Bytes) => decide (fieldAt b.2 0 4 ≤ l ∧ l < fieldAt b.2 0 4 + fieldAt b.2 4 4))
    (Profile.keyed s.boot.profile 7 0x4000 4096)).map fun b => b.2.drop 8

/-- The valid record of a node by its key: the device's nodes, else the profile's. -/
def State.node (s : State) (k : Nat) : Option Bytes :=
  let own := fun (p parent : Nat) => if p < s.netPorts then some (deviceNode parent s.egressCells) else none
  let r :=
    if k < 0x10000 then
      if 65280 ≤ k then own ((k - 65280) / 8) (4064 + (k - 65280) / 8) else s.leafBlock k
    else if k < 0x11000 then
      let c := k - 0x10000
      if 4064 ≤ c then own (c - 4064) (480 + (c - 4064)) else Profile.value? s.boot.profile 7 0 (0x2000 + c)
    else
      let t := k - 0x11000
      if 480 ≤ t then own (t - 480) (t - 480) else if t < 480 then Profile.value? s.boot.profile 7 0 (0x1000 + t) else none
  r.filter fun b => fieldAt b 5 1 % 2 = 1

/-- Fields of a node record. -/
def nodeParent (b : Bytes) : Nat := fieldAt b 0 2
def nodePrio (b : Bytes) : Nat := fieldAt b 3 1 % 8
def nodeWeight (b : Bytes) : Nat := max 1 (fieldAt b 4 1)
def nodeNoDrop (b : Bytes) : Bool := decide (fieldAt b 5 1 / 2 % 2 = 1)
def nodeEcn (b : Bytes) : Bool := decide (fieldAt b 5 1 / 4 % 2 = 1)
def nodePfc (b : Bytes) : Nat := fieldAt b 6 1
def nodeBurst (b : Bytes) : Nat := fieldAt b 0xC 4
def nodeDebt (b : Bytes) : Nat := fieldAt b 0x10 4
def nodeMaxCells (b : Bytes) : Nat := fieldAt b 0x14 4
def nodeEcnCells (b : Bytes) : Nat := fieldAt b 0x18 4
def nodePolicer (b : Bytes) : Nat := fieldAt b 0x1C 2

/-- The key of a node's parent. -/
def parentKey (k : Nat) (b : Bytes) : Nat :=
  if k < 0x10000 then classKey (nodeParent b) else if k < 0x11000 then tenantKey (nodeParent b) else portKey (nodeParent b)

/-- The class, tenant and port nodes above a leaf, with their records; none where a node on the path is not valid. -/
def State.path (s : State) (l : Nat) : Option (Nat × Nat × Nat) :=
  match s.node l with
  | none => none
  | some b =>
    match s.node (parentKey l b) with
    | none => none
    | some c =>
      match s.node (parentKey (parentKey l b) c) with
      | none => none
      | some t => if nodeParent t < s.netPorts then some (nodeParent b, nodeParent c, nodeParent t) else none

/-- The tenant of a leaf: its tenant node's; 16 the device. -/
def State.leafTenant (s : State) (l : Nat) : Option Nat :=
  match s.path l with
  | none => none
  | some (_, t, _) => if 480 ≤ t then some 16 else (s.node (tenantKey t)).map fun b => fieldAt b 2 1

/-- The rate in force of a node in Mb/s; a class node's runtime rate is setting 3 of its tenant (R388). -/
def State.nodeRate (s : State) (k : Nat) : Nat :=
  match s.node k with
  | none => 0
  | some b =>
    if 0x10000 ≤ k ∧ k < 0x11000 then
      match (s.node (tenantKey (nodeParent b))).map fun t => fieldAt t 2 1 with
      | some t => s.settingOr t 3 (k - 0x10000) (fieldAt b 8 4)
      | none => fieldAt b 8 4
    else fieldAt b 8 4

/-! ## Charge (R381) -/

/-- port_overhead of a port, signed. -/
def State.portOverhead (s : State) (p : Nat) : Int :=
  let n := s.prof 7 0 (0x20 + p) 20
  if 2 ^ 31 ≤ n then (n : Int) - 2 ^ 32 else n

/-- The charge of a frame: its length through FCS after ESP, and the overhead of its port. -/
def State.charge (s : State) (p : Nat) (f : TxFrame) : Nat :=
  let grow := match f.sa.bind s.mrv.saOut.find? with | some sa => espGrowth sa f.bytes | none => 0
  (((f.bytes.length + 4 + grow : Nat) : Int) + s.portOverhead p).toNat

/-! ## Shapers (R386) -/

/-- A node's runtime state. -/
def State.tmNode (s : State) (k : Nat) : TmNode := s.tm.nodes.getD k {}

/-- Changes a node's runtime state. -/
def State.modNode (s : State) (k : Nat) (f : TmNode → TmNode) : State := s.modTm fun t => { t with nodes := t.nodes.upd k {} f }

/-- A frame of a charge may leave through a node: unshaped, or the level less the charge stays at or above −max_debt. -/
def State.shaperOk (s : State) (k charge : Nat) : Bool :=
  match s.node k with
  | none => false
  | some b => decide (s.nodeRate k = 0) || decide (-(nodeDebt b : Int) ≤ (s.tmNode k).level - charge)

/-- A node's level after `us` µs of tally: rate ÷ 8,000 bytes per µs, up to burst. -/
def TmNode.refill (n : TmNode) (rate burst us : Nat) : TmNode :=
  let f := n.frac + rate * us
  if (burst : Int) ≤ n.level + (f / 8000 : Nat) then { n with level := burst, frac := 0 }
  else { n with level := n.level + (f / 8000 : Nat), frac := f % 8000 }

/-- The keys of every valid node of levels 1 to 3. -/
def State.nodeKeys (s : State) : List Nat :=
  ((Profile.keyed s.boot.profile 7 0x1000 480).map fun x => tenantKey x.1) ++ ((Profile.keyed s.boot.profile 7 0x2000 4064).map fun x => classKey x.1) ++
    (Profile.keyed s.boot.profile 7 0x4000 4096).flatMap fun x => seqFrom (fieldAt x.2 0 4) (fieldAt x.2 4 4)

/-- Every shaped node's level rises. -/
def State.refillAll (s : State) (us : Nat) : State :=
  s.nodeKeys.foldl (fun s k =>
    match s.node k with
    | some b => if s.nodeRate k = 0 then s else s.modNode k fun n => n.refill (s.nodeRate k) (nodeBurst b) us
    | none => s) s

/-! ## Eligibility and weighted fair queueing (R382, R383) -/

/-- A leaf queue. -/
def State.leaf (s : State) (l : Nat) : Leaf := s.tm.leaves.getD l {}

/-- Changes a leaf queue. -/
def State.modLeaf (s : State) (l : Nat) (f : Leaf → Leaf) : State := s.modTm fun t => { t with leaves := t.leaves.upd l {} f }

/-- Leaves that hold a frame. -/
def State.activeLeaves (s : State) : List Nat := (s.tm.leaves.filter fun x => x.2.frames ≠ []).map (·.1)

/-- A list without repeats. -/
def dedup : List Nat → List Nat
  | [] => []
  | a :: r => if r.contains a then dedup r else a :: dedup r

/-- The children that may matter below a node: leaves with frames, and the nodes above them. -/
def State.kids (s : State) (k : Nat) : List Nat :=
  let ps := s.activeLeaves.filterMap fun l => (s.path l).map fun p => (l, p)
  if k < 0x11000 then (ps.filter fun x => classKey x.2.1 = k).map (·.1)
  else if k < 0x12000 then dedup ((ps.filter fun x => tenantKey x.2.2.1 = k).map fun x => classKey x.2.1)
  else dedup ((ps.filter fun x => portKey x.2.2.2 = k).map fun x => tenantKey x.2.2.1)

/-- The virtual time's key of a priority group. -/
def groupKey (parent prio : Nat) : Nat := parent * 8 + prio

/-- The virtual time of a priority group. -/
def State.vtime (s : State) (g : Nat) : Nat := s.tm.vtime.getD g 0

/-- The 48-bit tag space. -/
def tagMod : Nat := 2 ^ 48

/-- The later of two tags modulo 2^48. -/
def laterTag (a b : Nat) : Nat := if (b + tagMod - a) % tagMod < 2 ^ 47 then b else a

/-- The best of the eligible children: lowest priority value, then smallest finish, then lowest index (R382, R383). -/
def State.best (s : State) (parent : Nat) : List Nat → Option (Nat × Nat × Nat)
  | [] => none
  | c :: r =>
    let rest := s.best parent r
    if ¬ (s.tmNode c).eligible then rest
    else
      let pr := ((s.node c).map nodePrio).getD 0
      let d := ((s.tmNode c).finish + tagMod - s.vtime (groupKey parent pr)) % tagMod
      match rest with
      | none => some (pr, d, c)
      | some (pr', d', c') => if pr < pr' ∨ (pr = pr' ∧ (d < d' ∨ (d = d' ∧ c < c'))) then some (pr, d, c) else rest

/-- The child a node selects. -/
def State.selects (s : State) (k : Nat) : Option Nat := (s.best k (s.kids k)).map fun x => x.2.2

/-- The leaf a node of level 1 to 3 would serve, at most `n` levels down. -/
def State.headLeaf (s : State) : Nat → Nat → Option Nat
  | 0, _ => none
  | n + 1, k => if k < 0x10000 then some k else match s.selects k with | some c => s.headLeaf n c | none => none

/-- The charge of the frame a node would send. -/
def State.headCharge (s : State) (k : Nat) : Option Nat :=
  match s.headLeaf 4 k with
  | none => none
  | some l =>
    match (s.leaf l).frames, s.path l with
    | f :: _, some (_, _, p) => some (s.charge p f)
    | _, _ => none

/-- A leaf is paused by its port's peer (R389). -/
def State.leafPaused (s : State) (l : Nat) : Bool :=
  match s.node l, s.path l with
  | some b, some (_, _, p) => (s.netPort p).paused.contains (nodePfc b)
  | _, _ => false

/-- Sets a node's eligibility: tags move when it becomes eligible, and, of a node just served, when it stays so (R383). -/
def State.setEligible (s : State) (served : List Nat) (k : Nat) : State :=
  match s.node k with
  | none => s.modNode k fun n => { n with eligible := false }
  | some b =>
    match s.headCharge k with
    | none => s.modNode k fun n => { n with eligible := false }
    | some ch =>
      if ¬ s.shaperOk k ch ∨ s.leafPaused k then s.modNode k fun n => { n with eligible := false }
      else
        let add := ch * 65536 / nodeWeight b
        if ¬ (s.tmNode k).eligible then
          let st := laterTag (s.vtime (groupKey (parentKey k b) (nodePrio b))) (s.tmNode k).finish
          s.modNode k fun n => { n with eligible := true, start := st, finish := (st + add) % tagMod }
        else if served.contains k then s.modNode k fun n => { n with finish := (n.start + add) % tagMod }
        else s

/-- Evaluates the eligibility of every node a frame or a tag could have changed, leaves first. -/
def State.refresh (s : State) (served : List Nat) : State :=
  let ls := s.activeLeaves
  let ps := ls.filterMap s.path
  let keys := dedup (ls ++ ((s.tm.nodes.filter fun x => decide (x.1 < 0x10000) && x.2.eligible).map (·.1))) ++
    dedup (ps.map (fun p => classKey p.1) ++ ((s.tm.nodes.filter fun x => decide (0x10000 ≤ x.1 ∧ x.1 < 0x11000) && x.2.eligible).map (·.1))) ++
    dedup (ps.map (fun p => tenantKey p.2.1) ++ ((s.tm.nodes.filter fun x => decide (0x11000 ≤ x.1) && x.2.eligible).map (·.1)))
  keys.foldl (fun s k => s.setEligible served k) s

/-! ## Policers (R391, R392) -/

/-- Input colour of a frame: 0 green, 1 yellow, 2 red. -/
def State.inColour (s : State) (b : Bytes) : Nat :=
  if 0 < tagCount b then (if fbe b 14 2 / 4096 % 2 = 1 then 1 else 0)
  else if isV4 b ∨ isV6 b then
    match Profile.value? s.boot.profile 7 0 1 with
    | some m => (m.getD (dscpOf b) 0).toNat
    | none => 0
  else 0

/-- Rewrites the traffic class byte of an IP frame; an IPv4 header checksum follows. -/
def setTos (b : Bytes) (v : Nat) : Bytes :=
  if isV4 b then putIpSum (poke b (l3Of b + 1) (natBe v 1))
  else if isV6 b then
    let w := fbe b (l3Of b) 2
    poke b (l3Of b) (natBe (w / 4096 * 4096 + v * 16 + w % 16) 2)
  else b

/-- Rewrites the DSCP unless the new value is 0xFF. -/
def setDscp (b : Bytes) (d : Nat) : Bytes := if d = 0xFF then b else setTos b (d * 4 + tosByte b % 4)

/-- Buckets after refill at a tally; the first use finds them full. Units are 1/8,000 byte, one Mb/s for one ns. -/
def Policer.fill (p : Policer) (kind cir cbs xbs pir now : Nat) : Policer :=
  match p.last with
  | none => { p with tc := cbs * 8000, te := xbs * 8000, last := some now }
  | some t =>
    let dt := (now + 2 ^ 63 - t) % 2 ^ 63
    let tc := p.tc + cir * dt
    if kind = 2 then { p with tc := min tc (cbs * 8000), te := min (p.te + pir * dt) (xbs * 8000), last := some now }
    else { p with tc := min tc (cbs * 8000), te := min (p.te + (tc - cbs * 8000)) (xbs * 8000), last := some now }

/-- The colour of a frame of `b` (1/8,000 bytes) and the buckets after it; `i` is the input colour, 0 where colour-blind. -/
def Policer.colour (p : Policer) (kind b i : Nat) : Nat × Policer :=
  if kind = 2 then
    if p.te < b ∨ i = 2 then (2, p)
    else if p.tc < b ∨ i = 1 then (1, { p with te := p.te - b })
    else (0, { p with te := p.te - b, tc := p.tc - b })
  else if i = 2 then (2, p)
  else if i = 0 ∧ b ≤ p.tc then (0, { p with tc := p.tc - b })
  else if b ≤ p.te then (1, { p with te := p.te - b })
  else (2, p)

/-- Counts a colour. -/
def Policer.count (p : Policer) (c : Nat) : Policer :=
  if c = 0 then { p with green := satInc p.green } else if c = 1 then { p with yellow := satInc p.yellow } else { p with red := satInc p.red }

/-- The traffic manager's tally in ns. -/
def State.tmTally (s : State) : Nat := s.tal.ns.getD 0x52 0 % 2 ^ 63

/-- What a policer record makes of a frame of a colour: passed, perhaps rewritten, or dropped; red not dropped is treated as yellow with red_dscp. -/
def policed (r b : Bytes) (colour : Nat) : Option Bytes :=
  let f := fieldAt r 1 1
  if colour = 0 then some b
  else if colour = 2 ∧ f / 2 % 2 = 1 then none
  else if f / 4 % 2 = 1 then none
  else some (setDscp b (fieldAt r (if colour = 2 then 3 else 2) 1))

/-- Meters a frame of a charge; the frame as it goes on, or none where it is dropped. -/
def State.meter (s : State) (i charge : Nat) (b : Bytes) : State × Option Bytes :=
  match Profile.value? s.boot.profile 7 0 (0x3000 + i) with
  | none => (s, some b)
  | some r =>
    let kind := fieldAt r 0 1
    let p := (s.tm.policers.getD i {}).fill kind (fieldAt r 4 4) (fieldAt r 8 4) (fieldAt r 0xC 4) (fieldAt r 0x10 4) s.tmTally
    let (c, p) := p.colour kind (charge * 8000) (if fieldAt r 1 1 % 2 = 1 then s.inColour b else 0)
    (s.modTm fun t => { t with policers := t.policers.put i (p.count c) }, policed r b c)

/-! ## Leaf queues (R389, R390, R393) -/

/-- Cells of a leaf queue. -/
def Leaf.cells (l : Leaf) : Nat := (l.frames.map fun f => cellsOf f.bytes).sum

/-- Egress cells in use. -/
def State.poolUse (s : State) : Nat := (s.tm.leaves.map fun l => l.2.cells).sum

/-- A leaf queue drops a frame; the pool counts it where it had no room. -/
def State.leafDrop (s : State) (l : Nat) (pool : Bool) : State :=
  let s := (s.modLeaf l fun x => { x with drops := satInc x.drops }).tmEvent 0
  if pool then (s.modTm fun t => { t with poolDrops := satInc t.poolDrops }).tmEvent 1 else s

/-- What became of a frame offered to a leaf queue. -/
inductive Offer where
  | placed
  | dropped
  | held
deriving DecidableEq, Repr

/-- Marks an ECN-capable frame CE where the queue is at or above ecn_cells. -/
def ecnMark (r b : Bytes) (use : Nat) : Bytes × Bool :=
  if nodeEcn r ∧ nodeEcnCells r ≤ use ∧ (isV4 b ∨ isV6 b) ∧ (tosByte b % 4 = 1 ∨ tosByte b % 4 = 2) then (setTos b (tosByte b / 4 * 4 + 3), true)
  else (b, false)

/-- A frame is offered to a leaf queue by a tenant (R380, R390): foreign, held, metered, dropped or placed and marked. -/
def State.offer (s : State) (l : Nat) (f : TxFrame) : State × Offer :=
  match s.node l, s.path l with
  | some r, some (_, _, p) =>
    if s.leafTenant l ≠ some f.tenant then ((s.modTm fun t => { t with foreignDrops := satInc t.foreignDrops }).tmEvent 2, .dropped)
    else
      let use := (s.leaf l).cells
      let n := cellsOf f.bytes
      let room := decide (s.poolUse + n ≤ s.egressCells)
      if nodeNoDrop r ∧ (nodeMaxCells r < use + n ∨ ¬ room) then
        ((s.modLeaf l fun x => { x with sourceHeld := true }).tmEvent 4, .held)
      else
        let (s, m) := if nodePolicer r < 4096 then s.meter (nodePolicer r) (s.charge p f) f.bytes else (s, some f.bytes)
        match m with
        | none => (s, .dropped)
        | some b =>
          if nodeMaxCells r < use + n ∨ ¬ room then (s.leafDrop l (!room), .dropped)
          else
            let (b, ce) := ecnMark r b use
            let s := s.modLeaf l fun x =>
              { x with frames := x.frames ++ [{ f with bytes := b, stamp := s.tmTally }], hwmCells := max x.hwmCells (use + n),
                       ecn := if ce then satInc x.ecn else x.ecn }
            let s := s.modTm fun t => { t with poolHwm := max t.poolHwm s.poolUse }
            (s.refresh [], .placed)
  | _, _ => ((s.modTm fun t => { t with foreignDrops := satInc t.foreignDrops }).tmEvent 2, .dropped)

/-- A peer pauses or releases priorities of a port: quanta 0 ends a pause at once (R389). -/
def State.pfcReceived (s : State) (port enable : Nat) (quanta : List Nat) : State :=
  let s := s.modNet port fun p =>
    { p with
      pfcRx := satInc p.pfcRx
      paused := (seqFrom 0 8).filter fun q => if enable / 2 ^ q % 2 = 1 then quanta.getD q 0 ≠ 0 else p.paused.contains q }
  s.refresh []

/-- Frames of a tenant's packet rings leave the leaf queues after its function's reset, counted as drops (R394). -/
def State.dropRingFrames (s : State) (n : Nat) : State :=
  let s := s.tm.leaves.foldl (fun s x =>
    let gone := (x.2.frames.filter fun f => f.ofRing && decide (f.tenant = n)).length
    if gone = 0 then s
    else (s.modLeaf x.1 fun y => { y with frames := y.frames.filter (fun f => !(f.ofRing && decide (f.tenant = n))), drops := satAdd y.drops gone,
                                          sourceHeld := false }).tmEvent 0) s
  s.refresh []

/-- An uncorrectable error of a queue's state flushes the queue, its frames counted as drops (R93, R390). -/
def State.flushLeaf (s : State) (l : Nat) : State :=
  ((s.modLeaf l fun x => { x with frames := [], drops := satAdd x.drops x.frames.length, sourceHeld := false }).tmEvent 5).refresh []

/-! ## Registers (R396) -/

/-- Some node on a leaf's path holds it. -/
def State.leafHeld (s : State) (l : Nat) : Bool :=
  match (s.leaf l).frames, s.path l with
  | f :: _, some (c, t, p) => [l, classKey c, tenantKey t].any fun k => !s.shaperOk k (s.charge p f)
  | _, _ => false

/-- The value of a TM_ register; the RC marks are read without the clear. -/
def State.tmRead (s : State) (off : Nat) : Option Nat :=
  let q := s.leaf s.tm.qSel
  let pol := s.tm.policers.getD s.tm.polSel {}
  match off with
  | 0x00 => some (b2n (decide (s.egressCells ≤ s.poolUse)) +
      256 * ((seqFrom 0 8).map fun i => b2n (s.net.ports.any fun p => p.2.paused.contains i) * 2 ^ i).sum)
  | 0x04 => some s.tm.events.toNat
  | 0x08 => some s.poolUse
  | 0x0C => some s.tm.poolHwm
  | 0x10 => some s.tm.poolDrops
  | 0x14 => some s.tm.foreignDrops
  | 0x20 => some s.tm.qSel
  | 0x24 => some (pack [(0, q.cells), (19, b2n (s.leafHeld s.tm.qSel)), (20, b2n (s.leafPaused s.tm.qSel)), (21, b2n q.sourceHeld)])
  | 0x28 => some q.hwmCells
  | 0x2C => some (min q.hwmSojourn (2 ^ 32 - 1))
  | 0x30 => some q.drops
  | 0x34 => some q.ecn
  | 0x40 => some s.tm.nodeSel
  | 0x44 => some ((s.tmNode s.tm.nodeSel).level % 2 ^ 32).toNat
  | 0x48 => some (s.nodeRate s.tm.nodeSel)
  | 0x50 => some s.tm.polSel
  | 0x54 => some pol.green
  | 0x58 => some pol.yellow
  | 0x5C => some pol.red
  | _ => none

/-- Clears the high-water mark a read has returned (R70, R393). -/
def State.hwmClear (s : State) (off : Nat) : State :=
  match off with
  | 0x0C => s.modTm fun t => { t with poolHwm := 0 }
  | 0x28 => s.modLeaf s.tm.qSel fun x => { x with hwmCells := 0 }
  | 0x2C => s.modLeaf s.tm.qSel fun x => { x with hwmSojourn := 0 }
  | _ => s

/-- A write of a TM_ register; RSV bits not written as 0 are counted (R14). -/
def State.tmWrite (s : State) (off : Nat) (v : W32) : State :=
  let rsv := fun (s : State) (b : Bool) => (s.modTm fun t => { t with faultCount := t.faultCount + b2n b }).rsvNote b 0xA off v
  match off with
  | 0x04 => rsv (s.modTm fun t => { t with events := w1c t.events v }) (decide (field v 6 26 ≠ 0))
  | 0x20 => rsv (s.modTm fun t => { t with qSel := field v 0 16 }) (decide (field v 16 16 ≠ 0))
  | 0x40 => rsv (s.modTm fun t => { t with nodeSel := field v 0 17 }) (decide (field v 17 15 ≠ 0))
  | 0x50 => rsv (s.modTm fun t => { t with polSel := field v 0 12 }) (decide (field v 12 20 ≠ 0))
  | _ => s

end Sys2Proof.Machine
end

