-- ==== Sys2Proof/Machine/ProfileChecks.lean ====
section
/-! DEFINITION. The checks of R51 on the records of the network, traffic, remote memory, security and open-core sections (spec/13 R359 to R363, R373, R376; spec/14 R379, R380, R386, R395; spec/15 R400, R418, R421; spec/16 R431, R455; spec/17 R469, R471). -/

namespace Sys2Proof.Machine

open Sys2Proof

/-- Every byte of a range is zero. -/
def zeroAt (b : Bytes) (off n : Nat) : Bool := (slice b off n).all (· = 0)

/-- A template record (R359). -/
def templateOk (b : Bytes) : Bool :=
  let lens := (seqFrom 0 8).map fun i => fieldAt b (0x12 + 4 * i) 1
  decide (fieldAt b 0 1 < 8) && (decide (fieldAt b 1 1 ≤ 2) || decide (fieldAt b 1 1 = 0xFF)) && decide (fieldAt b 0xA 2 ≤ 1024) &&
    lens.all (fun n => decide (n ≤ 16)) && decide (lens.sum ≤ 64) && ((seqFrom 0 8).all fun i => zeroAt b (0x13 + 4 * i) 1) && zeroAt b 0x30 16

/-- A pattern record (R361). -/
def patternOk (b : Bytes) : Bool :=
  let n := fieldAt b 0 1
  decide (n ≤ 32) && decide (fieldAt b 1 1 ≤ 63) && decide (fieldAt b 2 1 ≤ 1) && zeroAt b 3 1 && zeroAt b (4 + n) (36 - n)

/-- A class record (R362, R376): its tenant is enabled, and a ring or open core it names belongs to that tenant. -/
def State.classOk (t : State) (b : Bytes) : Bool :=
  let d := fieldAt b 2 1; let n := fieldAt b 3 1; let r := fieldAt b 0x18 2
  decide (fieldAt b 0 1 < 4) && (decide (fieldAt b 1 1 ≤ 63) || decide (fieldAt b 1 1 = 0xFF)) && decide (d ≤ 6) && t.tenantOn n && zeroAt b 0x1A 6 &&
    (if d = 2 then (t.ringRec r).any (fun x => decide (ringTenant x = n)) else decide (r = 0)) &&
    (decide (d ≠ 4) || decide (t.prof 0xC 0 3 0 = n)) && (decide (d ≠ 5) || decide (t.prof 0xC 0 4 0 = n))

/-- A ring record (R373, R380). -/
def State.ringOk (t : State) (b : Bytes) : Bool :=
  t.tenantOn (ringTenant b) && decide (fieldAt b 1 1 ≤ 1) && decide (11 ≤ fieldAt b 2 1 ∧ fieldAt b 2 1 ≤ 14) && decide (t.maxFrame + 32 ≤ ringSlot b) &&
    decide (4 ≤ fieldAt b 3 1 ∧ fieldAt b 3 1 ≤ 16) && decide (ringSync b < 4096) && zeroAt b 7 1 && zeroAt b 0x1C 4 &&
    decide (ringBase b % 4096 = 0) && decide (ringIndex b % 8 = 0) &&
    (!ringTx b || (decide (fieldAt b 6 1 < t.netPorts) && decide (t.leafTenant (ringLeaf b) = some (ringTenant b))))

/-- A node record (R386, R395); `leaf` for a leaf block's. -/
def State.nodeOk (t : State) (leaf : Bool) (b : Bytes) : Bool :=
  decide (fieldAt b 3 1 ≤ 7) && decide (fieldAt b 4 1 ≠ 0) && decide (fieldAt b 5 1 < 8) && zeroAt b 7 1 && zeroAt b 0x1E 2 &&
    decide (fieldAt b 8 4 ≤ 1600000) && decide (nodeBurst b ≤ 2 ^ 24) && decide (nodeDebt b ≤ 2 ^ 24) && decide (t.maxFrame + 64 ≤ nodeDebt b) &&
    (!leaf || (decide (1 ≤ nodeMaxCells b ∧ nodeMaxCells b ≤ t.egressCells) && decide (1 ≤ nodeEcnCells b ∧ nodeEcnCells b ≤ nodeMaxCells b) &&
      (decide (nodePfc b ≤ 7) || decide (nodePfc b = 0xFF)) && (decide (nodePolicer b < 4096) || decide (nodePolicer b = 0xFFFF))))

/-- A policer record (R392, R395). -/
def policerOk (b : Bytes) : Bool :=
  let k := fieldAt b 0 1
  let dscp := fun (i : Nat) => decide (fieldAt b i 1 ≤ 63) || decide (fieldAt b i 1 = 0xFF)
  (decide (k = 1) || (decide (k = 2) && decide (fieldAt b 4 4 ≤ fieldAt b 0x10 4))) && decide (fieldAt b 1 1 < 8) && dscp 2 && dscp 3 && zeroAt b 0x14 12

/-- A valid node's parent is valid and, below level 1, of a tenant (R379, R395). -/
def State.parentOk (t : State) (k : Nat) (b : Bytes) : Bool :=
  fieldAt b 5 1 % 2 = 0 || (if 0x11000 ≤ k then decide (nodeParent b < t.netPorts) && t.tenantOn (fieldAt b 2 1)
    else (t.node (parentKey k b)).isSome && decide (if k < 0x10000 then nodeParent b < 4064 else nodeParent b < 480))

/-- Two leaf blocks share a leaf. -/
def blocksMeet (a b : Bytes) : Bool :=
  decide (fieldAt a 0 4 < fieldAt b 0 4 + fieldAt b 4 4 ∧ fieldAt b 0 4 < fieldAt a 0 4 + fieldAt a 4 4)

/-- No two leaf blocks define one leaf queue (R395). -/
def blocksApart : List Bytes → Bool
  | [] => true
  | a :: r => !(r.any fun b => blocksMeet a b) && blocksApart r

/-- A control ring of a tenant (R421). -/
def ctlRingOk (v : Bytes) : Bool :=
  decide (4 ≤ fieldAt v 0x10 1 ∧ fieldAt v 0x10 1 ≤ 12) && zeroAt v 0x11 1 && decide (fieldAt v 0x12 2 < 4096) && zeroAt v 0x14 4

/-- A remote target entry (R418). -/
def targetOk (v : Bytes) : Bool :=
  decide (1 ≤ fieldAt v 0 1 ∧ fieldAt v 0 1 ≤ 3) && decide (fieldAt v 1 1 ≤ 15) && zeroAt v 3 1 && zeroAt v 0x2C 4 && zeroAt v 0x38 8

/-- Every record of a keyed range passes a check. -/
def allKeyed (p : Bytes) (typ lo n : Nat) (f : Nat → Bytes → Bool) : Bool := (Profile.keyed p typ lo n).all fun r => f r.1 r.2

/-- The checks of the records whose layouts stand in the later chapters. -/
def State.recordExtra (s : State) (p : Bytes) : Bool :=
  let t := { s with boot := { s.boot with profile := p, safe := false, unowned := false } }
  allKeyed p 6 0x1000 60 (fun _ b => templateOk b) && allKeyed p 6 0x2000 4096 (fun _ b => patternOk b) &&
    allKeyed p 6 0x3000 1016 (fun _ b => t.classOk b) && allKeyed p 6 0x4000 256 (fun _ b => t.ringOk b) &&
    allKeyed p 6 0xE 1 (fun _ b => b.all fun x => decide (x.toNat ≤ 7)) &&
    allKeyed p 7 1 1 (fun _ b => b.all fun x => decide (x.toNat ≤ 2)) &&
    allKeyed p 7 0x1000 480 (fun i b => t.nodeOk false b && t.parentOk (tenantKey i) b) &&
    allKeyed p 7 0x2000 4064 (fun i b => t.nodeOk false b && t.parentOk (classKey i) b) &&
    allKeyed p 7 0x3000 4096 (fun _ b => policerOk b) &&
    allKeyed p 7 0x4000 4096 (fun _ b => t.nodeOk true (b.drop 8) && t.parentOk 0 (b.drop 8) && decide (fieldAt b 0 4 + fieldAt b 4 4 ≤ 65280)) &&
    blocksApart ((Profile.keyed p 7 0x4000 4096).map (·.2)) &&
    allKeyed p 9 0x140 16 (fun _ v => ctlRingOk v) && allKeyed p 9 0x200 16 (fun _ v => decide (v.length % 16 = 0)) &&
    allKeyed p 9 0x1000 256 (fun _ v => targetOk v) &&
    allKeyed p 0xB 0x100 16 (fun _ v => match s.kOwner with | some k => (keyUnwrap k v).isSome | none => false) &&
    allKeyed p 0xC 1 2 (fun _ v => openImageOk v)

end Sys2Proof.Machine
end

