-- ==== Sys2Proof/Machine/Legs.lean ====
section
/-! DEFINITION. The onward legs of an epoch: their layout, their progress and their failure, and the parison panes they free (spec/08 R221, R227). -/

namespace Sys2Proof.Machine

open Sys2Proof

/-- Changes the epoch in flight. -/
def State.modEpoch (s : State) (f : Epoch → Epoch) : State := s.modLeh fun l => { l with cur := l.cur.map f }

/-- Parison slots in use. -/
def Lehr.slotsUsed (l : Lehr) : List Nat := (match l.cur with | some e => e.copies.map (·.2) | none => []) ++ l.kept.map (·.2.2)

/-- A segment starts on a 4 KiB boundary of an epoch area, after the area header; the manifest follows the segments (R227). -/
def segOffset (i : Nat) : Nat := 0x1000 + i * 0x4001000

/-- The 4 KiB header of an epoch area: state 1 writing, 2 complete (R227). -/
def areaHeader (epoch state moff mlen : Nat) : Bytes :=
  ascii "RDRA" ++ natLe epoch 8 ++ natLe state 4 ++ natLe moff 8 ++ natLe mlen 8 ++ zeros 4064

/-- Parison panes are freed whose segment every buddy has acknowledged and every onward leg of its epoch has written (R221). -/
def State.freeParison (s : State) : State :=
  let bs := s.buddies
  let needed := fun (e : Epoch) (i : Nat) => !(bs.all fun b => e.acked.contains (i, b)) || e.legs.any fun g => !(g.written.contains i)
  let t := (s.modEpoch fun e => { e with copies := e.copies.filter fun c => needed e (c.1 / 1024) }).modLeh fun l =>
    { l with kept := l.kept.filter fun k => l.legs.any fun g => g.1 = k.1 && !(g.2.written.contains (k.2.1 / 1024)) }
  if t.leh.slotsUsed = s.leh.slotsUsed then t else { t with fab := { t.fab with parisonShort := false } }

/-- The onward leg of a kind of an epoch, in flight or committed. -/
def Lehr.leg? (l : Lehr) (epoch kind : Nat) : Option Leg :=
  (l.cur.bind fun e => if e.num = epoch then e.legs.find? fun (g : Leg) => decide (g.kind = kind) else none).or
    ((l.legs.find? fun (g : Nat × Leg) => decide (g.1 = epoch ∧ g.2.kind = kind)).map (·.2))

/-- The onward legs of a kind of an epoch, in flight or committed, change, or end. -/
def State.modLegs (s : State) (epoch kind : Nat) (f : Leg → Option Leg) : State :=
  let g : Leg → Option Leg := fun x => if x.kind = kind then f x else some x
  ((s.modEpoch fun e => if e.num = epoch then { e with legs := e.legs.filterMap g } else e).modLeh fun l =>
    { l with legs := l.legs.filterMap fun x => if x.1 = epoch then (g x.2).map fun y => (epoch, y) else some x }).freeParison

/-- A leg that failed is abandoned and logged (R227). -/
def State.legFails (s : State) (epoch : Nat) (g : Leg) : State :=
  (s.modLegs epoch g.kind fun _ => none).report { source := 0x40, severity := 1, block := 0xE, d0 := epoch, d1 := g.kind, d2 := g.target }

end Sys2Proof.Machine
end

