-- ==== Sys2Proof/Machine/StorageOps.lean ====
section
/-! DEFINITION. The storage controller: statuses, namespaces, XTS, admission, hand-over to drives and replicas, completion and entries (spec/12 R325 to R347). -/

namespace Sys2Proof.Machine

open Sys2Proof

/-! ## Records -/

/-- Changes the controller. -/
def State.modSto (s : State) (f : Storage → Storage) : State := { s with sto := f s.sto }

/-- The NVMe controller of a function, or the pairs of a port at 256 + port. -/
def State.nvCtrl (s : State) (c : Nat) : NvCtrl := s.sto.ctrls.getD c {}

/-- Changes an NVMe controller. -/
def State.modNv (s : State) (c : Nat) (f : NvCtrl → NvCtrl) : State := s.modSto fun t => { t with ctrls := t.ctrls.upd c {} f }

/-- Drive `d`. -/
def State.sdrive (s : State) (d : Nat) : Drive := s.sto.drives.getD d {}

/-- Changes a drive. -/
def State.modDrive (s : State) (d : Nat) (f : Drive → Drive) : State := s.modSto fun t => { t with drives := t.drives.upd d {} f }

/-- Latches a storage event (STO_EVENTS). -/
def State.stoEvent (s : State) (i : Nat) : State := s.modSto fun t => { t with events := latch t.events i }

/-- Latches a drive event (STO_DRIVE_EVENTS). -/
def State.driveEvent (s : State) (d i : Nat) : State := s.modDrive d fun x => { x with events := latch x.events i }

/-- A setting of the STORAGE section (R348). -/
def State.stoKey (s : State) (key dflt : Nat) : Nat := s.prof 8 0 key dflt

/-- One MiB. -/
def mib : Nat := 2 ^ 20

/-! ## Statuses (R347) -/

/-- A status field: type, code, and DNR as bit 14. -/
def nv (sct sc : Nat) (dnr : Bool := true) : Nat := sct * 256 + sc + 16384 * b2n dnr

/-- Namespace Not Ready. -/
def nvNotReady : Nat := nv 0 0x82 false

/-- A shared code as NVMe status. -/
def nvOf (code : Nat) (read : Bool) : Nat :=
  match code with
  | 0 => 0
  | 0x10 => nv 0 0x02
  | 0x11 => nv 0 0x80
  | 0x12 => nv 2 0x86
  | 0x13 => nv 0 0x81
  | 0x20 => nv 0 0x04 false
  | 0x21 => nv 0 0x07 false
  | 0x22 => nv 0 0x21 false
  | _ => if read then nv 2 0x81 else nv 2 0x80

/-! ## Addresses (R327, R328) -/

/-- The function whose gate and tenant a controller's transfers pass. -/
def nvFn (c : Nat) : Nat := if c < 16 then c else 0

/-- The contract address of a queue or PRP address. -/
def nvAddr (c a : Nat) : Nat := if c < 16 then 2 ^ 60 + a % 2 ^ 57 else 2 * 2 ^ 60 + (c - 256) * 2 ^ 56 + a % 2 ^ 56

/-- Owner of a queue's reads. -/
def nvOwner (c q : Nat) : Owner := .unit (0x100000 + c * 256 + q)

/-- An address that the space of a controller's transfers cannot name: DEDUCED (log 80), one of 2^57 or more on the host link fails as one outside an aperture does (R110, R327, R328). -/
def nvOut (c a : Nat) : Bool := decide ((if c < 16 then 2 ^ 57 else 2 ^ 56) ≤ a)

/-- A read of host or accelerator memory; outside an aperture it fails with Data Transfer Error. -/
def State.nvRead (s : State) (c q a n : Nat) : Rd :=
  if nvOut c a then .fail 0x20 else
  match s.readC (nvOwner c q) (nvFn c) (nvAddr c a) n with
  | .fail 0x11 => .fail 0x20
  | x => x

/-- A write of host or accelerator memory, of data or of what reports it: the state and a shared code. -/
def State.nvWrite (s : State) (c a : Nat) (bs : Bytes) (rep : Bool := false) : State × Nat :=
  if nvOut c a then (s, 0x20) else
  match s.writeC (nvFn c) (nvAddr c a) bs rep with
  | .ok (s, _) => (s, 0)
  | .error e => (s, if e = 0x11 then 0x20 else e)

/-! ## Completion entries (R326, R336) -/

/-- The 16 bytes of an entry. -/
def cqeBytes (e : NvEntry) (sqHead : Nat) (phase : Bool) : Bytes :=
  natLe e.dw0 4 ++ zeros 4 ++ natLe sqHead 2 ++ natLe e.sq 2 ++ natLe e.cid 2 ++ natLe (b2n phase + 2 * e.status) 2

/-- Writes an entry into the queue's completion queue, where it has room. -/
def State.postEntry (s : State) (c : Nat) (e : NvEntry) : Option State :=
  let k := s.nvCtrl c
  match k.sqs.find? e.sq with
  | none => some s
  | some sq =>
    match k.cqs.find? sq.cq with
    | none => some s
    | some cq =>
      if (cq.tail + 1) % cq.size = cq.head then none
      else
        let s := (s.nvWrite c (cq.base + 16 * cq.tail) (cqeBytes e sq.head cq.phase) true).1
        let t := (cq.tail + 1) % cq.size
        let cq' := { cq with tail := t, phase := if t = 0 then !cq.phase else cq.phase }
        let s := s.modNv c fun k => { k with cqs := k.cqs.put sq.cq cq' }
        some (if c < 16 then s.evalIntx c else s)

/-- Posts the entries that may be posted: each queue's in admission order, up to its first command that still runs. -/
def postEntries (c : Nat) (stuck : List Nat) : List NvEntry → State → State
  | [], s => s
  | e :: r, s =>
    if stuck.contains e.sq then postEntries c stuck r s
    else if e.cmd.isSome then postEntries c (e.sq :: stuck) r s
    else
      match s.postEntry c e with
      | none => postEntries c (e.sq :: stuck) r s
      | some s => postEntries c stuck r (s.modNv c fun k => { k with entries := k.entries.erase e })

/-- Posts what a controller can post. -/
def State.nvPost (s : State) (c : Nat) : State := postEntries c [] (s.nvCtrl c).entries s

/-- An entry joins those to post. -/
def State.nvPush (s : State) (c q cid status dw0 : Nat) : State :=
  let e : NvEntry := { sq := q, cid := cid, cmd := none, status := status, dw0 := dw0 }
  (s.modNv c fun k => { k with entries := k.entries ++ [e] }).nvPost c

/-- The fetched command of a queue is done with. -/
def State.nvDrop (s : State) (c q : Nat) : State := (s.dropArrived (nvOwner c q)).modNv c fun k => { k with fetched := k.fetched.del q }

/-- A command ends without admission: its entry keeps its place. -/
def State.nvEnd (s : State) (c q cid status : Nat) (dw0 : Nat := 0) : State := (s.nvDrop c q).nvPush c q cid status dw0

/-! ## Asynchronous events (R329, R330, R332) -/

/-- Hands events to outstanding requests. -/
def postAers (c : Nat) : Nat → State → State
  | 0, s => s
  | n + 1, s =>
    let k := s.nvCtrl c
    match k.aers, k.pendingEvents.find? fun d => !k.reported.contains (d % 8) with
    | a :: r, some d =>
      postAers c n ((s.modNv c fun k => { k with aers := r, pendingEvents := k.pendingEvents.erase d, reported := k.reported ++ [d % 8] }).nvPush c 0 a 0 d)
    | _, _ => s

/-- An asynchronous event: type, information and log page. -/
def State.nvEvent (s : State) (c typ info lid : Nat) : State :=
  let d := typ + 256 * info + 65536 * lid
  let k := s.nvCtrl c
  if k.pendingEvents.contains d ∨ ¬ k.rdy then s
  else postAers c 4 (s.modNv c fun k => { k with pendingEvents := k.pendingEvents ++ [d] })

/-- Namespace Attribute Changed on a tenant's controller (R332), where Asynchronous Event Configuration enables it. -/
def State.nsChanged (s : State) (tenant nsid : Nat) : State :=
  let s := s.modNv tenant fun k => { k with changed := if k.changed.contains nsid then k.changed else k.changed ++ [nsid] }
  if (s.nvCtrl tenant).aeConfig / 256 % 2 = 1 then s.nvEvent tenant 2 0 4 else s

/-! ## Namespaces (R331 to R334, R342) -/

/-- LBA size. -/
def Namespace.lba (n : Namespace) : Nat := if n.small then 512 else 4096

/-- The namespace of a tenant. -/
def State.space (s : State) (tenant nsid : Nat) : Option Namespace :=
  s.sto.spaces.find? fun n => decide (n.tenant = tenant ∧ n.nsid = nsid)

/-- Changes a namespace. -/
def State.modSpace (s : State) (tenant nsid : Nat) (f : Namespace → Namespace) : State :=
  s.modSto fun t => { t with spaces := t.spaces.map fun n => if n.tenant = tenant ∧ n.nsid = nsid then f n else n }

/-- NSID under which the model keeps tenant 0's replica namespace; it is visible to no host. -/
def replicaNsid : Nat := 0xFFFFFFFE

/-- MiB `k` of a list of runs. -/
def runAt : List (Nat × Nat) → Nat → Nat
  | [], _ => 0
  | (a, n) :: r, k => if k < n then a + k else runAt r (k - n)

/-- Where a byte of a namespace lies: drive and byte on it (R331: 1 MiB stripe units in drive order). -/
def Namespace.place (n : Namespace) (off : Nat) : Nat × Nat :=
  let u := off / mib
  let d := if n.striped then n.drives.getD (u % 4) 0 else n.drives.getD 0 0
  let k := if n.striped then u / 4 else u
  (d, runAt ((n.runs.filter fun r => r.1 = d).map (·.2)) k * mib + off % mib)

/-- The XTS key pair: data key and tweak key (R333). -/
def State.nsKeys (s : State) (n : Namespace) : Option (Bytes × Bytes) :=
  match s.trk n.tenant with
  | none => none
  | some k => (keyUnwrap k n.wrapped).map fun b => (b.take 32, b.drop 32)

/-- Every drive of the namespace is trained and enumerated. -/
def State.drivesUp (s : State) (n : Namespace) : Bool := n.drives.all fun d => (s.sdrive d).ready

/-- The namespace is not ready: being formatted, on a lost drive, not intact, or its keys are gone (R332, R342, R438). -/
def State.nsReady (s : State) (n : Namespace) : Bool :=
  !n.formatting && !n.broken && s.drivesUp n && (s.nsKeys n).isSome

/-- Reads go to a replica: a drive is lost and a replica is there (R342). -/
def State.fromReplica (s : State) (n : Namespace) : Bool :=
  !n.formatting && !n.broken && !s.drivesUp n && n.replicas != []

/-- Encrypts LBAs from `lba` on. -/
def xtsData (enc : Bool) (keys : Bytes × Bytes) (lba size : Nat) (data : Bytes) : Bytes :=
  ((seqFrom 0 (data.length / size)).map fun i =>
    let b := slice data (i * size) size
    if enc then xtsEncrypt keys.1 keys.2 (lba + i) b
    else if b.all (· = 0) then b else xtsDecrypt keys.1 keys.2 (lba + i) b).flatten

/-! ## Hand-over (R334, R336 to R341, R343) -/

/-- A part about to be handed: where, its opcode, its place there in 512-byte units, its bytes, and its range in the namespace. -/
structure Piece where
  drive : Nat
  op : Nat
  lba : Nat
  count : Nat
  bytes : Bytes
  off : Nat
  len : Nat
deriving DecidableEq, Repr

/-- The header of a replica message (R419). -/
def replicaHeader (op nsid lba count tag : Nat) : Bytes :=
  natLe op 1 ++ zeros 3 ++ natLe nsid 4 ++ natLe lba 8 ++ natLe count 4 ++ natLe tag 4 ++ zeros 8

/-- The NSID a remote target names at the peer. -/
def State.targetNsid (s : State) (t : Nat) : Nat := fieldAt ((Profile.value? s.boot.profile 9 0 (0x1000 + t)).getD []) 4 4

/-- Drive pieces of a byte range cut at multiples of `m`. -/
def Namespace.pieces (n : Namespace) (m off len : Nat) (f : Nat → Nat → Nat → Nat × Bytes) : List Piece :=
  (chunks m off len).map fun p =>
    let (d, b) := n.place p.1
    let (op, bs) := f d p.1 p.2
    { drive := d, op := op, lba := b / 512, count := p.2 / 512, bytes := bs, off := p.1, len := p.2 }

/-- Replica pieces of a byte range: at most 1 MiB each (R419). -/
def Namespace.copies (n : Namespace) (op off len : Nat) (f : Nat → Nat → Bytes) : List Piece :=
  n.replicas.flatMap fun t => (chunks mib off len).map fun p =>
    { drive := 256 + t, op := op, lba := p.1 / n.lba, count := p.2 / n.lba, bytes := f p.1 p.2, off := p.1, len := p.2 }

/-- A flush of each drive and replica of a namespace (R339). -/
def Namespace.flushes (n : Namespace) : List Piece :=
  (n.drives ++ n.replicas.map (256 + ·)).map fun d => { drive := d, op := if d < 256 then 0 else 2, lba := 0, count := 0, bytes := [], off := 0, len := 0 }

/-- The pieces of a command (R334, R338, R343). -/
def State.cmdPieces (s : State) (c : NvCmd) : List Piece :=
  let spaces := c.nsids.filterMap (s.space c.tenant)
  match spaces, c.ranges with
  | n :: _, (off, len) :: _ =>
    let keys := (s.nsKeys n).getD ([], [])
    if c.op = 1 ∨ c.op = 0x82 ∨ c.op = 0x83 then
      n.pieces 131072 off len (fun _ a k => (1, xtsData true keys (a / n.lba) n.lba (slice c.data (a - off) k))) ++
        n.copies 1 off len fun a k => slice c.data (a - off) k
    else if c.op = 2 then
      if s.fromReplica n then
        (chunks mib off len).map fun p =>
          { drive := 256 + n.replicas.getD 0 0, op := 3, lba := p.1 / n.lba, count := p.2 / n.lba, bytes := [], off := p.1, len := p.2 }
      else n.pieces 131072 off len fun _ _ _ => (2, [])
    else if c.op = 8 then
      n.pieces mib off len (fun d _ _ => (if c.deac ∧ (s.sdrive d).dlfeat then 0x88 else 8, [])) ++ n.copies 1 off len fun _ k => zeros k
    else if c.op = 9 then
      c.ranges.flatMap fun r =>
        n.pieces mib r.1 r.2 (fun d _ _ => (if (s.sdrive d).dlfeat then 9 else 8, [])) ++ n.copies 1 r.1 r.2 fun _ k => zeros k
    else if c.op = 0x80 then
      n.runs.map fun r =>
        { drive := r.1, op := if (s.sdrive r.1).dlfeat then 9 else 8, lba := r.2.1 * 2048, count := r.2.2 * 2048, bytes := [], off := 0, len := 0 }
    else spaces.flatMap Namespace.flushes
  | _, _ =>
    if c.op = 0x81 then
      ((seqFrom 0 4).filter fun d => (s.sdrive d).ready).map fun d => { drive := d, op := 0, lba := 0, count := 0, bytes := [], off := 0, len := 0 }
    else spaces.flatMap Namespace.flushes

/-- Changes an admitted command. -/
def State.modCmd (s : State) (id : Nat) (f : NvCmd → NvCmd) : State :=
  s.modSto fun t => { t with cmds := t.cmds.map fun c => if c.id = id then f c else c }

/-- Hands pieces out, each under a tag of its own. -/
def State.handPieces (s : State) (id : Nat) : List Piece → State
  | [] => s
  | p :: r =>
    let tag := s.sto.nextTag
    let s := s.modSto fun t => { t with nextTag := (tag + 1) % 2 ^ 32 }
    let s := if p.drive < 256 then s.emit (.drive p.drive tag p.op p.lba p.count p.bytes)
      else s.emit (.replica (p.drive - 256) (replicaHeader p.op (s.targetNsid (p.drive - 256)) p.lba p.count tag ++ p.bytes))
    let part : NvPart := { drive := p.drive, tag := tag, off := p.off, len := p.len }
    (s.modCmd id fun c => { c with parts := c.parts ++ [part] }).handPieces id r

/-- Two commands overlap (R336): a Flush, and Dataset Management with deallocate, overlap everything in their namespace; two reads never do. -/
def NvCmd.overlaps (a b : NvCmd) : Bool :=
  let whole := fun (c : NvCmd) => c.op == 0 || c.op == 9 || c.op == 0x80 || c.op == 0x84
  let touch := a.ranges.any fun x => b.ranges.any fun y => decide (x.1 < y.1 + y.2 ∧ y.1 < x.1 + x.2)
  decide (a.tenant = b.tenant) && (a.nsids.any fun n => b.nsids.contains n) && !(a.op == 2 && b.op == 2) && (whole a || whole b || touch)

/-- The commands admitted before one. -/
def State.earlier (s : State) (id : Nat) : List NvCmd := s.sto.cmds.takeWhile fun c => c.id ≠ id

/-- An earlier command that overlaps is incomplete. -/
def State.blocked (s : State) (c : NvCmd) : Bool := (s.earlier c.id).any fun e => e.overlaps c

/-- The command writes to a drive. -/
def NvCmd.writes (c : NvCmd) : Bool := c.op == 1 || c.op == 8 || c.op == 9 || c.op == 0x80 || c.op == 0x82 || c.op == 0x83

/-- A command may be handed now (R336, R341, R24): nothing overlapping before it, no drive of its in reset, and no inhibit for a write. -/
def State.mayHand (s : State) (c : NvCmd) : Bool :=
  let drives := (c.nsids.filterMap (s.space c.tenant)).flatMap (·.drives)
  decide (c.stage = .waiting) && !s.blocked c && !(c.writes && s.sup.inhibit) && !(drives.any fun d => (s.sdrive d).resetting)

/-- Hands a command over. -/
def State.hand (s : State) (c : NvCmd) : State := (s.modCmd c.id fun c => { c with stage := .handed }).handPieces c.id (s.cmdPieces c)

/-- The entry of a command gets its status, and what its queue may post is posted. -/
def State.entryDone (s : State) (c : NvCmd) (status : Nat) : State :=
  if c.silent ∨ 0x80 ≤ c.op ∨ c.peer.isSome then s
  else
    let f := fun (e : NvEntry) => if e.cmd = some c.id then { e with cmd := none, status := status } else e
    (s.modNv c.ctrl fun k => { k with entries := k.entries.map f }).nvPost c.ctrl

/-- The data of a read goes to its PRPs. -/
def State.deliverRead (s : State) (ctrl : Nat) : List (Nat × Nat) → Bytes → State × Nat
  | [], _ => (s, 0)
  | (a, n) :: r, bs =>
    match s.nvWrite ctrl a (bs.take n) with
    | (s, 0) => s.deliverRead ctrl r (bs.drop n)
    | (s, e) => (s, e)

/-- New keys of a format, and its new layout of nothing but zeros (R332, R333). -/
def State.rekey (s : State) (n : Namespace) : State :=
  match s.trk n.tenant with
  | none => s.modSpace n.tenant n.nsid fun n => { n with rekeyed := true }
  | some k =>
    let w := keyWrap k (s.random 64)
    s.usedRandom.modSpace n.tenant n.nsid fun n => { n with wrapped := w, keyGen := n.keyGen + 1, rekeyed := true, broken := false }

/-- The drives in use. -/
def State.readyDrives (s : State) : List Nat := (seqFrom 0 4).filter fun d => (s.sdrive d).ready

/-- The label of a drive (R342); its layout is not given. -/
def State.labelOf (s : State) (d : Nat) : Bytes :=
  Config.serial ++ (s.sdrive d).serial ++ s.sto.spaces.flatMap fun n => (n.runs.filter fun r => r.1 = d).flatMap fun r =>
    natLe n.tenant 1 ++ natLe n.nsid 4 ++ natLe n.keyGen 4 ++ natLe r.2.1 8 ++ natLe r.2.2 8

/-- Core 1 rewrites the label of every ready drive (R342); while the inhibit holds the writes are held and counted (R24, R25). -/
def State.writeLabels (s : State) : State :=
  if s.sup.inhibit then
    s.modSto fun t => { t with labelsDue := true, heldWrites := if t.labelsDue then t.heldWrites else satAdd t.heldWrites s.readyDrives.length }
  else s.readyDrives.foldl (fun s d => s.emit (.drive d 0 0x100 0 0 (s.labelOf d))) (s.modSto fun t => { t with labelsDue := false })

/-- No admitted command of a namespace is left. -/
def State.quietSpace (s : State) (n : Namespace) : Bool :=
  !(s.sto.cmds.any fun c => decide (c.tenant = n.tenant) && c.nsids.contains n.nsid)

/-- Admits a command of the device's own and hands it over where it can go. -/
def State.admitOwn (s : State) (c : NvCmd) : State :=
  let c := { c with id := s.sto.nextId }
  let held := if c.writes && s.sup.inhibit then 1 else 0
  let s := s.modSto fun t => { t with nextId := t.nextId + 1, cmds := t.cmds ++ [c], heldWrites := satAdd t.heldWrites held }
  if s.mayHand c then s.hand c else s

/-- Admits an internal command of the device and hands it over where it can go. -/
def State.internal (s : State) (op tenant : Nat) (nsids : List Nat) (ctrl : Nat) : State :=
  s.admitOwn { id := 0, ctrl := ctrl, sq := 0, cid := 0, op := op, tenant := tenant, nsids := nsids, ranges := if nsids = [] then [] else [(0, 0)] }

/-- Admits a write of a segment to a drive replica slot, padded to whole LBAs, at an offset of the replica namespace (R225, R226). -/
def State.writeSlot (s : State) (off : Nat) (w : SlotWrite) : State :=
  let data := w.bytes ++ zeros ((4096 - w.bytes.length % 4096) % 4096)
  s.admitOwn { id := 0, ctrl := 0, sq := 0, cid := 0, op := 0x82, tenant := 0, nsids := [replicaNsid], ranges := [(off, data.length)], data := data, slot := some w }

/-- A slot takes a segment. -/
def Lehr.store (l : Lehr) (rank epoch i : Nat) (seg : Bytes) : Lehr :=
  { l with slots := l.slots.map fun x => if x.rank = rank ∧ x.epoch = epoch then { x with segs := x.segs.put i seg } else x }

/-- A write to a drive replica slot has ended: the segment is stored and its origin gets the acknowledgement; where the drive failed it, the origin is to send it again (R226; DESIGN CHOICE, log 46). -/
def State.slotWritten (s : State) (w : SlotWrite) (failed : Nat) : State :=
  let num := natLe w.epoch 8 ++ natLe w.seg 4
  if failed ≠ 0 then (if w.ack then s.tell w.rank msgSegmentRefused num else s)
  else
    let s := s.modLeh fun l => l.store w.rank w.epoch w.seg w.bytes
    if w.ack then s.tell w.rank msgSegmentAck (num ++ natLe 2 1) else s

/-- Admits a write of an epoch's drive leg, padded to whole 4 KiB blocks, at an offset of its epoch area, one half of the namespace (R227; DESIGN CHOICE, log 72); a leg whose namespace is gone, not ready or too small has failed. -/
def State.writeLeg (s : State) (epoch : Nat) (off : Nat) (bytes : Bytes) (part : LegPart) : State :=
  match s.leh.leg? epoch 3 with
  | none => s
  | some g =>
    let data := bytes ++ zeros ((4096 - bytes.length % 4096) % 4096)
    match s.space 0 g.target with
    | none => s.legFails epoch g
    | some n =>
      let half := n.size / 8192 * 4096
      if ¬ s.nsReady n ∨ n.deleting.isSome ∨ half < off + data.length then s.legFails epoch g
      else s.admitOwn { id := 0, ctrl := 0, sq := 0, cid := 0, op := 0x83, tenant := 0, nsids := [g.target], ranges := [(g.area * half + off, data.length)], data := data, leg := some ⟨epoch, part⟩ }

/-- A committed drive leg that has written every segment and the manifest flushes everything before its final write (R227). -/
def State.legStep (s : State) (epoch : Nat) : State :=
  match (s.leh.legs.find? fun (g : Nat × Leg) => decide (g.1 = epoch ∧ g.2.kind = 3)).map (·.2) with
  | none => s
  | some g =>
    if ¬ g.manifestDone ∨ g.flushing ∨ ¬ (seqFrom 0 g.segs).all fun i => g.written.contains i then s
    else (s.modLegs epoch 3 fun g => some { g with flushing := true }).admitOwn
      { id := 0, ctrl := 0, sq := 0, cid := 0, op := 0x84, tenant := 0, nsids := [g.target], ranges := [], leg := some ⟨epoch, .flush⟩ }

/-- A write or flush of a drive leg has ended: the leg goes on, is complete, or has failed (R227). -/
def State.legWritten (s : State) (w : LegWrite) (failed : Nat) : State :=
  match s.leh.leg? w.epoch 3 with
  | none => s
  | some g =>
    if failed ≠ 0 then s.legFails w.epoch g
    else
      match w.part with
      | .header => s
      | .seg i => (s.modLegs w.epoch 3 fun g => some { g with written := g.written ++ [i] }).legStep w.epoch
      | .manifest => (s.modLegs w.epoch 3 fun g => some { g with manifestDone := true }).legStep w.epoch
      | .flush => s.writeLeg w.epoch 0 (areaHeader w.epoch 2 (segOffset g.segs) g.manifest) .complete
      | .complete => s.modLegs w.epoch 3 fun _ => none

/-- What the end of a write of Lehr's own is followed by: a replica slot's, or a drive leg's. -/
def State.lehrWritten (s : State) (c : NvCmd) (failed : Nat) : State :=
  (c.leg.elim (c.slot.elim s fun w => s.slotWritten w failed) fun w => s.legWritten w failed)

/-- A namespace's pending format or deletion goes on once its admitted commands have finished (R332). -/
def State.stepSpace (s : State) (n : Namespace) : State :=
  if ¬ s.quietSpace n then s
  else
    match n.deleting with
    | some r =>
      ((s.modSto fun t => { t with spaces := t.spaces.filter fun m => ¬ (m.tenant = n.tenant ∧ m.nsid = n.nsid) }).writeLabels.nsChanged n.tenant n.nsid).finish r 0 0 0
    | none =>
      if ¬ n.formatting then s
      else
        let s := if n.rekeyed then s else (s.rekey n).writeLabels
        if s.drivesUp n then s.internal 0x80 n.tenant [n.nsid] n.tenant
        else
          match n.format with
          | none => s
          | some r => ((s.modSpace n.tenant n.nsid fun n => { n with format := none }).nsChanged n.tenant n.nsid).finish r 0 0 0

/-- A shutdown whose admitted commands have finished flushes each drive; with no drive to flush it is complete (R344). -/
def State.stepShutdown (s : State) (c : Nat) : State :=
  if (s.nvCtrl c).shst ≠ 1 ∨ (s.sto.cmds.any fun x => decide (x.ctrl = c ∧ (x.op < 0x80 ∨ x.op = 0x81) ∧ x.peer = none)) then s
  else if (seqFrom 0 4).any fun d => (s.sdrive d).ready then s.internal 0x81 c [] c
  else s.modNv c fun k => { k with shst := 2 }

/-- A format's deallocation has ended: the namespace is ready again, or waits for another format where it failed (R332, R341). -/
def State.formatDone (s : State) (c : NvCmd) : State :=
  c.nsids.foldl (fun s i =>
    match s.space c.tenant i with
    | none => s
    | some n =>
      let ok := decide (c.failed = 0)
      let s := s.modSpace c.tenant i fun n => { n with formatting := !ok, format := none, rekeyed := !ok }
      match n.format with
      | none => s
      | some r => (s.nsChanged c.tenant i).finish r (if ok then 0 else 0x20) 0 0) s

/-- What follows a command that has left the list. -/
def State.afterCmd (s : State) (c : NvCmd) : State :=
  let s := c.nsids.foldl (fun s i => match s.space c.tenant i with | some n => s.stepSpace n | none => s) s
  if c.op < 0x80 ∧ c.peer = none then s.stepShutdown c.ctrl else s

/-- A host read or write that has ended well counts in the device totals of the SMART / Health log (R330). -/
def Storage.counted (t : Storage) (c : NvCmd) : Storage :=
  let n := (c.ranges.map (·.2)).sum
  if c.failed ≠ 0 then t
  else if c.op = 1 then { t with writeCmds := t.writeCmds + 1, writeBytes := t.writeBytes + n }
  else if c.op = 2 then { t with readCmds := t.readCmds + 1, readBytes := t.readBytes + n }
  else t

/-- A command is complete: the read's data is delivered, the entry gets its status, and the command leaves. -/
def State.completeCmd (s : State) (c : NvCmd) : State :=
  let s := s.modSto fun t => { t with cmds := t.cmds.filter fun x => x.id ≠ c.id }
  if c.op = 0x80 then (s.formatDone c).afterCmd c
  else if c.op = 0x81 then s.modNv c.ctrl fun k => { k with shst := if k.shst = 1 then 2 else k.shst }
  else if 0x82 ≤ c.op then (s.lehrWritten c c.failed).afterCmd c
  else
    match c.peer with
    | some (t, tag) => (s.emit (.replica t (natLe tag 4 ++ natLe (c.failed % 2048) 2))).afterCmd c
    | none =>
      let s := s.modSto fun t => t.counted c
      let (s, e) := if c.op = 2 ∧ c.failed = 0 ∧ ¬ c.silent then s.deliverRead c.ctrl c.prps c.data else (s, 0)
      (s.entryDone c (if c.failed ≠ 0 then c.failed else nvOf e true)).afterCmd c

/-- A command all of whose parts are done: complete, or its flushes follow (FUA), or a ghost leaves once its drives are back. -/
def State.checkCmd (s : State) (id : Nat) : State :=
  match s.sto.cmds.find? fun c => c.id = id with
  | none => s
  | some c =>
    if ¬ (c.parts.all (·.done)) ∨ c.stage = .waiting then s
    else if c.stage = .ghost then
      if c.resetOn = [] then (s.modSto fun t => { t with cmds := t.cmds.filter fun x => x.id ≠ id }).afterCmd c else s
    else if c.stage = .handed ∧ c.fua ∧ c.failed = 0 then
      let n := (c.nsids.head?.bind (s.space c.tenant)).map (·.flushes) |>.getD []
      let used := n.filter fun p => 256 ≤ p.drive || (c.parts.any fun q => q.drive = p.drive)
      (s.modCmd id fun c => { c with stage := .flushing }).handPieces id used
    else s.completeCmd c

/-- The device hands out every command that may go, in admission order. -/
def handAll : List NvCmd → State → State
  | [], s => s
  | c :: r, s => handAll r (if s.mayHand c then s.hand c else s)

/-- Admission (R335): the command joins the list, its entry keeps its place, and it is handed over unless it must wait (R336). -/
def State.admitNv (s : State) (c : NvCmd) : State :=
  let c := { c with id := s.sto.nextId }
  let held := if c.writes && s.sup.inhibit then 1 else 0
  let s := s.modSto fun t => { t with nextId := t.nextId + 1, cmds := t.cmds ++ [c], heldWrites := satAdd t.heldWrites held }
  let s :=
    if c.peer.isSome then s
    else
      let e : NvEntry := { sq := c.sq, cid := c.cid, cmd := some c.id, status := 0 }
      (s.dropArrived (nvOwner c.ctrl c.sq)).modNv c.ctrl fun k => { k with fetched := k.fetched.del c.sq, entries := k.entries ++ [e] }
  if s.mayHand c then (s.hand c).checkCmd c.id
  else if s.blocked c then s.modSto fun t => { t with overlapWaits := satInc t.overlapWaits }
  else s

/-- Writes not yet handed to a drive, which an inhibit that asserts now comes to hold (R24). -/
def State.waitingWrites (s : State) : Nat := s.sto.cmds.countP fun c => c.writes && decide (c.stage = .waiting)

/-- The writes held by the inhibit are handed in order once it lifts, and labels that fell due are written (R24). -/
def State.storageLift (s : State) : State :=
  let s := if s.sto.labelsDue then s.writeLabels else s
  handAll s.sto.cmds s

/-- A command ends for the host with a status while parts of it may still run: it stays as a ghost (R341). -/
def State.ghostCmd (s : State) (c : NvCmd) (status : Nat) (drive : Nat) (resets : Bool) : State :=
  let parts := c.parts.map fun p => if p.drive = drive then { p with done := true } else p
  let s := s.modCmd c.id fun c =>
    { c with stage := .ghost, parts := parts, failed := status, resetOn := if resets then c.resetOn ++ [drive] else c.resetOn.filter (· ≠ drive) }
  let s := if c.op = 0x80 then s.formatDone { c with failed := status }
    else if c.op = 0x81 then s.modNv c.ctrl fun k => { k with shst := if k.shst = 1 then 2 else k.shst }
    else if 0x82 ≤ c.op then (if c.stage = .ghost then s else s.lehrWritten c status)
    else match c.peer with
      | some (t, tag) => if c.stage = .ghost then s else s.emit (.replica t (natLe tag 4 ++ natLe (status % 2048) 2))
      | none => s.entryDone c status
  s.checkCmd c.id

/-! ## Drives lost, timed out and back (R341, R342) -/

/-- A command with an unfinished part at a drive. -/
def NvCmd.at (c : NvCmd) (d : Nat) : Bool := c.parts.any fun p => decide (p.drive = d) && !p.done

/-- A drive's timeout wins (R341): its outstanding commands end with 0x20 and its controller is reset. -/
def State.driveTimeout (s : State) (d : Nat) : State :=
  let s := (s.modDrive d fun x => { x with timeouts := satInc x.timeouts, resetting := true }).driveEvent d 3
  let s := s.report { source := 0x62, severity := 1, status := 0x20, bit := 3, reg := 0x1000 * (d + 1) + 4, block := 7, d0 := (s.sdrive d).events.toNat }
  let l := s.sto.cmds.filter fun c => c.at d
  l.foldl (fun s c =>
    match s.sto.cmds.find? fun x => x.id = c.id with
    | some c => if c.op = 0x81 then (s.modCmd c.id fun x => { x with parts := x.parts.map fun p => if p.drive = d then { p with done := true } else p }).checkCmd c.id
      else s.ghostCmd c (nvOf 0x20 false) d true
    | none => s) s

/-- A drive's reset has ended: ghosts that waited for it may leave, and waiting commands are handed to it (R341). -/
def State.driveBack (s : State) (d : Nat) : State :=
  let s := s.modDrive d fun x => { x with resetting := false }
  let s := s.modSto fun t => { t with cmds := t.cmds.map fun c => { c with resetOn := c.resetOn.filter (· ≠ d) } }
  let s := s.sto.cmds.foldl (fun s c => s.checkCmd c.id) s
  handAll s.sto.cmds s

/-- Commands of a namespace on a lost drive end with Namespace Not Ready (R342). -/
def State.endSpace (s : State) (d : Nat) (n : Namespace) : State :=
  let l := s.sto.cmds.filter fun c => decide (c.tenant = n.tenant) && c.nsids.contains n.nsid
  l.foldl (fun s c =>
    match s.sto.cmds.find? fun x => x.id = c.id with
    | none => s
    | some c =>
      if c.op = 0 ∧ 1 < c.nsids.length then
        (s.modCmd c.id fun x =>
          { x with nsids := x.nsids.filter (· ≠ n.nsid), parts := x.parts.map fun p => if p.drive = d then { p with done := true } else p }).checkCmd c.id
      else if c.op = 0x80 then
        ((s.modSto fun t => { t with cmds := t.cmds.filter fun x => x.id ≠ c.id }).modSpace c.tenant n.nsid fun m => { m with format := none }) |>
          fun s => match n.format with | some r => (s.nsChanged c.tenant n.nsid).finish r 0 0 0 | none => s
      else s.ghostCmd c nvNotReady d false) s

/-- A drive is lost (R342): its namespaces are not ready and their admitted commands end. -/
def State.loseDrive (s : State) (d : Nat) : State :=
  let s := (s.modDrive d fun x => { x with lost := true, ready := false, resetting := false, speed := 0, width := 0 }).driveEvent d 1
  let s := s.ddtUpdate
  let s := s.report { source := 0x62, severity := 2, bit := 1, reg := 0x1000 * (d + 1) + 4, block := 7, d0 := (s.sdrive d).events.toNat }
  let s := (s.sto.spaces.filter fun n => n.drives.contains d).foldl (fun s n => s.endSpace d n) s
  let s := { s with leh := { s.leh with slots := s.leh.slots.filter fun x =>
    !(x.onDrive && (s.sto.spaces.any fun n => decide (n.nsid = replicaNsid) && n.drives.contains d)) } }
  let s := s.modSto fun t => { t with cmds := t.cmds.map fun c =>
    { c with resetOn := c.resetOn.filter (· ≠ d), parts := c.parts.map fun p => if p.drive = d then { p with done := true } else p } }
  s.sto.cmds.foldl (fun s c => s.checkCmd c.id) s

/-- The label of an enumerated drive holds what the device's record says of a namespace (R342). -/
def intact (i : DriveInfo) (d : Nat) (n : Namespace) : Bool :=
  decide (i.labelModule = Config.serial ∧ n.serials.find? d = some i.labelSerial ∧ n.serials.find? d = some i.serial) &&
    (n.runs.filter fun r => r.1 = d).all fun r =>
      i.entries.contains { tenant := n.tenant, nsid := n.nsid, keyGen := n.keyGen, first := r.2.1, count := r.2.2 }

/-- A drive is trained and enumerated (R340, R342): namespaces whose data on it is not intact stay not ready, and a format that waited for it goes on. -/
def State.enumerate (s : State) (d : Nat) (i : DriveInfo) : State :=
  let s := (s.modDrive d fun x =>
    { x with ready := true, lost := false, resetting := false, speed := i.speed, width := i.width, capacity := i.capacity, serial := i.serial
             dlfeat := i.dlfeat, awupf := i.awupf }).driveEvent d 0
  let s := s.ddtUpdate
  let f := fun (n : Namespace) => if n.drives.contains d ∧ ¬ n.formatting ∧ ¬ intact i d n then { n with broken := true } else n
  let s := s.modSto fun t => { t with spaces := t.spaces.map f }
  ((s.sto.spaces.filter fun n => n.drives.contains d && n.formatting).foldl (fun s n => s.stepSpace n) s).writeLabels

/-! ## Replicas (R343) -/

/-- A replica is dropped from its namespaces: degraded, logged, and its parts count no more (R343). -/
def State.dropReplica (s : State) (target : Nat) : State :=
  let hit := s.sto.spaces.filter fun n => n.replicas.contains target
  let f := fun (n : Namespace) =>
    if n.replicas.contains target then { n with replicas := n.replicas.filter (· ≠ target), dropped := n.dropped ++ [target] } else n
  let s := s.modSto fun t => { t with spaces := t.spaces.map f }
  let s := if hit = [] then s else s.stoEvent 0
  let s := if hit = [] then s else s.report { source := 0x62, severity := 2, bit := 0, reg := 4, block := 7, d0 := s.sto.events.toNat }
  let bad := fun (c : NvCmd) => decide (c.op = 2) && c.at (256 + target)
  let s := s.modSto fun t => { t with cmds := t.cmds.map fun c =>
    { c with failed := if bad c then nvOf 0x30 true else c.failed
             parts := c.parts.map fun p => if p.drive = 256 + target then { p with done := true } else p } }
  s.sto.cmds.foldl (fun s c => s.checkCmd c.id) s

/-! ## Placing namespaces (R331, R333) -/

/-- MiB runs in use on a drive, by first MiB; the label takes the first. -/
def State.usedRuns (s : State) (d : Nat) : Tbl Nat :=
  (s.sto.spaces.flatMap fun n => (n.runs.filter fun r => r.1 = d).map (·.2)).foldl (fun t r => t.put r.1 r.2) [(0, 1)]

/-- The free runs between used ones. -/
def gaps (cap : Nat) : Nat → Tbl Nat → List (Nat × Nat)
  | at_, [] => if at_ < cap then [(at_, cap - at_)] else []
  | at_, (a, n) :: r => (if at_ < a then [(at_, a - at_)] else []) ++ gaps cap (max at_ (a + n)) r

/-- Takes `n` MiB from free runs. -/
def takeRuns : Nat → List (Nat × Nat) → Option (List (Nat × Nat))
  | 0, _ => some []
  | _ + 1, [] => none
  | n + 1, (a, k) :: r => (takeRuns (n + 1 - min (n + 1) k) r).map fun l => (a, min (n + 1) k) :: l

/-- Runs for `n` MiB of a drive, if it has them. -/
def State.allocate (s : State) (d n : Nat) : Option (List (Nat × Nat × Nat)) :=
  (takeRuns n (gaps ((s.sdrive d).capacity / mib) 0 (s.usedRuns d))).map fun l => l.map fun r => (d, r.1, r.2)

/-- The drives and runs of a new namespace: striped over four, or one that the placement engine picks among those with room. -/
def State.layOut (s : State) (striped : Bool) (size : Nat) : Option (List Nat × List (Nat × Nat × Nat)) :=
  let n := size / mib
  if striped then
    if (seqFrom 0 4).all fun d => (s.sdrive d).ready then
      let l := (seqFrom 0 4).map fun d => s.allocate d ((n + 3 - d) / 4)
      if l.all Option.isSome then some (seqFrom 0 4, l.flatMap fun x => x.getD []) else none
    else none
  else
    let ok := (seqFrom 0 4).filter fun d => (s.sdrive d).ready && (s.allocate d n).isSome
    if ok = [] then none
    else
      let d := ok.getD (s.free % ok.length) 0
      (s.allocate d n).map fun l => ([d], l)

/-- Adds a namespace with keys of its own (R333). -/
def State.addSpace (s : State) (tenant nsid : Nat) (small striped : Bool) (size : Nat) (replicas : List Nat)
    (at_ : List Nat × List (Nat × Nat × Nat)) : State :=
  let s := s.tick
  let w := ((s.trk tenant).map fun k => keyWrap k (s.random 64)).getD []
  let n : Namespace :=
    { tenant := tenant, nsid := nsid, small := small, striped := striped, size := size, drives := at_.1, runs := at_.2
      serials := at_.1.map fun d => (d, (s.sdrive d).serial), wrapped := w, replicas := replicas }
  (s.usedRandom.modSto fun t => { t with spaces := t.spaces ++ [n] }).writeLabels

/-- Tenant 0's replica namespace, made at START where it is not there (R331). -/
def State.makeReplicaSpace (s : State) : State :=
  let size := s.stoKey 2 0 * 2 ^ 30
  if size = 0 ∨ (s.space 0 replicaNsid).isSome then s
  else match s.layOut true size with
    | none => s
    | some at_ => s.addSpace 0 replicaNsid false true size [] at_

/-! ## Doorbells (R325, R326, R329) -/

/-- The controller whose events a record's errors go to: PF0's for accelerator pairs. -/
def eventCtrl (c : Nat) : Nat := if c < 16 then c else 0

/-- An invalid doorbell write (R329): its asynchronous event; a pair accepts nothing more until it is deleted. -/
def State.badDoorbell (s : State) (c q info : Nat) : State :=
  let dead := fun (x : NvSq) => { x with dead := true }
  let s := if 256 ≤ c then s.modNv c fun k => { k with sqs := k.sqs.map fun x => if x.1 = q then (x.1, dead x.2) else x } else s
  s.nvEvent (eventCtrl c) 0 info 1

/-- A submission tail doorbell. -/
def State.nvSqDoorbell (s : State) (c q tail : Nat) : State :=
  match (s.nvCtrl c).sqs.find? q with
  | none => if (s.nvCtrl c).rdy then s.badDoorbell c q 0 else s
  | some x =>
    let used := (x.tail + x.size - x.head) % x.size
    if x.dead then s
    else if x.size ≤ tail ∨ (x.size - 1 - used < (tail + x.size - x.tail) % x.size) then s.badDoorbell c q 1
    else s.modNv c fun k => { k with sqs := k.sqs.put q { x with tail := tail } }

/-- A completion head doorbell: entries are freed, the level is evaluated, and entries that waited for room are posted. -/
def State.nvCqDoorbell (s : State) (c q head : Nat) : State :=
  match (s.nvCtrl c).cqs.find? q with
  | none => if (s.nvCtrl c).rdy then s.badDoorbell c q 0 else s
  | some x =>
    if (s.nvCtrl c).sqs.any (fun y => y.1 = q && y.2.dead && decide (256 ≤ c)) then s
    else if x.size ≤ head ∨ ((x.tail + x.size - x.head) % x.size < (head + x.size - x.head) % x.size) then s.badDoorbell c q 1
    else ((s.modNv c fun k => { k with cqs := k.cqs.put q { x with head := head } }).nvPost c).evalIntx (nvFn c)

/-! ## Resets (R344) -/

/-- Commands of a queue run on and post no entry (R328, R344). -/
def State.silence (s : State) (c q : Nat) : State :=
  let f := fun (x : NvCmd) => if x.ctrl = c ∧ x.sq = q ∧ x.op < 0x80 ∧ x.peer = none then { x with silent := true } else x
  s.modSto fun t => { t with cmds := t.cmds.map f }

/-- A submission queue is deleted: what it fetched is dropped, what it had admitted runs on and posts no entry. -/
def State.dropSq (s : State) (c q : Nat) : State :=
  ((s.nvDrop c q).silence c q).modNv c fun k => { k with sqs := k.sqs.del q, entries := k.entries.filter fun e => e.sq ≠ q }

/-- An accelerator pair is deleted (R328). -/
def State.dropPair (s : State) (c q : Nat) : State := (s.dropSq c q).modNv c fun k => { k with cqs := k.cqs.del q }

/-- Every pair of a port is deleted, as on a surprise down (R328). -/
def State.dropPairs (s : State) (port : Nat) : State := (s.nvCtrl (256 + port)).sqs.foldl (fun s q => s.dropPair (256 + port) q.1) s

/-- A controller stops (R344): queued commands and those not handed are dropped without entries; handed ones run on and post none. -/
def State.nvStop (s : State) (c : Nat) : State :=
  let drop := fun (x : NvCmd) => decide (x.ctrl = c ∧ x.op < 0x80 ∧ x.peer = none ∧ x.stage = .waiting)
  let s := s.modSto fun t => { t with cmds := (t.cmds.filter fun x => !drop x).map fun x => if x.ctrl = c ∧ x.op < 0x80 then { x with silent := true } else x }
  let k := s.nvCtrl c
  let s := (k.sqs.map (·.1)).foldl (fun s q => s.dropArrived (nvOwner c q)) s
  let s := s.modNv c fun k => { cc := clrBit k.cc 0, aqa := k.aqa, asq := k.asq, acq := k.acq }
  let s := s.sto.spaces.foldl (fun s n => if n.tenant = nvFn c then s.stepSpace n else s) s
  s.evalIntx (nvFn c)

/-- The storage controller after a reset of the device (R344, R349): namespaces and their wrapped keys are kept, the drives are enumerated again. -/
def Storage.reset (t : Storage) (warm : Bool) : Storage :=
  { spaces := t.spaces.map fun n => { n with format := none, deleting := none }
    drives := t.drives.mapVal fun _ d => { present := d.present, events := if warm then d.events else 0, timeouts := d.timeouts, trainFails := d.trainFails }
    nextId := t.nextId, nextTag := t.nextTag
    events := if warm then t.events else 0, overlapWaits := t.overlapWaits, lateCpl := t.lateCpl, entryAborts := t.entryAborts
    heldWrites := t.heldWrites, readCmds := t.readCmds, readBytes := t.readBytes, writeCmds := t.writeCmds, writeBytes := t.writeBytes }

/-- Every NVMe controller is shut down or disabled (R346, R501). -/
def State.nvmeIdle (s : State) : Bool := s.sto.ctrls.all fun k => decide (256 ≤ k.1) || !k.2.rdy || decide (k.2.shst = 2)

/-- The orderly phase ends what is fetched and not admitted with 0x21 (R344). -/
def State.nvOrderly (s : State) : State :=
  s.sto.ctrls.foldl (fun s k => k.2.fetched.foldl (fun s f => s.nvEnd k.1 f.1 (fieldAt f.2 2 2) (nvOf 0x21 false)) s) s

end Sys2Proof.Machine
end

