-- ==== Sys2Proof/Machine/Net.lean ====
section
/-! DEFINITION. Network ports, the Marver pipeline and their registers: the commands of spec/13 R350 to R378. -/

namespace Sys2Proof.Machine

open Sys2Proof

/-- The I/O die runs: P0 or P1 with the main rails up. -/
def State.ioRuns (s : State) : Bool := s.sup.pwrgd && decide (s.pwr.state = .p0 ∨ s.pwr.state = .p1)

/-! ## Receive (R352 to R355) -/

/-- A receive error of a port (NET_RX_ERR_COUNT). -/
def State.rxError (s : State) (port : Nat) : State := s.modNet port fun p => { p with rxErr := satInc p.rxErr }

/-- A frame dropped in an Ethernet lane's timing domain is a receive error of the lane's port (R79). -/
def State.netRxError (lane : Nat) (s : State) : State := s.rxError (lane / (32 / s.netPorts))

/-- The frame is a MAC control frame with an opcode: 0x0101 PFC, 0x0001 PAUSE. -/
def isMacCtrl (b : Bytes) (op : Nat) : Bool := decide (fbe b 12 2 = 0x8808 ∧ fbe b 14 2 = op)

/-- Admission of a good frame to the packet buffer (R354, R355, R356). -/
def State.admitFrame (s : State) (port : Nat) (b : Bytes) : State :=
  let q := s.framePrio b
  let n := cellsOf b
  if s.fits port q n then
    (s.modNet port fun p =>
      { p with cells := p.cells.upd q 0 (· + n), rxFrames := satInc p.rxFrames, seq := (p.seq + 1) % 2 ^ 64
               inbox := p.inbox ++ [{ bytes := b, port := port, prio := q, seq := p.seq }] }).pfcCheck port q
  else
    let s := s.modNet port fun p => { p with events := latch p.events 2 }
    if s.lossless q then (s.modMrv fun m => { m with headroomOvf := satInc m.headroomOvf }).mrvEvent 3
    else s.modNet port fun p => { p with drops := p.drops.upd q 0 satInc }

/-- FRAME_RECEIVE (R352 to R356): `bytes` runs from the destination address to the end of the payload, the FCS after it stripped; `fecCorrected` codewords of it were corrected. -/
def frameReceiveBody (port : Nat) (bytes : Bytes) (fecCorrected : Nat) (fecOk fcsOk : Bool) (s : State) : State :=
  if s.netPorts ≤ port ∨ ¬ s.ioRuns ∨ ¬ (s.netPort port).linkUp then s else
  let s := s.modNet port fun p => { p with fecCorr := satAdd p.fecCorr fecCorrected }
  if ¬ fecOk then
    let s := s.modNet port fun p => { p with fecUncorr := satInc p.fecUncorr }
    State.rxError { s with net := { s.net with events := latch s.net.events 1 } } port
  else if ¬ fcsOk ∨ bytes.length + 4 < 64 ∨ s.maxFrame < bytes.length + 4 then s.rxError port
  else if isMacCtrl bytes 0x0001 then
    let s := s.modNet port fun p => { p with pauseDiscard := satInc p.pauseDiscard }
    { s with net := { s.net with events := latch s.net.events 2 } }
  else if isMacCtrl bytes 0x0101 then
    s.pfcReceived port (fbe bytes 16 2) ((seqFrom 0 8).map fun i => fbe bytes (18 + 2 * i) 2)
  else s.admitFrame port bytes

def execFrameReceive (port : Nat) (bytes : Bytes) (fecCorrected : Nat) (fecOk fcsOk : Bool) (s : State) : Host.Outcome State Fault Refusal :=
  .next (frameReceiveBody port bytes fecCorrected fecOk fcsOk s)

/-- PFC_REPEAT (R355): a priority still under XOFF sends quanta 0xFFFF again. -/
def execPfcRepeat (port prio : Nat) (s : State) : Host.Outcome State Fault Refusal :=
  .next (if (s.netPort port).xoff.contains prio then s.sendPfc port prio 0xFFFF else s)

/-- PFC_FRAME_RECEIVE (R355, R389). -/
def execPfcFrameReceive (port enable : Nat) (quanta : List Nat) (s : State) : Host.Outcome State Fault Refusal :=
  .next (if s.netPorts ≤ port ∨ ¬ s.ioRuns ∨ ¬ (s.netPort port).linkUp then s else s.pfcReceived port enable quanta)

/-- PAUSE_EXPIRY (R389): the pause of a priority runs out. -/
def execPauseExpiry (port prio : Nat) (s : State) : Host.Outcome State Fault Refusal :=
  .next ((s.modNet port fun p => { p with paused := p.paused.filter (· ≠ prio) }).refresh [])

/-- A port's link goes down. -/
def State.netDown (s : State) (port : Nat) : State :=
  if ¬ (s.netPort port).linkUp then s
  else
    let s := s.modNet port fun p => { p with linkUp := false, anDone := false, aligned := false, events := latch p.events 1 }
    let s := s.ddtUpdate
    { s with net := { s.net with events := latch s.net.events 0 } }

/-- PCS_ALIGNMENT_LOSS (R352). -/
def execPcsAlignmentLoss (port : Nat) (s : State) : Host.Outcome State Fault Refusal := .next (s.netDown port)

/-- PORT_LINK_UP (R352): a port of the grouping trains after host release; in a safe or unowned start network ports stay down (R52). -/
def execPortLinkUp (port : Nat) (s : State) : Host.Outcome State Fault Refusal :=
  .next (if s.netPorts ≤ port ∨ ¬ s.ioRuns ∨ ¬ s.boot.supervisor ∨ s.boot.safe ∨ s.boot.unowned ∨ (s.netPort port).linkUp then s
    else
      let s := s.modNet port fun p => { p with linkUp := true, anDone := true, aligned := true, events := latch p.events 0 }
      let s := s.ddtUpdate
      { s with net := { s.net with events := latch s.net.events 0 } })

/-! ## The parser (R356 to R363) -/

/-- Packets the reorder stage holds. -/
def State.reorderHeld (s : State) : Nat := (s.net.ports.map fun p => (p.2.done.filter fun d => d.2.isSome).length).sum

/-- The next port with a frame, round robin. -/
def State.nextPort (s : State) : Option Nat :=
  ((seqFrom 0 32).map fun i => (s.mrv.lastPort + i) % 32).find? fun p => decide ((s.netPort p).inbox ≠ [])

/-- The weight of a priority (prio_weight). -/
def State.prioWeight (s : State) (q : Nat) : Nat := s.netKey 6 0x11111111 / 16 ^ q % 16

/-- The priority a port serves next, and the frames left of its share (R356). -/
def State.nextPrio (s : State) (port : Nat) : Nat × Nat :=
  let p := s.netPort port
  let has := fun q => p.inbox.any fun k => k.prio = q
  if has p.wrrPrio ∧ 0 < p.wrrLeft then (p.wrrPrio, p.wrrLeft - 1)
  else
    match ((seqFrom 1 8).map fun i => (p.wrrPrio + i) % 8).find? has with
    | some q => (q, s.prioWeight q - 1)
    | none => (p.wrrPrio, p.wrrLeft)

/-- A sequence of a port has its outcome in the reorder stage. -/
def State.reorderPut (s : State) (port seq : Nat) (k : Option Pkt) : State :=
  if (s.netPort port).skipped.contains seq then
    let s := s.modNet port fun p => { p with skipped := p.skipped.filter (· ≠ seq) }
    State.lateDiscarded { s with mrv := { s.mrv with reorderSkip := satInc s.mrv.reorderSkip } }
  else s.modNet port fun p => { p with done := p.done.put seq k }

/-- Delivers a released packet by its class (R362, R364, R391): the ingress policer, then its destination. -/
def State.deliver (s : State) (k : Pkt) : State :=
  let i := s.prof 7 0 (0x5000 + k.cls) 0xFFFF
  let b : TxFrame := { bytes := k.bytes, tenant := 16 }
  let (s, m) := if i < 4096 then s.meter i (s.charge k.port b) k.bytes else (s, some k.bytes)
  match m with
  | none => s.classDrop k.cls
  | some b =>
    let k := { k with bytes := b }
    let d := s.classDest k.cls
    if d.1 = 1 then s.modMrv fun m => { m with toRme := m.toRme ++ [k] }
    else if d.1 = 2 then s.ringReceive d.2.2 k
    else s.classDrop k.cls

/-- Releases the packets of a port that are next in arrival sequence (R365). -/
def releasePort (port : Nat) : Nat → State → State
  | 0, s => s
  | n + 1, s =>
    let p := s.netPort port
    match p.done.find? p.expected with
    | none => s
    | some k =>
      let s := s.modNet port fun p => { p with done := p.done.del p.expected, expected := p.expected + 1 }
      releasePort port n (match k with | some k => s.deliver k | none => s)

/-- Gives a sequence its outcome and releases what can go. -/
def State.settleSeq (s : State) (port seq : Nat) (k : Option Pkt) : State :=
  let s := s.reorderPut port seq k
  releasePort port (s.netPort port).done.length s

/-- A malformed frame is dropped and counted (R357). -/
def State.malformedDrop (s : State) : State := (s.modMrv fun m => { m with malformed := satInc m.malformed }).mrvEvent 0

/-- The parse of a packet: malformed and odd frames leave, the others are classified (R357 to R362); none where it left. -/
def State.parse (s : State) (k : Pkt) : State × Option Pkt :=
  if oddFrame k.bytes then (s.oddCase k, none)
  else if malformedFrame k.bytes then (s.malformedDrop, none)
  else
    let k := s.classify k
    (s.modMrv fun m => { m with classPkts := m.classPkts.upd k.cls 0 satInc }, some k)

/-- An uncorrectable error in Marver's tables: they are reloaded from the profile, which the model reads them from, and the packets in flight, in the lanes and in the reorder stage, are dropped and counted (R93). -/
def State.reloadTables (s : State) : State :=
  let lanes := s.mrv.lanes.flatMap (·.2)
  let placed := s.net.ports.flatMap fun (p : Nat × NetPort) => p.2.done.filterMap (·.2)
  let s := (lanes ++ placed).foldl (fun s k => s.classDrop k.cls) ((s.modMrv fun m => { m with lanes := [] }).mrvEvent 7)
  let s := { s with net := { s.net with ports := s.net.ports.mapVal fun _ p => { p with done := p.done.mapVal fun _ _ => none } } }
  lanes.foldl (fun s k => s.settleSeq k.port k.seq none) s

/-- FRAME_PARSE (R356 to R363, R93): the next frame leaves the buffer, is parsed and handed to the next lane; nothing while the reorder stage is full. -/
def frameParseBody (sram : Nat) (s : State) : State :=
  if ¬ s.ioRuns ∨ 8192 ≤ s.reorderHeld then s
  else
    match s.nextPort with
    | none => s
    | some port =>
      let (q, left) := s.nextPrio port
      match (s.netPort port).inbox.find? fun k => k.prio = q with
      | none => s
      | some k =>
        let s := s.modNet port fun p => { p with wrrPrio := q, wrrLeft := left, inbox := p.inbox.erase k }
        let s := s.modMrv fun m => { m with lastPort := (port + 1) % 32 }
        let s := (if k.reinjected then s else s.freeCells port q (cellsOf k.bytes)).sramRead 3 sram
        if 2 ≤ sram then (s.reloadTables.classDrop k.cls).settleSeq port k.seq none
        else match s.parse k with
        | (s, none) => s.settleSeq port k.seq none
        | (s, some k) =>
          s.modMrv fun m => { m with lanes := m.lanes.upd m.nextLane [] (· ++ [k]), nextLane := (m.nextLane + 1) % 64 }

def execFrameParse (sram : Nat) (s : State) : Host.Outcome State Fault Refusal := .next (frameParseBody sram s)

/-! ## Lanes and the reorder stage (R364, R365, R371) -/

/-- Marks of a lane: l4_ok and ce. -/
def laneMarks (k : Pkt) : Pkt := { k with l4ok := l4Good k.bytes, ce := decide ((isV4 k.bytes ∨ isV6 k.bytes) ∧ tosByte k.bytes % 4 = 3) }

/-- Slow-path core of a class destination 3 to 5. -/
def slowCore (dest : Nat) : Nat := if dest = 3 then 2 else dest + 2

/-- A marked packet takes its place: slow-path packets leave the ordered stream, the others wait for release (R365). -/
def State.place (s : State) (k : Pkt) : State :=
  let d := (s.classDest k.cls).1
  if 3 ≤ d ∧ d ≤ 5 then (s.slowPath (slowCore d) k (some k.cls)).settleSeq k.port k.seq none
  else s.settleSeq k.port k.seq (some k)

/-- A packet of an ESP inbound class (R371): refused and counted, or decrypted and parsed a second time with its sequence kept. -/
def State.espLane (s : State) (k : Pkt) : State :=
  let lost := fun (s : State) => (s.classDrop k.cls).settleSeq k.port k.seq none
  if k.esp then lost (s.modMrv fun m => { m with espBadSa := satInc m.espBadSa })
  else
    match s.espInbound k (s.classDest k.cls).2.1 with
    | (s, .bad) => lost (s.modMrv fun m => { m with espBadSa := satInc m.espBadSa })
    | (s, .replay) => lost ((s.modMrv fun m => { m with espReplay := satInc m.espReplay }).mrvEvent 5)
    | (s, .auth) => lost ((s.modMrv fun m => { m with espAuthFail := satInc m.espAuthFail }).mrvEvent 4)
    | (s, .clear k2) =>
      match s.parse k2 with
      | (s, none) => s.settleSeq k.port k.seq none
      | (s, some k3) =>
        if (s.classDest k3.cls).1 = 6 then
          ((s.modMrv fun m => { m with espBadSa := satInc m.espBadSa }).classDrop k3.cls).settleSeq k.port k.seq none
        else s.place (laneMarks k3)

/-- LANE_PROCESS (R364, R371, R93): the oldest packet of a lane is finished; `sram` 1 loses it to an uncorrectable error of the packet buffer, 2 to one of the tables; 3 and 4 are corrected errors of the two, counted. -/
def laneProcessBody (lane sram : Nat) (s : State) : State :=
  match s.mrv.lanes.getD lane [] with
  | [] => s
  | k :: r =>
    let s := s.modMrv fun m => { m with lanes := m.lanes.put lane r }
    let s := if sram = 3 then s.sramRead 0 1 else if sram = 4 then s.sramRead 3 1 else s
    if sram = 1 then s.classDrop k.cls
    else if sram = 2 then (s.reloadTables.classDrop k.cls).settleSeq k.port k.seq none
    else if (s.classDest k.cls).1 = 6 then s.espLane k
    else s.place (laneMarks k)

def execLaneProcess (lane sram : Nat) (s : State) : Host.Outcome State Fault Refusal :=
  .next (if s.ioRuns then laneProcessBody lane sram s else s)

/-- REORDER_SKIP (R365): 20 µs without the next expected sequence of a port. -/
def reorderSkipBody (port : Nat) (s : State) : State :=
  let p := s.netPort port
  if p.seq ≤ p.expected ∨ (p.done.find? p.expected).isSome then s
  else
    let s := s.modNet port fun p => { p with expected := p.expected + 1, skipped := p.skipped ++ [p.expected] }
    let s := (s.modMrv fun m => { m with reorderSkip := satInc m.reorderSkip }).mrvEvent 2
    releasePort port (s.netPort port).done.length s

def execReorderSkip (port : Nat) (s : State) : Host.Outcome State Fault Refusal := .next (reorderSkipBody port s)

/-- FRAGMENT_TIMEOUT (R368): a datagram not complete 30 ms after its first fragment is dropped and counted; a fragment of it that still comes is late (R68). -/
def execFragmentTimeout (index : Nat) (s : State) : Host.Outcome State Fault Refusal :=
  .next (if index < s.mrv.frags.length then
      ((s.modMrv fun m => { m with
        frags := m.frags.eraseIdx index, slowDrop := satInc m.slowDrop
        lateFrags := m.lateFrags ++ (m.frags[index]?.map (·.key)).toList }).mrvEvent 1).timeoutWon
    else s)

/-! ## Registers (R377, R378) -/

/-- Bits of a list of priorities. -/
def prioBits (l : List Nat) : Nat := ((seqFrom 0 8).map fun q => b2n (l.contains q) * 2 ^ q).sum

/-- The value of a NET_ register. -/
def State.netRead (s : State) (off : Nat) : Option Nat :=
  if off < 0x1000 then
    match off with
    | 0x00 => some (s.net.ports.map fun p => b2n p.2.linkUp * 2 ^ p.1).sum
    | 0x04 => some s.net.events.toNat
    | 0x08 => some (s.netKey 1 1)
    | _ => none
  else if off / 0x1000 - 1 < 32 then
    let p := s.netPort (off / 0x1000 - 1)
    match off % 0x1000 with
    | 0x00 => some (pack [(0, b2n p.linkUp), (1, b2n p.anDone), (2, b2n p.aligned), (8, prioBits p.xoff), (16, prioBits p.paused)])
    | 0x04 => some p.events.toNat
    | 0x08 => some p.fecCorr
    | 0x0C => some p.fecUncorr
    | 0x10 => some p.rxFrames
    | 0x14 => some p.rxErr
    | 0x18 => some p.pfcTx
    | 0x1C => some p.pfcRx
    | 0x20 => some p.pauseDiscard
    | 0x24 => some p.prioSel
    | 0x28 => some (p.cells.getD p.prioSel 0)
    | 0x2C => some (p.drops.getD p.prioSel 0)
    | _ => none
  else none

/-- A write of a NET_ register. -/
def State.netWrite (s : State) (off : Nat) (v : W32) : State :=
  let rsv := fun (s : State) (b : Bool) => State.rsvNote { s with net := { s.net with faultCount := s.net.faultCount + b2n b } } b 8 off v
  if off = 4 then rsv { s with net := { s.net with events := w1c s.net.events v } } (decide (field v 3 29 ≠ 0))
  else if 0x1000 ≤ off ∧ off / 0x1000 - 1 < 32 then
    let i := off / 0x1000 - 1
    if off % 0x1000 = 4 then rsv (s.modNet i fun p => { p with events := w1c p.events v }) (decide (field v 3 29 ≠ 0))
    else if off % 0x1000 = 0x24 then rsv (s.modNet i fun p => { p with prioSel := field v 0 3 }) (decide (field v 3 29 ≠ 0))
    else s
  else s

/-- The value of an MRV_ register. -/
def State.mrvRead (s : State) (off : Nat) : Option Nat :=
  let m := s.mrv
  match off with
  | 0x00 => some (min s.reorderHeld 8192 + b2n (decide (8192 ≤ s.reorderHeld)) * 2 ^ 14)
  | 0x04 => some m.events.toNat
  | 0x08 => some m.malformed
  | 0x0C => some m.slow
  | 0x10 => some m.slowDrop
  | 0x14 => some m.reorderSkip
  | 0x18 => some m.headroomOvf
  | 0x1C => some m.espAuthFail
  | 0x20 => some m.espReplay
  | 0x24 => some m.espBadSa
  | 0x28 => some m.classSel
  | 0x2C => some (m.classPkts.getD m.classSel 0)
  | 0x30 => some (m.classDrops.getD m.classSel 0)
  | _ => none

/-- A write of an MRV_ register. -/
def State.mrvWrite (s : State) (off : Nat) (v : W32) : State :=
  let rsv := fun (s : State) (b : Bool) => (s.modMrv fun m => { m with faultCount := m.faultCount + b2n b }).rsvNote b 9 off v
  if off = 4 then rsv (s.modMrv fun m => { m with events := w1c m.events v }) (decide (field v 9 23 ≠ 0))
  else if off = 0x28 then rsv (s.modMrv fun m => { m with classSel := field v 0 10 }) (decide (field v 10 22 ≠ 0))
  else s

/-! ## Resets and power states (R374, R375, R394) -/

/-- A port after a reset: its events by a warm one and its ROS counters are kept. -/
def NetPort.reset (p : NetPort) (warm : Bool) : NetPort :=
  { events := if warm then p.events else 0, fecCorr := p.fecCorr, fecUncorr := p.fecUncorr, rxFrames := p.rxFrames, rxErr := p.rxErr,
    pfcTx := p.pfcTx, pfcRx := p.pfcRx, pauseDiscard := p.pauseDiscard, prioSel := if warm then p.prioSel else 0, drops := p.drops }

/-- The ports after a reset. -/
def Net.reset (n : Net) (warm : Bool) : Net :=
  { ports := n.ports.mapVal fun _ p => p.reset warm, events := if warm then n.events else 0, faultCount := n.faultCount }

/-- The pipeline after a reset: SAs cleared with their keys, ROS counters kept. -/
def Marver.reset (m : Marver) (warm : Bool) : Marver :=
  { events := if warm then m.events else 0, malformed := m.malformed, slow := m.slow, slowDrop := m.slowDrop, reorderSkip := m.reorderSkip,
    headroomOvf := m.headroomOvf, espAuthFail := m.espAuthFail, espReplay := m.espReplay, espBadSa := m.espBadSa,
    classSel := if warm then m.classSel else 0, classPkts := m.classPkts, classDrops := m.classDrops, faultCount := m.faultCount }

/-- The traffic manager after a reset: every queue, level and mark is cleared, ROS counters kept. -/
def Tm.reset (t : Tm) (warm : Bool) : Tm :=
  { events := if warm then t.events else 0, poolDrops := t.poolDrops, foreignDrops := t.foreignDrops, qSel := if warm then t.qSel else 0,
    nodeSel := if warm then t.nodeSel else 0, polSel := if warm then t.polSel else 0,
    leaves := t.leaves.mapVal fun _ l => { drops := l.drops, ecn := l.ecn },
    policers := t.policers.mapVal fun _ p => { green := p.green, yellow := p.yellow, red := p.red }, faultCount := t.faultCount }

/-- Every network link goes down, as on entry to P2. -/
def State.netAllDown (s : State) : State := (seqFrom 0 32).foldl (fun s p => s.netDown p) s

end Sys2Proof.Machine
end

