-- ==== Sys2Proof/Machine/TrafficManager.lean ====
section
/-! DEFINITION. The traffic manager's commands: enqueue, transmit, refill and high-water reads (spec/14 R380 to R394). -/

namespace Sys2Proof.Machine

open Sys2Proof

/-! ## Placing frames (R373, R380, R390) -/

/-- A transmit slot's frame with its checksums inserted, its SA where the ESP flag is set. -/
def slotFrame (tenant : Nat) (h b : Bytes) : TxFrame :=
  let f := fieldAt h 2 1
  let b := if f % 2 = 1 then putIpSum b else b
  let b := if f / 2 % 2 = 1 then putL4Sum b else b
  { bytes := b, sa := if f / 4 % 2 = 1 then some (fieldAt h 4 2) else none, tenant := tenant, ofRing := true }

/-- A transmit ring's next slot goes to its leaf queue; a held queue takes no slot (R373, R374, R390). -/
def State.ringTransmit (s : State) (r : Nat) : State :=
  match s.ringRec r with
  | none => s
  | some b =>
    let k := (s.ring r).count
    if (s.ring r).error ∨ ¬ ringTx b ∨ s.ringSoft b = k then s
    else
      let a := ringBase b + ringSlot b * (k % ringSize b)
      match s.fab.readDev (ringTenant b) a 32 with
      | .error _ => (s.memFault (ringTenant b) a 32 false).ringError r
      | .ok h =>
        match s.fab.readDev (ringTenant b) (a + 32) (fieldAt h 0 2) with
        | .error _ => (s.memFault (ringTenant b) (a + 32) (fieldAt h 0 2) false).ringError r
        | .ok f =>
          match s.offer (ringLeaf b) (slotFrame (ringTenant b) h f) with
          | (s, .held) => s
          | (s, _) =>
            let n := (k + 1) % 2 ^ 31
            match s.flagWrite (ringTenant b) (ringIndex b) (natLe n 8) [] with
            | none => s.ringError r
            | some s => s.modRing r fun x => { x with count := n }

/-- The engine's oldest frame is offered to its leaf queue; a no_drop queue without room keeps it waiting. -/
def State.rmeEnqueue (s : State) : State :=
  match s.rme.tx with
  | [] => s
  | f :: r =>
    match s.offer f.leaf { bytes := f.bytes, tenant := f.tenant } with
    | (s, .held) => s
    | (s, _) => { s with rme := { s.rme with tx := r } }

/-- LEAF_ENQUEUE (R380, R390): a source places a frame. -/
def leafEnqueueBody (src : TxSrc) (s : State) : State :=
  if ¬ s.ioRuns then s
  else
    match src with
    | .ring r => s.ringTransmit r
    | .rme => s.rmeEnqueue
    | .core2 tenant leaf frame => (s.offer leaf { bytes := frame, tenant := tenant }).1

def execLeafEnqueue (src : TxSrc) (s : State) : Host.Outcome State Fault Refusal := .next (leafEnqueueBody src s)

/-! ## Transmission (R372, R383, R386, R393) -/

/-- What becomes of a frame at its start: bytes to send, or dropped. -/
inductive Sent where
  | send (b : Bytes)
  | drop
deriving DecidableEq, Repr

/-- The last sequence number of an SA (R372). -/
def Sa.lastSeq (sa : Sa) : Nat := if sa.flags / 2 % 2 = 1 then 2 ^ 64 - 1 else 2 ^ 32 - 1

/-- ESP outbound (R372): ownership, length, sequence and encapsulation; the outer source of a tunnel is the inner packet's. -/
def State.espOutbound (s : State) (f : TxFrame) : State × Sent :=
  match f.sa with
  | none => (s, .send f.bytes)
  | some i =>
    let bad := (s.modMrv fun m => { m with espBadSa := satInc m.espBadSa }, Sent.drop)
    match s.mrv.saOut.find? i with
    | none => bad
    | some sa =>
      if sa.tenant ≠ f.tenant ∨ ¬ (isV4 f.bytes ∨ isV6 f.bytes) then bad
      else if s.maxFrame < f.bytes.length + 4 + espGrowth sa f.bytes then (s.malformedDrop, .drop)
      else if sa.exhausted then (s, .drop)
      else
        match s.useKey sa.tenant sa.handle with
        | (s, none) => (s.modMrv fun m => { m with espBadSa := satInc m.espBadSa }, .drop)
        | (s, some m) =>
          let n := sa.top + 1
          let done := decide (sa.lastSeq ≤ n)
          let s := s.modMrv fun x => { x with saOut := x.saOut.put i { sa with top := n, exhausted := done } }
          let s := if done then s.mrvEvent 6 else s
          (s, .send (espWrap sa m (srcIp f.bytes) f.bytes n))

/-- A frame begins transmission through a node: its level pays the charge and its group's virtual time moves (R383, R386). -/
def State.served (s : State) (charge : Nat) (k : Nat) : State :=
  match s.node k with
  | none => s
  | some b =>
    let n := s.tmNode k
    let s := s.modTm fun t => { t with vtime := t.vtime.put (groupKey (parentKey k b) (nodePrio b)) n.start }
    s.modNode k fun n => { n with start := n.finish, level := if s.nodeRate k = 0 then n.level else n.level - charge }

/-- TRANSMIT_START (R382 to R384, R93): the port selects down the tree, and the frame leaves or is dropped by ESP. `sram` 1 and 2 are a corrected and an uncorrectable error of the queue's state, 3 and 4 an uncorrectable and a corrected one of the frame in the packet buffer. -/
def transmitStartBody (port sram : Nat) (s : State) : State :=
  if s.netPorts ≤ port ∨ ¬ s.ioRuns ∨ ¬ (s.netPort port).linkUp then s
  else
    match s.headLeaf 4 (portKey port) with
    | none => s
    | some l =>
      let s := if sram = 4 then s.sramRead 0 1 else s.sramRead 2 sram
      if sram = 2 then s.flushLeaf l
      else if sram = 3 then ((s.modLeaf l fun x => { x with frames := x.frames.drop 1, drops := satInc x.drops, sourceHeld := false }).tmEvent 0).refresh []
      else match (s.leaf l).frames, s.path l with
      | f :: r, some (c, t, _) =>
        let ch := s.charge port f
        let keys := [l, classKey c, tenantKey t]
        let pop := fun (s : State) => s.modLeaf l fun x => { x with frames := r, sourceHeld := false }
        match s.espOutbound f with
        | (s, .drop) => (pop s).refresh []
        | (s, .send b) =>
          let s := keys.foldl (fun s k => s.served ch k) (pop s)
          let s := s.modLeaf l fun x => { x with hwmSojourn := max x.hwmSojourn ((s.tmTally + 2 ^ 63 - f.stamp) % 2 ^ 63) }
          (s.emit (.frame port b)).refresh keys
      | _, _ => s

def execTransmitStart (port sram : Nat) (s : State) : Host.Outcome State Fault Refusal := .next (transmitStartBody port sram s)

/-- SHAPER_REFILL (R386): `us` µs of the traffic manager's tally pass. -/
def execShaperRefill (us : Nat) (s : State) : Host.Outcome State Fault Refusal := .next ((s.refillAll us).refresh [])

/-- HWM_READ (R393): a read of a high-water mark returns it and clears it. -/
def execHwmRead (offset : Nat) (s : State) : Host.Outcome State Fault Refusal :=
  .next (if offset = 0xC ∨ offset = 0x28 ∨ offset = 0x2C then
      (s.emit (.readData 0xA offset ((s.tmRead offset).getD 0))).hwmClear offset
    else s)

end Sys2Proof.Machine
end

