-- ==== Sys2Proof/Machine/Hooks.lean ====
section
/-! DEFINITION. What the start, the resets and the power states ask of the units: whether work runs, what each unit keeps and loses, and the job's withdrawal. -/

namespace Sys2Proof.Machine

open Sys2Proof

/-- A job is RUNNING (R501). -/
def State.jobRunning (s : State) : Bool := decide (s.ann.state = .running)

/-- An epoch, RESTORE or RESHARD is in flight (R501). -/
def State.epochBusy (s : State) : Bool := s.leh.cur.isSome || s.leh.fill.isSome

/-- A core restarts or its program is halted. -/
def State.coreRestarting (s : State) (c : Nat) : Bool := (s.core c).restarting || (s.core c).halted

/-- The accelerator withdraws the device from its job (R287). -/
def State.withdrawJob (s : State) : State := s.withdraw

/-- The Anneal engines after a reset (R61, R210): events by a warm one and ROS counters are kept. -/
def Anneal.reset (a : Anneal) (warm : Bool) : Anneal :=
  { events := if warm then a.events else 0, engSel := if warm then a.engSel else 0, skips := a.skips, helds := a.helds, lateTokens := a.lateTokens,
    dupTokens := a.dupTokens, badTokens := a.badTokens, lateParts := a.lateParts, ruleNonfinite := a.ruleNonfinite, normDrops := a.normDrops }

/-- Lehr after a reset (R243): the node's slots and manifests are lost, those on its drives too, for nothing on the device names them. -/
def Lehr.reset (l : Lehr) (warm : Bool) : Lehr :=
  { events := if warm then l.events else 0, stallMax := l.stallMax, parisonUs := l.parisonUs,
    deferred := l.deferred, commits := l.commits, discards := l.discards, integrity := l.integrity, repaired := l.repaired }

/-- The membership after a reset (R271). -/
def Members.reset (m : Members) (warm : Bool) : Members :=
  { events := if warm then m.events else 0, suspectCount := m.suspectCount, pathFaults := m.pathFaults, lostCount := m.lostCount,
    reshards := m.reshards, lateHeartbeats := m.lateHeartbeats, staleGens := m.staleGens }

/-- The units after a warm or cold reset (R61). -/
def State.resetUnits (warm : Bool) (s : State) : State :=
  { s with
    cru := s.cru.reset warm, gaf := s.gaf.reset warm, net := s.net.reset warm, mrv := s.mrv.reset warm, tm := s.tm.reset warm
    ten := { s.ten.reset with events := if warm then s.ten.events else 0, sel := if warm then s.ten.sel else 0 }
    ann := s.ann.reset warm, leh := s.leh.reset warm, mem := s.mem.reset warm, rme := s.rme.reset warm, sto := s.sto.reset warm }

/-- The units after an AOD power-on: ROS counters go too (R61); fuses, the namespaces and their wrapped keys stay. -/
def State.resetUnitsPowerOn (s : State) : State :=
  { s with
    cru := { fuses := s.cru.fuses }, gaf := {}, net := {}, mrv := {}, tm := {}, ten := {}, ann := {}, leh := {}, mem := {}, rme := {}
    sto := { spaces := (s.sto.reset false).spaces, drives := s.sto.drives.mapVal fun _ d => { present := d.present } } }

/-- The units at the start: cores, and the tensor complex with its allotments. -/
def State.startUnits (s : State) : State := s.startCores.startTensor

/-- What entry to P2 loses beside the compute rails: network links, tile and bench SRAM with the residency of every model (R500, R504). -/
def State.p2Lose (s : State) : State :=
  let s := s.netAllDown
  s.modTen fun t => { t with models := t.models.map Model.drop, quarters := t.quarters.mapVal fun _ q => { q with work := none, helps := none, loaded := none } }

/-- Nothing of the units comes back by itself on the exit from P2: registrations stand, and links train again by their own commands. -/
def State.p2Exit (s : State) : State := s

/-- A failing self-test puts Crucible in its error state (R445). -/
def State.selfTestFail (failed : Nat) (s : State) : State := s.cruError failed

/-- An access a core may not make: the MPU data trap of R493 and R494. DESIGN CHOICE (log 28): R96 names an access trap without its cause and EADDR; the model takes cause 0x05 with the register's offset in its block. -/
def State.accessTrap (core addr : Nat) (s : State) : State := s.modCore core fun k => k.enterTrap k.pc 0x05 (w32 addr)

end Sys2Proof.Machine
end

