-- ==== Sys2Proof/Machine/Reset.lean ====
section
/-! DEFINITION. The device resets of R61: what a warm reset, a cold reset and an AOD power-on leave, and how the main rails come and go (spec/01 R28, R29; spec/02 R61 to R63; spec/19 R518). -/

namespace Sys2Proof.Machine

open Sys2Proof

/-- A controller after a warm reset: marks, counters and W1C events are kept (R61, R87, R95). -/
def MemCtrl.warm (c : MemCtrl) : MemCtrl :=
  { events := c.events, ceCount := c.ceCount, ueCount := c.ueCount, pinSel := c.pinSel, marks := c.marks, heldCount := c.heldCount }

/-- A controller after a cold reset: its ROS counters are kept. -/
def MemCtrl.cold (c : MemCtrl) : MemCtrl := { ceCount := c.ceCount, ueCount := c.ueCount, heldCount := c.heldCount }

/-- The fabric and memory after a warm reset (R61, R94, R95). -/
def Fabric.warm (f : Fabric) : Fabric :=
  { linkEvents := f.linkEvents, retryCount := f.retryCount, lateDiscard := f.lateDiscard, timeoutWon := f.timeoutWon,
    arbSlow := f.arbSlow, sramCe := f.sramCe, domainSel := f.domainSel, withdrawCtrl := f.withdrawCtrl, scrubCtrl := f.scrubCtrl,
    domains := f.domains, parisonWaits := f.parisonWaits, parisonFull := f.parisonFull,
    ctrls := f.ctrls.mapVal fun _ c => c.warm, faultCount := f.faultCount, blpFaultCount := f.blpFaultCount }

/-- The fabric and memory after a cold reset. -/
def Fabric.cold (f : Fabric) : Fabric :=
  { retryCount := f.retryCount, lateDiscard := f.lateDiscard, timeoutWon := f.timeoutWon, arbSlow := f.arbSlow, sramCe := f.sramCe,
    parisonWaits := f.parisonWaits, ctrls := f.ctrls.mapVal fun _ c => c.cold, faultCount := f.faultCount, blpFaultCount := f.blpFaultCount }

/-- A function after a device reset: only its ROS counters are kept (R324). -/
def HostFn.reset (h : HostFn) : HostFn :=
  { cplTimeouts := h.cplTimeouts, discards := h.discards, barDrops := h.barDrops }

/-- The host endpoint after a device reset; HEP_PERST_N is the host's. -/
def HostEndpoint.reset (h : HostEndpoint) : HostEndpoint :=
  { fns := h.fns.mapVal fun _ f => f.reset, perstLow := h.perstLow }

/-- A port after a warm reset (R290, R298); presence is the slot's. -/
def Port.warm (p : Port) : Port :=
  { events := p.events, present := p.present, trainFails := p.trainFails, cplTimeouts := p.cplTimeouts, surprises := p.surprises }

/-- A port after a cold reset. -/
def Port.cold (p : Port) : Port :=
  { present := p.present, trainFails := p.trainFails, cplTimeouts := p.cplTimeouts, surprises := p.surprises }

/-- The accelerator ports after a warm reset. -/
def Accel.warm (a : Accel) : Accel :=
  { ports := a.ports.mapVal fun _ p => p.warm, events := a.events, lateCpl := a.lateCpl, unclaimed := a.unclaimed,
    forwardLost := a.forwardLost }

/-- The accelerator ports after a cold reset. -/
def Accel.cold (a : Accel) : Accel :=
  { ports := a.ports.mapVal fun _ p => p.cold, lateCpl := a.lateCpl, unclaimed := a.unclaimed, forwardLost := a.forwardLost }

/-- A note whose addressee a reset takes away: the command or the transfer is lost with it. -/
def FlashOp.forgotten : FlashOp → Bool
  | .note (.command _ _ _ _) => true
  | .note (.piece _) => true
  | _ => false

/-- The flash across a warm or cold reset: V1P8_SB stays up, so contents, the operation issued and the writes held at the admission point stay (R24, R25, R61); the commands they were for are lost (R62). -/
def Flash.reset (f : Flash) : Flash := { f with queue := f.queue.filter fun o => !o.forgotten }

/-- The sector of the flight log in use holds its marker and the header with the sequence last given out. -/
def Flash.logOpen (f : Flash) (m : Mem) : Bool :=
  let b := Mem.read 0xFF m (flightBase + f.logSector * 0x10000) 16
  slice b 0 4 = eraseMarker && decide (fieldAt b 8 8 = f.logSeq)

/-- The flash after a loss of V1P8_SB. Where writes were lost, the flight log goes on in the next sector, or in the same one, erased again, if its header never came to be written (R40). -/
def Flash.powerOn (f : Flash) : Flash :=
  let m := f.powerCut
  { mem := m, logSector := f.logSector, logSeq := f.logSeq, logErases := f.logErases, savedList := f.savedList
    logOff := if f.queue.isEmpty then f.logOff else if f.logOpen m then 0x10000 else 0 }

/-- Start-up state across a reset: events and ROS counters are kept (R540). -/
def Boot.reset (b : Boot) (keepEvents : Bool) : Boot :=
  { settingsReset := b.settingsReset, events := if keepEvents then b.events else 0 }

/-- Every tally restarts at 0; a warm reset leaves them uncertain with the bound all ones (R518). -/
def Tallies.reset (t : Tallies) (warm : Bool) : Tallies :=
  { uncertain := warm, bound := if warm then 2 ^ 64 - 1 else 0, sleepCal := if warm then t.sleepCal else 0 }

/-- The AOD power registers after a reset: kept by a warm reset, reset by a cold one but for ROS (R523). -/
def PowerCtl.reset (p : PowerCtl) (warm : Bool) : PowerCtl :=
  if warm then
    { ctrl := p.ctrl, wakeEn := p.wakeEn, wakeLatch := p.wakeLatch, alertEn := p.alertEn, alertLatch := p.alertLatch,
      abortCount := p.abortCount, lastSleepMs := p.lastSleepMs, sbErr := p.sbErr }
  else { abortCount := p.abortCount, sbErr := p.sbErr }

/-- Telemetry after a reset that clears HBM: the ring and the sequences are lost (R521, R522). -/
def Telemetry.reset (t : Telemetry) (warm : Bool) : Telemetry :=
  if warm then { sensorSel := t.sensorSel, sensors := t.sensors, ctrl := t.ctrl, lost := t.lost, kept := t.kept, cursor := 0 }
  else { sensors := t.sensors, lost := t.lost }

/-- Wakes the device start: core 0 leaves reset and runs the boot ROM next, unless MOD_RST_N is held low. -/
def State.armStart (s : State) : State :=
  { s with boot := { s.boot with pendingStart := s.sup.pwrgd && !s.sup.modRstLow } }

/-- The state every reset of the device leaves in the units. -/
def State.resetCommon (s : State) (warm : Bool) : State :=
  let s := (s.zeroizeVolatile).resetUnits warm
  { s with
    fab := if warm then s.fab.warm else s.fab.cold
    con := {}
    hep := s.hep.reset
    apt := if warm then s.apt.warm else s.apt.cold
    fl := s.fl.reset
    boot := s.boot.reset warm
    tal := s.tal.reset warm
    pwr := s.pwr.reset warm
    tel := s.tel.reset warm
    log := { s.log with waiters := [] } }

/-- A core rail of R18. -/
def isCoreRail (i : Nat) : Bool := i == 3 || (decide (8 ≤ i) && decide (i ≤ 11))

/-- Nominal mV of a main rail (R18); core rails take their commanded value. -/
def railMv (i : Nat) : Nat :=
  match i with
  | 0 => 800
  | 1 => 1800
  | 2 => 1800
  | 4 => 1800
  | 5 => 1050
  | 6 => 750
  | 7 => 750
  | _ => 750

/-- AOD_LIMIT_CTRL.vcore_max_mv. -/
def Supply.vcoreMax (p : Supply) : Nat := field p.limitCtrl 16 10

/-- A rail up and in its window; a core rail's command is clamped to the ceiling (R19, R20). DESIGN CHOICE (log 65): the spec gives no command for a core rail before core 5 gives one, nor for a compute rail that comes back; it comes up at 750 mV. -/
def railUp (ceiling i : Nat) : Rail :=
  if isCoreRail i then { on := true, inWindow := true, cmdMv := min 750 ceiling, mv := min 750 ceiling }
  else { on := true, inWindow := true, mv := railMv i, mv2 := if i = 7 then 1200 else 0 }

/-- Brings every main rail up in the order of R28, and PWRGD_OUT high. -/
def Supply.mainUp (p : Supply) : Supply :=
  { p with rails := (seqFrom 2 10).foldl (fun t i => t.put i (railUp p.vcoreMax i)) p.rails, pwrgd := true, ioReleased := false }

/-- Brings the compute-die rails up. -/
def Supply.cmpUp (p : Supply) : Supply :=
  { p with rails := [8, 9, 10, 11].foldl (fun t i => if (t.getD i {}).on then t else t.put i (railUp p.vcoreMax i)) p.rails }

/-- Takes the compute-die rails down (R504 step 5). -/
def Supply.cmpDown (p : Supply) : Supply := { p with rails := [11, 10, 9, 8].foldl (fun t i => t.put i {}) p.rails }

/-- A warm reset (R61): main rails stay up (the compute rails that P2 took down come back), HBM is cleared, keys are zeroized, and the start sequence runs again. -/
def State.warmReset (s : State) (trigger : Nat) : State :=
  let s := s.resetCommon true
  let s := if s.sup.pwrgd then { s with sup := s.sup.cmpUp } else s
  (s.armStart).aodEntry 9 4 0 1 trigger 0

/-- Takes every main rail down: PWRGD_OUT low and every IO-domain output released (R29). -/
def Supply.mainDown (p : Supply) : Supply :=
  { p with rails := (seqFrom 2 10).foldl (fun t i => t.put i {}) p.rails, pwrgd := false, ioReleased := true, throttling := false }

/-- The input as measured; `us` is the time it may count as having been so. Below 38.0 V the 1 ms of R23 starts again. -/
def Supply.measureVin (p : Supply) (mv us : Nat) : Supply :=
  if 38000 ≤ mv then { p with vinMv := mv, vinUs := min 1000 (p.vinUs + us), vinOk := decide (1000 ≤ p.vinUs + us) }
  else { p with vinMv := mv, vinUs := 0, vinOk := false }

/-- Main rails may be up: the AOD is up (so the input has risen through 38.0 V, R28), MOD_EN is high, no lockout, cut-off or trip holds them off. -/
def Supply.mayRun (p : Supply) : Bool := p.aodUp && p.modEn && !p.lockout && !p.cutoff && !p.tripLatched

/-- Loses what the main rails keep; ROS counters, the trip latch and the fault log stay (R61 cold column). -/
def State.loseMain (s : State) : State := s.resetCommon false

/-- Asserts the non-volatile write inhibit (R22) and counts the writes it comes to hold (R27); a further cause while it holds is no new assertion. -/
def State.assertInhibit (s : State) : State :=
  if s.sup.inhibit then s
  else
    State.flashInhibit { s with sup := { s.sup with
      inhibit := true, sagCount := satInc s.sup.sagCount, nvwHeld := satAdd s.sup.nvwHeld (s.fl.waiting + s.waitingWrites) } }

/-- A cold reset: the rails are cycled as R29 lays down, the inhibit first, and come up again where they may run; AOD_LIMIT_CTRL and AOD_SUPPLY_EVENTS are reset (R61). -/
def State.coldReset (s : State) (trigger : Nat) : State :=
  let s := s.assertInhibit.loseMain
  let s := { s with sup := { s.sup.mainDown with limitCtrl := 0xA3847369#32, events := 0 } }
  let s := if s.sup.mayRun then { s with sup := s.sup.mainUp } else s
  (s.armStart).aodEntry 9 4 0 2 trigger 0



/-- A power-down, ordered or fast: the inhibit, PWRGD_OUT, the outputs, then every main rail (R29). -/
def State.powerDown (s : State) : State :=
  let s := s.assertInhibit
  State.loseMain { s with sup := s.sup.mainDown }

/-- The orderly phase of R62: queued commands complete with 0x21 and pending flight-log appends are written. DEDUCED (log 70): a queued command is one fetched and not started, as in R102; what the ring still holds is no command of the device. -/
def State.abortFetched (s : State) : State :=
  s.con.fns.foldl (fun s p =>
    p.2.queues.foldl (fun s e =>
      e.2.fetched.foldl (fun s c =>
        (s.modQueue p.1 e.1 fun u =>
          { u with running := u.running ++ [c], fetched := u.fetched.filter fun d => d.handle ≠ c.handle }).finish
            ⟨p.1, e.1, c.handle⟩ 0x21 0 0) s) s) s

/-- Starts an orderly phase before a warm reset; where the supervisor does not answer (none runs, its core is halted in P2 or restarts) there is none and the reset acts at once (R62, R63). -/
def State.orderlyReset (s : State) (trigger : Nat) : State :=
  if s.boot.supervisor ∧ (s.pwr.state = .p0 ∨ s.pwr.state = .p1) ∧ ¬ s.coreRestarting 0 then
    let s := s.abortFetched.nvOrderly
    { s with boot := { s.boot with orderly := true, trigger := trigger } }
  else s.warmReset trigger

end Sys2Proof.Machine
end

