-- ==== Sys2Proof/Machine/Power.lean ====
section
/-! DEFINITION. Supply, limits, rails and resets: the commands of spec/01_module_power_signals.md and R61, R62. -/

namespace Sys2Proof.Machine

open Sys2Proof

/-- Latches a supply event (AOD_SUPPLY_EVENTS). -/
def State.supEvent (s : State) (i : Nat) : State := { s with sup := { s.sup with events := latch s.sup.events i } }

/-- The input as measured at an event: below 38.0 V the lift condition of R23 no longer holds. -/
def State.setVin (s : State) (mv : Nat) : State := { s with sup := s.sup.measureVin mv 0 }

/-- INPUT_SAG (R22): below 36.0 V for 10 µs the inhibit is asserted and the sag event set. -/
def sagBody (vinMv : Nat) (s : State) : State :=
  if s.sup.aodUp ∧ vinMv < 36000 then
    ((((s.setVin vinMv).supEvent 0).assertInhibit).supplyEntry 2 0 0).alert 3
  else s

def execInputSag (vinMv : Nat) (s : State) : Host.Outcome State Fault Refusal := .next (sagBody vinMv s)

/-- RAIL_OUT_OF_WINDOW (R22): a powered rail outside its window for 1 µs asserts the inhibit; the entry names the rail. -/
def railBody (rail mv : Nat) (s : State) : State :=
  let r := s.sup.rails.getD rail {}
  if s.sup.aodUp ∧ r.on then
    ((State.supEvent { s with sup := { s.sup with rails := s.sup.rails.put rail { r with inWindow := false, mv := mv } } } 1).assertInhibit).supplyEntry 2 1 rail
  else s

def execRailOutOfWindow (rail mv : Nat) (s : State) : Host.Outcome State Fault Refusal := .next (railBody rail mv s)

/-- UNDERVOLTAGE_LOCKOUT (R16, R22, R29): at 34.0 V falling the inhibit is asserted and the rails fall in order. -/
def lockoutBody (vinMv : Nat) (s : State) : State :=
  if s.sup.aodUp ∧ vinMv ≤ 34000 then
    let s := State.powerDown { s with sup := { (s.sup.measureVin vinMv 0) with lockout := true } }
    (s.supEvent 2).supplyEntry 4 2 0
  else s

def execUndervoltageLockout (vinMv : Nat) (s : State) : Host.Outcome State Fault Refusal := .next (lockoutBody vinMv s)

/-- LOCKOUT_END (R16): at 37.0 V rising the lockout ends; with MOD_EN high the cold reset of R61 follows. -/
def lockoutEndBody (vinMv : Nat) (s : State) : State :=
  if s.sup.aodUp ∧ s.sup.lockout ∧ 37000 ≤ vinMv then
    let s := { s with sup := { (s.sup.measureVin vinMv 0) with lockout := false } }
    if s.sup.modEn then s.coldReset 1 else s
  else s

def execLockoutEnd (vinMv : Nat) (s : State) : Host.Outcome State Fault Refusal := .next (lockoutEndBody vinMv s)

/-- OVERVOLTAGE_CUT_OFF (R16, R22, R29): above 56.0 V for 10 µs. -/
def cutOffBody (vinMv : Nat) (s : State) : State :=
  if s.sup.aodUp ∧ 56000 < vinMv then
    let s := State.powerDown { s with sup := { (s.sup.measureVin vinMv 0) with cutoff := true } }
    (s.supEvent 3).supplyEntry 4 3 0
  else s

def execOvervoltageCutOff (vinMv : Nat) (s : State) : Host.Outcome State Fault Refusal := .next (cutOffBody vinMv s)

/-- CUT_OFF_END (R16): at or below 54.0 V for 1 ms the cut-off ends; with MOD_EN high the cold reset follows. -/
def cutOffEndBody (vinMv : Nat) (s : State) : State :=
  if s.sup.aodUp ∧ s.sup.cutoff ∧ vinMv ≤ 54000 then
    let s := { s with sup := { (s.sup.measureVin vinMv 0) with cutoff := false } }
    if s.sup.modEn then s.coldReset 1 else s
  else s

def execCutOffEnd (vinMv : Nat) (s : State) : Host.Outcome State Fault Refusal := .next (cutOffEndBody vinMv s)

/-- MOD_EN_FALL (R22, R29): the inhibit is asserted before any rail falls, then the ordered power-down. -/
def execModEnFall (s : State) : Host.Outcome State Fault Refusal :=
  .next (if s.sup.aodUp then State.powerDown { s with sup := { s.sup with modEn := false } }
         else { s with sup := { s.sup with modEn := false } })

/-- MOD_EN_RISE (R28, R61): after strap sampling the main rails ramp and PWRGD_OUT rises; MOD_EN cycled is a cold reset. -/
def modEnRiseBody (s : State) : State :=
  if s.sup.modEn then s
  else
    let s := { s with sup := { s.sup with modEn := true } }
    if s.sup.mayRun then s.coldReset 0 else s

def execModEnRise (s : State) : Host.Outcome State Fault Refusal := .next (modEnRiseBody s)

/-- Rails are up, and every one that is on is in its window (AOD_SUPPLY_STATUS.rails_ok). -/
def Supply.railsOk (p : Supply) : Bool := p.aodUp && p.rails.all fun r => !r.2.on || r.2.inWindow

/-- Resumes a suspended erase, flushes the retention buffer, makes a withdrawn-list copy that fell due, and hands held NVMe writes on, in order (R24, R26, R90). -/
def State.liftInhibit (s : State) : State :=
  let s := { s with sup := { s.sup with inhibit := false, vinOk := true, vinUs := 1000 }, fl := { s.fl with suspended := false } }
  let s := flashKick runNote s.fl.queue.length s
  let s := s.flushRetention
  let s := if s.fl.listDue then s.copyWithdrawn else s
  s.resumeFuses.storageLift

/-- INHIBIT_LIFT (R23): input at or above 38.0 V for 1 ms, every powered rail in its window and MOD_EN high. -/
def execInhibitLift (vinMv : Nat) (s : State) : Host.Outcome State Fault Refusal :=
  .next (if s.sup.aodUp ∧ s.sup.inhibit ∧ 38000 ≤ vinMv ∧ s.sup.railsOk ∧ s.sup.modEn then (s.setVin vinMv).liftInhibit else s)

/-- INPUT_GLITCH (R23): a dip below 36.0 V shorter than 10 µs asserts nothing; it is latched and counted. -/
def execInputGlitch (vinMv : Nat) (s : State) : Host.Outcome State Fault Refusal :=
  .next (if s.sup.aodUp ∧ vinMv < 36000 then
      (State.supEvent { s with sup := { s.sup with glitchCount := satInc s.sup.glitchCount, vinOk := false, vinUs := 0 } } 6).supplyEntry 1 6 0
    else s)

/-- AOD_LIMIT_CTRL.throttle_c. -/
def Supply.throttleC (p : Supply) : Nat := field p.limitCtrl 0 8
/-- AOD_LIMIT_CTRL.trip_c. -/
def Supply.tripC (p : Supply) : Nat := field p.limitCtrl 8 8

/-- AOD_LIMIT_CTRL.ilim_a. -/
def Supply.ilimA (p : Supply) : Nat := field p.limitCtrl 26 6

/-- Some core rail is held below 0.72 V by throttling (AOD_SUPPLY_STATUS.below_floor). -/
def Supply.belowFloor (p : Supply) : Bool :=
  p.throttling && p.rails.any fun r => isCoreRail r.1 && r.2.on && decide (r.2.mv < 720)

/-- Lowers every core rail by 10 mV, to no lower than 0.55 V (R19). -/
def Supply.lower (p : Supply) : Supply :=
  { p with rails := p.rails.mapVal fun i r => if isCoreRail i && r.on then { r with mv := max 550 (r.mv - 10) } else r }

/-- Raises every core rail by 10 mV, to no more than its commanded value (R19). -/
def Supply.raise (p : Supply) : Supply :=
  { p with rails := p.rails.mapVal fun i r => if isCoreRail i && r.on then { r with mv := min r.cmdMv (r.mv + 10) } else r }

/-- Every core rail is back at its commanded value. -/
def Supply.restored (p : Supply) : Bool := p.rails.all fun r => !(isCoreRail r.1 && r.2.on) || decide (r.2.cmdMv ≤ r.2.mv)

/-- Logs the moment throttling first holds a core rail below 0.72 V (R21, R556). -/
def State.noteFloor (s : State) (before : Bool) : State :=
  if s.sup.belowFloor ∧ ¬ before then s.supplyEntry 2 5 3 else s

/-- JUNCTION_THROTTLE (R19): the hottest sensor at the threshold starts the pace governor's lowering. -/
def throttleBody (tempC : Nat) (s : State) : State :=
  if s.sup.pwrgd ∧ s.sup.throttleC ≤ tempC then
    let b := s.sup.belowFloor
    let p := { s.sup with hottestC := tempC, throttling := true, lowering := true }
    ((State.supEvent { s with sup := p.lower } 5).supplyEntry 2 5 0).noteFloor b
  else s

def execJunctionThrottle (tempC : Nat) (s : State) : Host.Outcome State Fault Refusal := .next (throttleBody tempC s)

/-- THROTTLE_STEP (R19): each 100 µs the governor lowers until the hottest junction is 2 °C below the threshold, then raises until every rail is back, and lowers again when the threshold is reached on the way. -/
def throttleStepBody (tempC : Nat) (s : State) : State :=
  if s.sup.throttling then
    let b := s.sup.belowFloor
    let p := { s.sup with hottestC := tempC }
    let low := if p.lowering then decide (p.throttleC < tempC + 2) else decide (p.throttleC ≤ tempC)
    let p := if low then { p.lower with lowering := true } else { p.raise with lowering := false }
    let p := if !low && p.restored then { p with throttling := false } else p
    State.noteFloor { s with sup := p } b
  else s

def execThrottleStep (tempC : Nat) (s : State) : Host.Outcome State Fault Refusal := .next (throttleStepBody tempC s)

/-- THERMAL_TRIP (R19, R21, R29): a sensor at the threshold drives THERM_TRIP_N low, latches the trip and switches every main rail off at once. -/
def tripBody (sensor tempC : Nat) (s : State) : State :=
  if s.sup.aodUp ∧ s.sup.tripC ≤ tempC then
    let s := { s with sup := { s.sup with thermTripLow := true, tripLatched := true, hottestC := max s.sup.hottestC tempC, coolUs := 0 } }
    ((s.powerDown).supplyEntry 4 5 sensor).alert 2
  else s

def execThermalTrip (sensor tempC : Nat) (s : State) : Host.Outcome State Fault Refusal := .next (tripBody sensor tempC s)

/-- CORE_RAIL_OVERVOLTAGE (R19): a core rail above 0.92 V for 1 µs shuts down as a trip does, without THERM_TRIP_N. -/
def vcoreBody (rail mv : Nat) (s : State) : State :=
  if s.sup.aodUp ∧ isCoreRail rail ∧ (s.sup.rails.getD rail {}).on ∧ 920 < mv then
    let s := State.powerDown { s with sup := { s.sup with tripLatched := true, coolUs := 0 } }
    ((s.supEvent 7).supplyEntry 4 7 rail).alert 2
  else s

def execCoreRailOvervoltage (rail mv : Nat) (s : State) : Host.Outcome State Fault Refusal := .next (vcoreBody rail mv s)

/-- INPUT_CURRENT_LIMIT (R19): the input stage limits current. -/
def ilimBody (ma : Nat) (s : State) : State :=
  if s.sup.aodUp ∧ s.sup.ilimA * 1000 ≤ ma then
    (State.supEvent { s with sup := { s.sup with iinMa := ma, ilim := true } } 4).supplyEntry 2 4 0
  else s

def execInputCurrentLimit (ma : Nat) (s : State) : Host.Outcome State Fault Refusal := .next (ilimBody ma s)

/-- A field of AOD_LIMIT_CTRL after a write: unchanged where the value is out of range or higher (R20). -/
def limitField (old new lo hi : Nat) : Nat := if lo ≤ new ∧ new ≤ hi ∧ new ≤ old then new else old

/-- AOD_LIMIT_CTRL after a write: lowered field by field; refused whole where trip_c would be less than throttle_c + 5 (R20, R27). -/
def limitWrite (old new : W32) : W32 :=
  let t := limitField (field old 0 8) (field new 0 8) 60 105
  let p := limitField (field old 8 8) (field new 8 8) 70 115
  let v := limitField (field old 16 10) (field new 16 10) 720 900
  let i := limitField (field old 26 6) (field new 26 6) 20 40
  if p < t + 5 then old else w32 (pack [(0, t), (8, p), (16, v), (26, i)])

/-- Core rail commands are clamped to vcore_max_mv (R19, R20). -/
def Supply.clamp (p : Supply) : Supply :=
  let m := p.vcoreMax
  { p with rails := p.rails.mapVal fun i r =>
      if isCoreRail i then { r with cmdMv := min r.cmdMv m, mv := min r.mv m } else r }

/-- A write of AOD_LIMIT_CTRL; what it would raise is counted in the AOD fault log (R20). -/
def State.writeLimit (s : State) (v : W32) : State :=
  let w := limitWrite s.sup.limitCtrl v
  let s' := { s with sup := Supply.clamp { s.sup with limitCtrl := w } }
  if w = v then s'
  else State.aodEntry { s' with sup := { s'.sup with faultCount := s'.sup.faultCount + 1 } } 1 0 0 v.toNat 0 0

/-- AOD_LIMIT_CTRL_WRITE (R20). -/
def execAodLimitCtrlWrite (value : W32) (s : State) : Host.Outcome State Fault Refusal :=
  .next (if s.sup.aodUp then s.writeLimit value else s)

/-- The state an AOD power-on leaves: everything at reset but flash, fuses, the pins' levels and what has left the block. -/
def State.powerOnBase (s : State) : State :=
  { s.resetUnitsPowerOn with
    sup := { modEn := s.sup.modEn, modRstLow := s.sup.modRstLow }
    pwr := {}, tal := {}, sb := {}, tel := {}, log := {}
    fl := s.fl.powerOn
    boot := {}, fab := {}, con := {}
    hep := { perstLow := s.hep.perstLow }
    apt := { ports := s.apt.ports.mapVal fun _ p => { present := p.present } } }

/-- AOD_POWER_ON (R28 steps 1 to 3, R37, R61): the input has risen through 38.0 V; the straps are sampled once and the sideband answers; with MOD_EN high the main rails come up. -/
def powerOnBody (vinMv cohortId hostEn sbAddr recover : Nat) (s : State) : State :=
  if s.sup.aodUp ∨ vinMv < 38000 then s
  else
    let s := s.powerOnBase
    let st : Straps := { cohortId := cohortId % 4, hostEn := hostEn % 2, sbAddr := sbAddr % 4, recover := recover % 2 }
    let p := { s.sup with aodUp := true, vinMv := vinMv, straps := st, rails := [(0, railUp 900 0), (1, railUp 900 1)] }
    let p := if p.mayRun then p.mainUp else p
    State.armStart { s with sup := p }

def execAodPowerOn (vinMv cohortId hostEn sbAddr recover : Nat) (s : State) : Host.Outcome State Fault Refusal :=
  .next (powerOnBody vinMv cohortId hostEn sbAddr recover s)

/-- AOD_POWER_LOSS (R16): VAOD is gone; what was held is lost, flash and fuses stay. -/
def execAodPowerLoss (s : State) : Host.Outcome State Fault Refusal := .next s.powerOnBase

/-- MOD_RST_N_ASSERT (R61, R62): a warm reset at once, held while the signal is low. -/
def modRstBody (s : State) : State :=
  let s := { s with sup := { s.sup with modRstLow := true } }
  if s.sup.pwrgd then s.warmReset 0 else s

def execModRstNAssert (s : State) : Host.Outcome State Fault Refusal := .next (modRstBody s)

/-- MOD_RST_N_RELEASE (R61): the start sequence begins. -/
def execModRstNRelease (s : State) : Host.Outcome State Fault Refusal :=
  .next (if s.sup.modRstLow then State.armStart { s with sup := { s.sup with modRstLow := false } } else s)

/-- ORDERLY_PHASE_END (R62): the phase ends or its 20 ms runs out, and the warm reset takes effect. -/
def execOrderlyPhaseEnd (s : State) : Host.Outcome State Fault Refusal :=
  .next (if s.boot.orderly then s.warmReset s.boot.trigger else s)

/-- FLASH_PROGRAM_OR_ERASE_DONE (R24): the issued operation is finished; the next one is issued unless the inhibit holds. A suspended erase does not finish. -/
def flashDoneBody (s : State) : State :=
  match s.fl.busy, s.fl.suspended, s.fl.queue with
  | true, false, op :: rest =>
    let s := { s with fl := { s.fl with mem := op.apply s.fl.mem, queue := rest, busy := false } }
    flashKick runNote s.fl.queue.length s
  | _, _, _ => s

def execFlashProgramOrEraseDone (s : State) : Host.Outcome State Fault Refusal := .next (flashDoneBody s)

end Sys2Proof.Machine
end

