-- ==== Sys2Proof/Machine/Boot.lean ====
section
/-! DEFINITION. The boot ROM, the start sequence, the profile, the settings store at start, and cohort formation (spec/02 R42 to R60; spec/20 R539). -/

namespace Sys2Proof.Machine

open Sys2Proof

/-- The values R51 compares a profile with on this device. -/
def State.profEnv (s : State) (fwVersion : Nat) (contract : W32) : Profile.Env :=
  { serial := s.serial, ownerHash := s.ownerHash.getD [], arb := s.profArb, fwVersion := fwVersion, contract := contract,
    extra := s.recordExtra }

/-- A boot failure in the fault log and the flight log (R44, R546 type 0x0003). -/
def State.bootFailure (s : State) (bank row blk severity : Nat) : State :=
  s.logBoth { typ := 3, source := 0x10, severity := severity, d0 := bank, d1 := row, d2 := blk }

/-- Marks a bank BAD; with no valid directory the mark waits for the rewrite at the end of the start (R44). -/
def State.markBad (s : State) (b : Nat) : State :=
  if s.boot.dirLost then s.modBoot fun t => { t with dir := t.dir.setBank b .bad }
  else s.setDirNow fun d => d.setBank b .bad

/-- One bank: it is chosen where its image passes; else the failure is reported and the bank is marked bad (R44). -/
def bootStep (s : State) (b : Nat) : State × Option Nat :=
  match Image.bootFailure s.vendorHash s.fwArb (s.fl.view.image b) with
  | none => (s, some b)
  | some (row, blk) => ((s.bootFailure b row blk 2).markBad b, none)

/-- Tries the banks in order; a refused bank is marked BAD and logged (R43, R44). -/
def bootTry : List Nat → State → State × Option Nat
  | [], s => (s, none)
  | b :: r, s => if (bootStep s b).2.isSome then bootStep s b else bootTry r (bootStep s b).1

/-- A bank may be tried after the refusal of the other one. -/
def Dir.loads (d : Dir) (b : Nat) : Bool := decide (d.bank b = .valid ∨ d.bank b = .trial)

/-- Bank `b` is tried, then the other one if its state allows it; one that is not tried has its state as the reason in the fault log (R43, R45). -/
def bootChosen (d : Dir) (b : Nat) (s : State) : State × Option Nat :=
  match bootStep s b with
  | (s, some k) => (s, some k)
  | (s, none) =>
    if d.loads (1 - b) then bootStep s (1 - b)
    else (s.bootFailure (1 - b) 5 (d.bank (1 - b)).code 2, none)

/-- Selects and loads a bank (R42 to R45). -/
def bootBank (s : State) : State × Option Nat :=
  match s.fl.view.directory with
  | none => bootTry [0, 1] ((s.modBoot fun b => { b with dirLost := true }).bootFailure 0 0 0 2)
  | some (d, c) =>
    let s := { s with boot := { s.boot with dir := d, dirCopy := c } }
    let (b, d', wr) := selectBank d
    bootChosen d' b (if wr then s.setDirNow fun _ => d' else s)

/-- The boot ROM has to wait for the inhibit: it must lower trial_left, or mark the bank BAD, before it loads (R24, R43). -/
def State.bootWaits (s : State) : Bool :=
  s.sup.inhibit && match s.fl.view.directory with | some (d, _) => (selectBank d).2.2 | none => false

/-- Boot halt (R45): only the AOD runs, PWRGD_OUT stays high, and the sideband reports it. -/
def State.bootHalt (s : State) : State :=
  State.alert (({ s with boot := { s.boot with halted := true, supervisor := false } }).aodEntry 3 4 0 0 5 0) 4

/-- The firmware of a bank takes over. -/
def State.loadFirmware (s : State) (bank : Nat) : State :=
  let b := s.fl.view.image bank
  { s with
    con := { s.con with fnContract := w32 (Image.contract b) }
    boot := { s.boot with
      supervisor := true, bank := bank, version := Image.version b, security := Image.security b,
      settingsFormat := Image.settingsFormat b,
      components := (seqFrom 0 7).map fun c => (c, Image.component b c)
      digests := (seqFrom 0 7).map fun c => (c, Image.componentDigest b c) } }

/-- The profile bytes a slot holds. -/
def Flash.profileAt (f : Flash) (slot : Nat) : Bytes :=
  f.read (slotBase slot) (min 0x400000 (fieldAt (f.read (slotBase slot) 16) 0x0C 4))

/-- Logs a refused profile (R51, R546 type 0x0004): its generation, and the section and key at fault. -/
def State.profileRefused (s : State) (p : Bytes) (slot : Nat) : State :=
  s.logBoth { typ := 4, source := 0x10, severity := 2, d0 := Profile.generation p, d1 := Profile.culprit p, d2 := slot }

/-- Tries the profile slots in order and takes the first that passes R51 (R52). -/
def profileTry : List Nat → State → State
  | [], s => { s with boot := { s.boot with safe := true } }
  | k :: r, s =>
    let p := s.fl.view.profileAt k
    if Profile.refusal (s.profEnv s.boot.version s.con.fnContract) p = 0 then
      (Profile.skipped p).foldl (fun s x => s.logBoth { typ := 4, source := 0x10, severity := 0, d1 := x.1 * 65536 + x.2, d2 := k })
        { s with boot := { s.boot with profile := p, slot := k } }
    else profileTry r (s.profileRefused p k)

/-- Chooses the profile (R52): none is read in an unowned start. -/
def State.chooseProfile (s : State) : State :=
  match s.ownerHash with
  | none => { s with boot := { s.boot with unowned := true } }
  | some _ =>
    let d := s.boot.dir
    let a := if d.pendingProfile ≤ 1 then d.pendingProfile else d.activeProfile % 2
    profileTry [a, 1 - a] s

/-- A deleted settings record in the flight log (R539, type 0x2001). -/
def State.settingDeleted (s : State) (x : Setting) : State :=
  let s := s.flightRecord 0x2001 0x10 (natLe x.setting 4 ++ natLe x.format 4 ++ natLe s.boot.settingsFormat 4)
  { s with boot := { s.boot with settingsReset := satInc s.boot.settingsReset, events := latch s.boot.events 4 } }

/-- A good record of the settings store: where it stands, its generation, its sequence and its setting. -/
structure StoreRec where
  sector : Nat
  slot : Nat
  gen : Nat
  seq : Nat
  setting : Setting
deriving DecidableEq, Repr

/-- The good records of the settings store. -/
def Flash.goodRecords (f : Flash) : List StoreRec :=
  f.storeRecords.filterMap fun r => (settingAt r.2.2).map fun y => ⟨r.1, r.2.1, y.1, y.2.1, y.2.2⟩

/-- Deletes one record: its slot is programmed to zeros, through the admission point (R25, R539). -/
def State.wipeRecord (s : State) (r : StoreRec) : State :=
  (s.flashSubmit [.program (storeAddr r.sector r.slot) (zeros 32)]).settingDeleted r.setting

/-- Deletes every record whose settings_format is not the running firmware's (R539). -/
def State.deleteFormats (s : State) : State :=
  (s.fl.view.goodRecords.filter fun r => r.setting.format ≠ s.boot.settingsFormat).foldl State.wipeRecord s

/-- Reads the settings store at start: every record of another settings_format is deleted (R539); of the rest, those tagged with the applied profile's generation are reapplied, the one with the highest sequence for each setting, and every other one is discarded and logged, as is each record with a bad CRC (R55, R56). DESIGN CHOICE (log 69): a safe or unowned start applies no profile, and the records are compared with generation 0. -/
def State.readSettings (s : State) : State :=
  let recs := s.fl.view.storeRecords
  let good := s.fl.view.goodRecords
  let gen := Profile.generation s.boot.profile
  let right := good.filter fun r => r.setting.format = s.boot.settingsFormat
  let keep := governing ((right.filter fun r => r.gen = gen).map fun r => (r.gen, r.seq, r.setting))
  let last := recs.foldl (fun m r => match settingAt r.2.2, m with
    | some y, some (q, _, _) => if q < y.2.1 then some (y.2.1, r.1, r.2.1) else m
    | some y, none => some (y.2.1, r.1, r.2.1)
    | none, m => m) (none : Option (Nat × Nat × Nat))
  let bad := recs.filter fun r => (settingAt r.2.2).isNone && decide (r.2.2 ≠ zeros 32)
  let used := (seqFrom 0 16).filter fun i => recs.any fun r => r.1 = i
  let blank := (seqFrom 0 16).filter fun i =>
    !(used.contains i) && decide (s.fl.view.read (storeBase + i * 0x10000) 4 ≠ eraseMarker)
  let vals := keep.map fun y => y.2.2
  let s := State.flashSubmit { s with
    boot := { s.boot with
      settings := vals, force := vals, storeUsed := used
      storeSeq := (last.getD (0, 0, 0)).1, storeSector := (last.getD (0, 0, 0)).2.1
      storeSlot := ((recs.filter fun r => r.1 = (last.getD (0, 0, 0)).2.1).map fun r => r.2.1 + 1).foldl max 0 } } (blank.flatMap fun i => eraseOps (storeBase / 0x10000 + i))
  let s := (right.filter fun r => r.gen ≠ gen).foldl (fun s _ => s.logBoth { source := 0x10, severity := 0, typ := 1 }) s
  let s := bad.foldl (fun s _ => s.logBoth { source := 0x10, severity := 0, typ := 1 }) s
  let s := s.deleteFormats
  let (b, ops) := s.boot.compact s.fl.view gen
  State.flashSubmit { s with boot := b } ops

/-- Writes the settings of the profile's DEVICE and LIMITS sections (R53, R507, R508, R512). A rail that throttling holds lower stays there until the governor raises it (R19). -/
def State.applyDevice (s : State) : State :=
  let mv := s.prof 1 0 3 750
  let wm := s.prof 1 0 2 0
  let s := { s with
    sb := { s.sb with protocol := s.prof 1 0 1 1 }
    pwr := { s.pwr with paceMv := mv, ctrl := if wm = 1 then setBit s.pwr.ctrl 0 else clrBit s.pwr.ctrl 0 }
    sup := Supply.clamp { s.sup with
      rails := s.sup.rails.mapVal fun i r =>
        if isCoreRail i && r.on then { r with cmdMv := mv, mv := if s.sup.throttling then min r.mv mv else mv } else r } }
  s.writeLimit (w32 (s.prof 0xD 0 1 0xA3847369))

/-- Step 6 of R58: stacks trained and cleared, links of the fabric up, the withdrawn list applied and copied. -/
def State.trainMemory (s : State) (trained dies : Nat) : State :=
  let ctrls := (seqFrom 0 8).foldl (fun f i => f.modCtrl i fun c =>
    { c with trained := decide (trained / 2 ^ i % 2 = 1), quadrantUp := if trained / 2 ^ i % 2 = 1 then 15 else 0, quadrantSr := 0 }) s.fab
  let s := { s with fab := { ctrls with
    cmpPresent := dies % 16, iodLinkUp := dies % 16, ringLinkUp := if dies % 16 = 15 then 15 else 0, linkRun := []
    withdrawn := s.fl.savedList } }
  s.copyWithdrawn

/-- The ports of cohort_port_mask run as cohort links, and present slots power up under the automatic policy (R272, R284, R290). -/
def State.startPorts (s : State) : State :=
  let mask := s.prof 2 0 2 0
  let up := !s.boot.safe && !s.boot.unowned
  { s with apt := { s.apt with
      ports := (seqFrom 0 8).map fun n =>
        let p := s.port n
        (n, if mask / 2 ^ n % 2 = 1 ∧ up then { p with cohort := true }
            else if p.present ∧ up ∧ ¬ bitOf p.ctrl 5 then
              { p with slot := .powering, pwren := true, pwrLed := 2, ctrl := clrBit p.ctrl 0 }
            else p)
      formed := false, present := [] } }

/-- The host endpoint is released at step 8 unless the device is a member without a host endpoint of its own (R58, R60, R300). -/
def State.mayRelease (s : State) : Bool := s.sup.straps.cohortId == 0 || s.sup.straps.hostEn == 1

/-- The start after the firmware has been loaded: profile, settings, memory, ports, units, release (R58 steps 5 to 8). A directory lost at this start is written anew: the running bank VALID and active, the other one BAD if it was refused, else EMPTY (R44). -/
def State.startDevice (s : State) (trained dies : Nat) : State :=
  let s := s.chooseProfile
  let s := if dies % 16 = 15 then s else { s with boot := { s.boot with safe := true, profile := [] } }
  let s := s.readSettings
  let s := if s.boot.safe ∨ s.boot.unowned then s else s.applyDevice.loadTiks
  let s := s.trainMemory trained dies
  let s := s.startPorts
  let s := s.startUnits
  let ok := !s.boot.safe && !s.boot.unowned
  let s := if s.boot.dirLost then
      (s.setDirNow fun d => { (d.setBank s.boot.bank .valid) with activeBank := s.boot.bank, activeProfile := s.boot.slot, pendingProfile := 0xFF }).modBoot
        fun b => { b with dirLost := false }
    else if ok ∧ (s.boot.dir.activeProfile ≠ s.boot.slot ∨ s.boot.dir.pendingProfile ≠ 0xFF) then
      s.setDirNow fun d => { d with activeProfile := s.boot.slot, pendingProfile := 0xFF }
    else if s.boot.dir.pendingProfile ≠ 0xFF then s.setDirNow fun d => { d with pendingProfile := 0xFF } else s
  let s := if ok then s.setProfArb (fieldAt s.boot.profile 0x18 4) else s
  { s with
    hep := { s.hep with released := s.mayRelease, ddtGen := s.hep.ddtGen + 2 }
    boot := { s.boot with memberWait := ok && decide (1 < s.prof 2 0 1 1) }
    tal := { s.tal with stopped := false } }

/-- BOOT_ROM_START (R42): self-tests, bank selection and verification, and the start of R58; recovery mode loads nothing (R46). A directory write that must come before the load waits for the inhibit to lift, and the start with it. -/
def bootBody (selfTest trained dies : Nat) (s : State) : State :=
  if ¬ s.boot.pendingStart then s
  else
    let s0 := s
    let s := { s with boot := { s.boot with pendingStart := false } }
    let s := s.resumeFuses
    if selfTest ≠ 0 then ((s.selfTestFail selfTest).aodEntry 10 4 0 selfTest 0 0).bootHalt
    else if s.sup.straps.recover = 1 then
      let s := s.cruStart
      let s := match s.fl.view.directory with
        | some (d, c) => { s with boot := { s.boot with dir := d, dirCopy := c } }
        | none => s
      { s with boot := { s.boot with recovery := true } }
    else if s.bootWaits then s0
    else
      match bootBank s.cruStart with
      | (s, none) => s.bootHalt
      | (s, some b) => (s.loadFirmware b).startDevice trained dies

def execBootRomStart (selfTest trained dies : Nat) (s : State) : Host.Outcome State Fault Refusal :=
  .next (bootBody selfTest trained dies s)

/-- COHORT_MEMBER_JOIN (R60): a partner on a cohort link joins unless the indexes clash or the sizes differ. At a member the cohort has formed once the lead is among those that joined, and a member that reports over the lead's link is one reached through the lead (R292). A further cohort link of a member that has joined brings no new member. `sections` are the descriptor sections the partner sends; a partner that has joined sends them again when they change (R308; DESIGN CHOICE, log 38). -/
def joinBody (port member size hostEn serial : Nat) (sections : List (Nat × Bytes)) (s : State) : State :=
  let own := s.sup.straps.cohortId
  if ¬ s.boot.supervisor ∨ ¬ (s.port port).cohort ∨ 4 ≤ member then s
  else if member = own then
    ({ s with boot := { s.boot with conflicts := s.boot.conflicts ++ [port] } }.modPort port fun p => { p with dl := false }).report
      { source := 0x61, severity := 2, d0 := port, d1 := member }
  else if size ≠ s.prof 2 0 1 1 then s.report { source := 0x61, severity := 2, d0 := port, d1 := size }
  else if s.boot.members.contains member ∧ s.apt.present.contains member ∧ (s.port port).partner = some member then
    { s with apt := { s.apt with memberDdt := s.apt.memberDdt.put member sections }, hep := { s.hep with ddtGen := s.hep.ddtGen + 2 } }
  else if size ≤ member ∨ ¬ (s.boot.memberWait ∨ s.boot.members.contains member ∨ (own ≠ 0 ∧ member ≠ 0 ∧ s.boot.members.contains 0)) then s
  else
    let s := if own ≠ 0 ∧ member ≠ 0 ∧ (s.port port).partner = some 0 then s else s.modPort port fun p => { p with partner := some member }
    let fresh := !s.boot.members.contains member
    { s with
      boot := { s.boot with
        members := if fresh then s.boot.members ++ [member] else s.boot.members
        memberWait := s.boot.memberWait &&
          (if own = 0 then decide ((if fresh then s.boot.members.length + 1 else s.boot.members.length) + 1 < size) else decide (member ≠ 0)) }
      apt := { s.apt with
        formed := decide (own = 0 ∨ member = 0) || s.boot.members.contains 0, events := latch s.apt.events 3
        present := if s.apt.present.contains member then s.apt.present else s.apt.present ++ [member]
        memberInfo := s.apt.memberInfo.put member (hostEn % 2, serial)
        memberDdt := s.apt.memberDdt.put member sections }
      hep := { s.hep with ddtGen := s.hep.ddtGen + 2 } }

def execCohortMemberJoin (port member size hostEn serial : Nat) (sections : List (Nat × Bytes)) (s : State) :
    Host.Outcome State Fault Refusal := .next (joinBody port member size hostEn serial sections s)

/-- MEMBER_WAIT_EXPIRY (R60): the lead reports the members still absent; a member without a lead runs alone. -/
def memberWaitBody (s : State) : State :=
  if s.boot.memberWait then
    let s := { s with boot := { s.boot with memberWait := false } }
    if s.sup.straps.cohortId = 0 then
      ((seqFrom 1 (s.prof 2 0 1 1 - 1)).filter fun m => !(s.boot.members.contains m)).foldl
        (fun s m => s.report { source := 0x61, severity := 2, d0 := m }) s
    else s
  else s

def execMemberWaitExpiry (s : State) : Host.Outcome State Fault Refusal := .next (memberWaitBody s)

end Sys2Proof.Machine
end

