-- ==== Sys2Proof/Machine/Temper.lean ====
section
/-! DEFINITION. The Temper code of spec/03 R85 and R86: a shortened Reed–Solomon code over GF(2^8) with the block's address as virtual symbols. -/

namespace Sys2Proof.Machine.Temper

open Sys2Proof Sys2Proof.Machine

/-- Multiplication by α = 0x02 modulo x^8 + x^4 + x^3 + x^2 + 1 (0x11D). -/
def timesAlpha (b : Byte) : Byte := if b.getLsbD 7 then (b <<< 1) ^^^ 0x1D#8 else b <<< 1

/-- Product over the multiplier's `n` low bits. -/
def mulN : Nat → Byte → Byte → Byte
  | 0, _, _ => 0
  | n + 1, a, b => (if b.getLsbD 0 then a else 0) ^^^ mulN n (timesAlpha a) (b >>> 1)

/-- Product in GF(2^8). -/
def mul (a b : Byte) : Byte := mulN 8 a b

/-- α to the power `n`. -/
def alpha : Nat → Byte
  | 0 => 1
  | n + 1 => timesAlpha (alpha n)

/-- The product of the first `n` squarings, for inverses. -/
def invN : Nat → Byte → Byte → Byte
  | 0, acc, _ => acc
  | n + 1, acc, a => let q := mul a a; invN n (mul acc q) q

/-- The inverse in GF(2^8), 0 for 0. -/
def inv (a : Byte) : Byte := invN 7 1 a

/-- Coefficients of g(x) = (x − α^0) … (x − α^(n−1)), highest power first. -/
def generator : Nat → Bytes
  | 0 => [1]
  | n + 1 =>
    let g := generator n
    List.zipWith (· ^^^ ·) (g ++ [0]) (0 :: g.map (mul (alpha n)))

/-- One step of the division by g(x): the remainder after one more message symbol. -/
def divStep (g : Bytes) (rem : Bytes) (m : Byte) : Bytes :=
  let f := m ^^^ rem.getD 0 0
  List.zipWith (· ^^^ ·) (rem.drop 1 ++ [0]) ((g.drop 1).map (mul f))

/-- The eight check symbols of the virtual and data symbols (R85, Encoding). -/
def checks (msg : Bytes) : Bytes := msg.foldl (divStep (generator 8)) (zeros 8)

/-- Bit `i` of a byte as a number. -/
def bitN (b : Byte) (i : Nat) : Nat := if b.getLsbD i then 1 else 0

/-- Data symbol `i` of a 64-byte block: beat b carries bit i mod 8 of byte 8b + i/8 (R85, Data mapping). -/
def dataSymbol (blk : Bytes) (i : Nat) : Byte :=
  BitVec.ofNat 8 (pack ((seqFrom 0 8).map fun b => (b, bitN (blk.getD (8 * b + i / 8) 0) (i % 8))))

/-- The 64 bytes of the data symbols. -/
def blockOf (syms : Bytes) : Bytes :=
  (seqFrom 0 64).map fun k =>
    BitVec.ofNat 8 (pack ((seqFrom 0 8).map fun j => (j, bitN (syms.getD (8 * (k % 8) + j) 0) (k / 8))))

/-- The five virtual symbols: PA[38:6] zero-extended to 40 bits, least significant byte first. -/
def virtuals (pa : Nat) : Bytes := natLe (pa % 2 ^ 39 / 64) 5

/-- The 77 symbols of a block at an address. -/
def codeword (pa : Nat) (blk : Bytes) : Bytes :=
  let m := virtuals pa ++ (seqFrom 0 64).map (dataSymbol blk)
  m ++ checks m

/-- Syndrome `j` of a received codeword: its value at α^j. -/
def syndrome (w : Bytes) (j : Nat) : Byte := w.foldl (fun acc s => mul acc (alpha j) ^^^ s) 0

/-- The eight syndromes. -/
def syndromes (w : Bytes) : Bytes := (seqFrom 0 8).map (syndrome w)

/-- The locator of codeword position `i` of 77: α to the power 76 − i. -/
def locator (i : Nat) : Byte := alpha (76 - i)

/-- Eliminates one unknown: from equations (coefficients, right side) the first with a nonzero leading coefficient is used. -/
def eliminate (eqs : List (Bytes × Byte)) : Option ((Bytes × Byte) × List (Bytes × Byte)) :=
  match eqs.find? fun e => e.1.getD 0 0 ≠ 0 with
  | none => none
  | some p =>
    let k := inv (p.1.getD 0 0)
    let pc := p.1.map (mul k); let pv := mul k p.2
    some ((pc.drop 1, pv), (eqs.filter (· ≠ p)).map fun e =>
      let f := e.1.getD 0 0
      (List.zipWith (· ^^^ ·) (e.1.drop 1) ((pc.drop 1).map (mul f)), e.2 ^^^ mul f pv))

/-- Solves for `n` magnitudes; none where the equations fix none. -/
def solve : Nat → List (Bytes × Byte) → Option Bytes
  | 0, eqs => if eqs.all fun e => e.2 = 0 then some [] else none
  | n + 1, eqs =>
    match eliminate eqs with
    | none => none
    | some ((c, v), rest) =>
      match solve n rest with
      | none => none
      | some xs => some ((List.zipWith mul c xs).foldl (· ^^^ ·) v :: xs)

/-- Magnitudes of errors at the given positions that explain every syndrome, if there are any. -/
def magnitudes (syn : Bytes) (pos : List Nat) : Option Bytes :=
  solve pos.length ((seqFrom 0 8).map fun j =>
    (pos.map fun i => (seqFrom 0 j).foldl (fun a _ => mul a (locator i)) 1, syn.getD j 0))

/-- What the decoder reports of a block. -/
inductive Result where
  | clean
  /-- Corrected: codeword positions and the corrections. -/
  | corrected (errs : List (Nat × Byte))
  /-- Uncorrectable; `virtual` where only a virtual symbol would explain it. -/
  | uncorrectable (virt : Bool)
deriving DecidableEq, Repr

/-- The pairs and single positions tried beyond the marked pins, one and two further errors. -/
def candidates : List (List Nat) :=
  [] :: ((seqFrom 0 77).map fun i => [i]) ++ (seqFrom 0 77).flatMap fun i => (seqFrom (i + 1) (76 - i)).map fun j => [i, j]

/-- The first set of further positions that explains the syndromes together with the marked pins. -/
def explain (syn : Bytes) (marks : List Nat) : Option (List (Nat × Byte)) :=
  candidates.findSome? fun c =>
    if c.any fun i => marks.contains i then none
    else (magnitudes syn (marks ++ c)).map fun m => ((marks ++ c).zip m).filter fun p => p.2 ≠ 0

/-- Decodes a received codeword with the channel's marked pins (R86): corrections of a virtual symbol are uncorrectable. -/
def decode (marks : List Nat) (w : Bytes) : Result :=
  let syn := syndromes w
  if syn.all (· = 0) then .clean
  else
    match explain syn (marks.map (· + 5)) with
    | none => .uncorrectable false
    | some errs => if errs.any fun p => decide (p.1 < 5) then .uncorrectable true else .corrected errs

/-- A stored codeword with errors on its pins: pin `i` is codeword position i + 5. -/
def corrupt (w : Bytes) (errs : List (Nat × Byte)) : Bytes :=
  errs.foldl (fun w e => modNth w (e.1 + 5) (· ^^^ e.2)) w

end Sys2Proof.Machine.Temper
end

