-- ==== Sys2Proof/Machine/Fabric.lean ====
section
/-! DEFINITION. The fabric and the memory subsystem: replays, bridges, scrub, withdrawal, the snapshot hooks and their registers (spec/03). -/

namespace Sys2Proof.Machine

open Sys2Proof

/-- Latches a fabric event (BLP_LINK_EVENTS). -/
def Fabric.event (f : Fabric) (i : Nat) : Fabric := { f with linkEvents := latch f.linkEvents i }

/-- A die link declared down (R550): the device withdraws from the job, the entry is logged and the warm reset starts. -/
def State.dieLinkDown (s : State) (link replays : Nat) : State :=
  let f := s.fab
  let f := { f with
    iodLinkUp := if link < 4 then f.iodLinkUp - f.iodLinkUp / 2 ^ link % 2 * 2 ^ link else f.iodLinkUp
    ringLinkUp := if 4 ≤ link then f.ringLinkUp - f.ringLinkUp / 2 ^ (link - 4) % 2 * 2 ^ (link - 4) else f.ringLinkUp }
  let s := State.withdrawJob { s with fab := f.event (8 + link % 4) }
  (s.logBoth { typ := 8, source := 0x10, severity := 4, bit := 8 + link % 4, reg := 4, block := 4, d0 := link, d1 := replays }).orderlyReset 4

/-- LINK_FLIT_REPLAY (R76, R550): a flit that fails its CRC is replayed and counted; 16 consecutive failed replays take the link down. -/
def replayBody (link : Nat) (failed : Bool) (s : State) : State :=
  if 8 ≤ link then s
  else
    let run := if failed then s.fab.linkRun.getD link 0 + 1 else 0
    let f := { s.fab with retryCount := satInc s.fab.retryCount, linkRun := s.fab.linkRun.put link run }
    let s := { s with fab := f.event link }
    if run = 16 then s.dieLinkDown link run else s

def execLinkFlitReplay (link : Nat) (failed : Bool) (s : State) : Host.Outcome State Fault Refusal := .next (replayBody link failed s)

/-- The unit of a timing domain is powered (R77): the host link, the accelerator slot, the drive, the Ethernet ports, the HBM quadrant, the flash and the oscillator, or the JTAG port. DEDUCED (log 24) from the unit that R77 names for each index. -/
def State.domainPowered (s : State) (n : Nat) : Bool :=
  let slot := fun (p : Nat) => s.sup.pwrgd && ((s.port p).cohort || decide ((s.port p).slot = .on)) && decide (s.pwr.state ≠ .p2)
  if n < 16 ∨ n = 192 then s.sup.pwrgd
  else if n < 144 then slot ((n - 16) / 16)
  else if n < 160 then s.sup.pwrgd && (s.sto.drives.getD ((n - 144) / 4) {}).present
  else if n < 192 ∨ (205 ≤ n ∧ n ≤ 212) then s.sup.pwrgd && decide (s.pwr.state ≠ .p2)
  else if n ≤ 200 then slot (n - 193)
  else if n ≤ 204 then s.sup.pwrgd && (s.sto.drives.getD (n - 201) {}).present
  else if n ≤ 244 then s.sup.pwrgd
  else if n ≤ 246 then s.sup.aodUp
  else n == 247 && s.sup.pwrgd

/-- The clocked side of a domain runs (R77, R94): the link it belongs to is up, or the quadrant is trained. -/
def State.domainClock (s : State) (n : Nat) : Bool :=
  let port := fun (p : Nat) => (s.port p).dl
  let drive := fun (d : Nat) => (s.sto.drives.getD d {}).ready
  let lane := fun (m : Nat) => (s.net.ports.getD (m * s.netPorts / 32) {}).linkUp
  s.domainPowered n &&
    (if n < 16 ∨ n = 192 then s.hep.linkUp
    else if n < 144 then port ((n - 16) / 16)
    else if n < 160 then drive ((n - 144) / 4)
    else if n < 192 then lane (n - 160)
    else if n ≤ 200 then port (n - 193)
    else if n ≤ 204 then drive (n - 201)
    else if n ≤ 212 then (seqFrom (4 * (n - 205)) 4).any lane
    else if n ≤ 244 then decide ((s.fab.ctrl ((n - 213) / 4)).quadrantUp / 2 ^ ((n - 213) % 4) % 2 = 1)
    else true)

/-- BRIDGE_ENTRY_OVERFLOW (R79): a receive bridge of a powered domain (R80) drops the entry and counts it; on an Ethernet lane the frame drop is a receive error. -/
def overflowBody (domain : Nat) (s : State) : State :=
  if 192 ≤ domain ∨ ¬ s.domainPowered domain then s
  else
    let f := { s.fab with domains := s.fab.domains.upd domain {} fun d => { d with overflow := satInc d.overflow } }
    let s := { s with fab := f.event 14 }
    if 160 ≤ domain ∧ domain < 192 then s.netRxError (domain - 160) else s

def execBridgeEntryOverflow (domain : Nat) (s : State) : Host.Outcome State Fault Refusal := .next (overflowBody domain s)

/-! ## Patrol scrub and errors (R87 to R90) -/

/-- The entry a full table gives up: the lowest count, and of equal counts the oldest last event (R90). -/
def victim : List CeEntry → Option CeEntry
  | [] => none
  | e :: r =>
    match victim r with
    | none => some e
    | some v => if e.count < v.count ∨ (e.count = v.count ∧ e.last < v.last) then some e else some v

/-- The table after one corrected error in a pane (R90). -/
def MemCtrl.ceEvent (c : MemCtrl) (pane : Nat) : MemCtrl :=
  let t := c.ceClock + 1
  let tab :=
    if c.ceTable.any fun e => e.pane = pane then
      c.ceTable.map fun e => if e.pane = pane then { e with count := e.count + 1, last := t } else e
    else
      let kept := if c.ceTable.length < 4096 then c.ceTable
        else match victim c.ceTable with | some v => c.ceTable.filter (· ≠ v) | none => c.ceTable
      kept ++ [⟨pane, 1, t⟩]
  { c with ceTable := tab, ceClock := t }

/-- Corrected errors counted for a pane. -/
def MemCtrl.ceOf (c : MemCtrl) (pane : Nat) : Nat := match c.ceTable.find? fun e => e.pane = pane with | some e => e.count | none => 0

/-- One corrected pin in one block: a pin with 64 distinct blocks is marked, a third pin of a channel refused (R87). -/
def pinHit (i ch pin blk : Nat) (s : State) : State :=
  let c := s.fab.ctrl i
  let hits := if c.pinHits.contains (ch, pin, blk) then c.pinHits else c.pinHits ++ [(ch, pin, blk)]
  let s := { s with fab := s.fab.modCtrl i fun c => { c with pinHits := hits } }
  if (hits.filter fun h => h.1 = ch ∧ h.2.1 = pin).length = 64 then
    let m := c.marks.getD ch []
    if m.contains pin then s
    else if m.length < 2 then
      { s with fab := s.fab.modCtrl i fun c => { c with marks := c.marks.put ch (m ++ [pin]), events := latch c.events 2 } }
    else
      State.report { s with fab := s.fab.modCtrl i fun c => { c with events := latch c.events 3 } }
        { typ := 6, source := 0x20 + i, severity := 1, bit := 3, reg := 0x1000 * (i + 1) + 4, block := 5, d0 := ch, d1 := pin, d2 := i }
  else s

/-- A block corrected by controller `i` (R87, R88, R90). DESIGN CHOICE (log 21): sym_a and sym_b name the pins that carry no mark first, in the order found; a block corrected in marked pins only names its first one in sym_a. -/
def State.corrected (s : State) (i pa : Nat) (errs : List (Nat × Byte)) : State :=
  let ch := channelOf pa
  let marks := (s.fab.ctrl i).marks.getD ch []
  let pins := errs.map fun e => e.1 - 5
  let new := pins.filter fun p => !(marks.contains p)
  let sy := syndWord (new.getD 0 (pins.getD 0 0)) (new.getD 1 0x7F) 0
  let s := { s with fab := s.fab.modCtrl i fun c =>
    { c with ceCount := satInc c.ceCount, events := latch c.events 0, lastPane := errPaneWord pa, lastSynd := sy } }
  let s := s.report { typ := 6, source := 0x20 + i, severity := 1, bit := 0, reg := 0x1000 * (i + 1) + 4, block := 5,
                      d0 := paneOf pa, d1 := sy.toNat, d2 := i }
  if new = [] then s
  else
    let s := new.foldl (fun s p => pinHit i ch p (pa / 64) s) s
    let s := { s with fab := s.fab.modCtrl i fun c => c.ceEvent (paneOf pa) }
    if field s.fab.withdrawCtrl 0 8 ≤ (s.fab.ctrl i).ceOf (paneOf pa) then s.candidate i (paneOf pa) else s

/-- Blocks of a stack. -/
def stackBlocks : Nat := 2 ^ 30

/-- The scrub moves on; at the end of the stack the pass is done and the pin counts start again (R87, R89). -/
def MemCtrl.scrubbed (c : MemCtrl) : MemCtrl :=
  if c.scrubNext + 1 = stackBlocks then { c with scrubNext := 0, pinHits := [], events := latch c.events 4 }
  else { c with scrubNext := c.scrubNext + 1 }

/-- PATROL_SCRUB (R84, R89): outside P2, where no request reaches the stacks, the next block is read with the pin errors the DRAM shows, decoded under R86, corrected and written back or found uncorrectable. -/
def scrubBody (i : Nat) (errs : List (Nat × Byte)) (s : State) : State :=
  if 8 ≤ i ∨ ¬ bitOf s.fab.scrubCtrl 8 ∨ ¬ (s.fab.ctrl i).trained ∨ s.pwr.state = .p2 then s
  else
    let pa := i * 2 ^ 36 + (s.fab.ctrl i).scrubNext * 64
    let w := Temper.corrupt (Temper.codeword pa (Mem.read 0 s.fab.hbm pa 64)) errs
    let s := { s with fab := { s.fab with ctrls := wakeQuadrants s.fab.ctrls pa 64 } }
    let s :=
      if s.fab.bad.contains (pa / 64) then s.uncorrectable i pa false
      else match Temper.decode ((s.fab.ctrl i).marks.getD (channelOf pa) []) w with
        | .clean => s
        | .corrected es => s.corrected i pa es
        | .uncorrectable v => s.uncorrectable i pa v
    { s with fab := s.fab.modCtrl i MemCtrl.scrubbed }

def execPatrolScrub (ctrl : Nat) (errors : List (Nat × Byte)) (s : State) : Host.Outcome State Fault Refusal :=
  .next (scrubBody ctrl errors s)

/-- PANE_ERROR_AGE_OUT (R90): an entry with no new event for age_hours leaves the table. -/
def execPaneErrorAgeOut (ctrl pane : Nat) (s : State) : Host.Outcome State Fault Refusal :=
  .next (if ctrl < 8 then { s with fab := s.fab.modCtrl ctrl fun c => { c with ceTable := c.ceTable.filter fun e => e.pane ≠ pane } }
    else s)

/-! ## Snapshot hooks (R91, R92) -/

/-- ARMED_PANE_WRITE (R91): a write at its controller's admission point: held where the pane is armed, waiting where the hold buffer is full, applied otherwise. In P2 no request reaches the stacks (R84). -/
def execArmedPaneWrite (pa : Nat) (bytes : Bytes) (s : State) : Host.Outcome State Fault Refusal :=
  .next (if s.pwr.state = .p2 then s
    else { s with fab := (chunks paneBytes (pa % 2 ^ 39) bytes.length).foldl (fun f p =>
      f.enter p.1 (slice bytes (p.1 - pa % 2 ^ 39) p.2)) s.fab })

/-- A pane's copy is done: done takes parity's value and its held writes are admitted in arrival order (R91). Writes to it that still wait behind the full hold buffer while its copy waited for a parison pane waited on the parison area too (R221). -/
def Fabric.copyDone (f : Fabric) (p : Nat) : Fabric :=
  let i := p / 2 ^ 20
  let starving := f.starved.contains p
  let mine := (f.ctrl i).held.filter fun w => paneOf w.pa = p
  let f := { f with
    doneBits := if f.parity then (if f.doneBits.contains p then f.doneBits else f.doneBits ++ [p]) else f.doneBits.filter (· ≠ p)
    copyReq := f.copyReq.filter (· ≠ p), starved := f.starved.filter (· ≠ p) }
  let f := f.modCtrl i fun c => { c with held := c.held.filter fun w => paneOf w.pa ≠ p }
  let f := mine.foldl (fun f w => f.takeIn w.pa w.bytes) f
  let late := if starving then ((f.ctrl i).waiting.filter fun w => paneOf w.pa = p).length else 0
  let f := { f with parisonWaits := satAdd f.parisonWaits late, parisonFull := f.parisonFull || decide (late ≠ 0) }
  drainWaiting i (f.ctrl i).waiting.length f

/-- A held write that fails at its admission: it covers an uncorrectable block only in part (R88). -/
def Fabric.failing (f : Fabric) (p : Nat) : List HeldWrite :=
  (f.ctrl (p / 2 ^ 20)).held.filter fun w => paneOf w.pa = p && f.badPartial w.pa w.bytes.length

/-- A pane's copy is done, and what waited on its writes goes on. Where one of them fails, its controller counts the block and the commands that wait on the pane end with 0x30. DEDUCED (log 25): the hold buffer does not say whose write it is. -/
def State.releasePane (s : State) (p : Nat) : State :=
  let bad := s.fab.failing p
  let s := if bad = [] then s else
    { s with fab := { s.fab with unseen := s.fab.unseen.map fun u => if u.panes.contains p then { u with status := 0x30, r0 := 0, r1 := 0 } else u } }
  let s := bad.foldl (fun s w => s.uncorrectable (stackOf w.pa) (w.pa / 64 * 64) false) s
  State.seen { s with fab := s.fab.copyDone p }

/-- Flips parity at once in every controller, which acknowledges it (R91). DESIGN CHOICE (log 26): MEM_SNAP_PARITY[15:8] is read as the number of controllers, 8 after a flip; R95 does not say whether it is a number or a bit for each. -/
def Fabric.flip (f : Fabric) : Fabric :=
  { f with parity := !f.parity, flipAcks := 8,
           ctrls := (seqFrom 0 8).foldl (fun t i => t.upd i {} fun c => { c with parity := !f.parity }) f.ctrls }

/-- Adds a pane to scope, not armed: done takes parity's value in the same action (R91). -/
def Fabric.addScope (f : Fabric) (p : Nat) : Fabric :=
  { f with
    scope := if f.scope.contains p then f.scope else f.scope ++ [p]
    doneBits := if f.parity then (if f.doneBits.contains p then f.doneBits else f.doneBits ++ [p]) else f.doneBits.filter (· ≠ p) }

/-- SELF_REFRESH_ENTER (R84, R500): a quadrant with no traffic enters self-refresh, its admitted writes already in the DRAM, or leaves it on a request. -/
def execSelfRefreshEnter (stack quadrant : Nat) (enter : Bool) (s : State) : Host.Outcome State Fault Refusal :=
  .next (if stack < 8 ∧ quadrant < 4 then
      { s with fab := s.fab.modCtrl stack fun c =>
          let b := c.quadrantSr / 2 ^ quadrant % 2
          { c with quadrantSr := c.quadrantSr - b * 2 ^ quadrant + b2n enter * 2 ^ quadrant } }
    else s)

/-! ## MEM_CTRL_WRITE (R96) -/

/-- A field after a write: unchanged where the value is out of range. -/
def rangeField (old new lo hi : Nat) : Nat := if lo ≤ new ∧ new ≤ hi then new else old

/-- MEM_WITHDRAW_CTRL after a write. -/
def withdrawCtrlWrite (old v : W32) : W32 :=
  w32 (pack [(0, rangeField (field old 0 8) (field v 0 8) 2 255), (8, rangeField (field old 8 8) (field v 8 8) 1 168)])

/-- MEM_SCRUB_CTRL after a write. -/
def scrubCtrlWrite (old v : W32) : W32 :=
  w32 (pack [(0, rangeField (field old 0 8) (field v 0 8) 6 168), (8, field v 8 1)])

/-- The effect of a write of the two registers; a refused field or RSV bit is counted in the memory fault log (R14, R96). -/
def State.memCtrlWrite (s : State) (off : Nat) (v : W32) : State :=
  let f := s.fab
  let (f', same) :=
    if off = 0x8 then let w := withdrawCtrlWrite f.withdrawCtrl v; ({ f with withdrawCtrl := w }, decide (w = v))
    else if off = 0x10 then let w := scrubCtrlWrite f.scrubCtrl v; ({ f with scrubCtrl := w }, decide (w = v))
    else (f, true)
  if same then { s with fab := f' }
  else State.report { s with fab := { f' with faultCount := f'.faultCount + 1 } }
    { source := 0x10, severity := 0, reg := off, block := 5, d0 := v.toNat }

/-- MEM_CTRL_WRITE (R96): only the supervisor and core 3; any other core takes an access trap. -/
def execMemCtrlWrite (core offset : Nat) (value : W32) (s : State) : Host.Outcome State Fault Refusal :=
  .next (if core = 0 ∨ core = 3 then s.memCtrlWrite offset value else s.accessTrap core offset)

end Sys2Proof.Machine
end

