-- ==== Sys2Proof/Machine/QueueOps.lean ====
section
/-! DEFINITION. Queues: enable, disable, doorbell, completion head, fetch and start (spec/04 R97 to R109, R121). -/

namespace Sys2Proof.Machine

open Sys2Proof

/-- Queue limits of a function by engine code (R97). -/
def queueLimit (fn engine : Nat) : Nat :=
  let mgmt := fn == 0 || decide (16 ≤ fn)
  match engine with
  | 1 => 64
  | 2 => if mgmt then 32 else 0
  | 3 => if mgmt then 16 else 0
  | 4 => 64
  | 5 => if mgmt then 4 else 2
  | _ => 0

/-- HEP_FN_QLIMITS of a function (R101). -/
def qlimitsWord (fn : Nat) : W32 :=
  w32 (pack [(0, queueLimit fn 1), (8, queueLimit fn 2), (14, queueLimit fn 3), (19, queueLimit fn 4), (27, queueLimit fn 5)])

/-- Queues of an engine that are enabled on a function. -/
def FnQueues.enabled (f : FnQueues) (engine : Nat) : Nat :=
  (f.queues.filter fun p => decide (p.2.state ≠ .disabled ∧ p.2.engine = engine)).length

/-- The majors the running firmware serves (R101). -/
def Contract.servesMajor (c : Contract) (m : Nat) : Bool :=
  decide (field c.fnContract 16 8 ≤ m) && decide (m ≤ field c.fnContract 8 8)

/-- The configuration of an enable is valid (R102). -/
def Contract.configOk (c : Contract) (fn : Nat) (u : Queue) : Bool :=
  let e := u.engine
  decide (1 ≤ e ∧ e ≤ 5) && decide (4 ≤ u.sqLog ∧ u.sqLog ≤ 16) && decide (u.sqLog + 1 ≤ u.cqLog ∧ u.cqLog ≤ 17) &&
    c.servesMajor (field u.ctrl 16 4) && decide (u.sqBase.toNat % 4096 = 0) && decide (u.cqBase.toNat % 4096 = 0) &&
    decide ((c.fn fn).enabled e < queueLimit fn e)

/-- A pause cause of an engine's queues on a function is in force (R102). -/
def Contract.pauseCause (c : Contract) (fn engine : Nat) : Bool := (c.fn fn).quiesced || c.pausedEngines.contains engine

/-- HEP_QCTRL as software may set it: reserved bits read 0. -/
def qctrlMask : W32 := 0x000F7FFF#32

/-- The generation after one more enable: from 255 to 1, never 0 (R102). -/
def nextGeneration (g : Nat) : Nat := if g = 255 then 1 else g + 1

/-- An enable write at a queue (R102): a valid configuration starts it at zero counts in RUNNING, or PAUSED under a pause cause; an invalid one leaves it DISABLED with config_invalid. DESIGN CHOICE (log 29): R102 does not say what HEP_QCTRL holds after a refused enable; it holds the written fields with enable 0. -/
def enableQueue (c : Contract) (fn : Nat) (u : Queue) (ctrl : W32) : Queue :=
  let u' := { u with ctrl := ctrl &&& qctrlMask }
  if u.state = .disabled then
    if c.configOk fn u' then
      { u' with
        state := if c.pauseCause fn u'.engine then .paused else .running
        generation := nextGeneration u.generation
        sqHead := 0, cqTail := 0, cqHead := 0, seq := 0, tail := 0, fetched := [], running := [], owed := [] }
    else { u' with ctrl := clrBit u'.ctrl 0, err := latch u.err 5 }
  else if clrBit u'.ctrl 0 = clrBit u.ctrl 0 then u
  else { u with err := latch u.err 3 }

/-- QUEUE_ENABLE: HEP_QCTRL written with enable = 1. -/
def State.enableQ (s : State) (fn q : Nat) (ctrl : W32) : State :=
  let s := if (s.queue fn q).state = .disabled then s.dropArrived (.fetch fn q) else s
  (s.modQueue fn q fun u => enableQueue s.con fn u ctrl).evalIntx fn

/-- The commands fetched and not started complete with 0x21, in sequence order (R102). -/
def abortAll (fn q : Nat) : List Cmd → State → State
  | [], s => s
  | c :: r, s =>
    abortAll fn q r <|
      (s.modQueue fn q fun u =>
        { u with running := u.running ++ [c], fetched := u.fetched.filter fun d => d.handle ≠ c.handle }).finish
        ⟨fn, q, c.handle⟩ 0x21 0 0

/-- The waiting DIAG_READ commands of a queue end with 0x21 (R548). -/
def endWaiters (fn q : Nat) : List CmdRef → State → State
  | [], s => s
  | r :: rs, s =>
    if r.fn = fn ∧ r.q = q then
      endWaiters fn q rs
        ({ s with log := { s.log with waiters := s.log.waiters.filter (· ≠ r) } }.finish r 0x21 0 0)
    else endWaiters fn q rs s

/-- A disable write: RUNNING, PAUSED and ERROR go to STOPPING, and to DISABLED once the last running command has posted its final record (R102). -/
def State.disableQ (s : State) (fn q : Nat) : State :=
  let u := s.queue fn q
  if u.state = .disabled ∨ u.state = .stopping then s
  else
    let s := s.modQueue fn q fun u => { u with state := .stopping, ctrl := clrBit u.ctrl 0 }
    let s := abortAll fn q u.fetched s
    let s := endWaiters fn q s.log.waiters s
    (s.settleQ fn q).evalIntx fn

/-- A write of a base register or of HEP_QERR (R100): bases are locked while the queue is not DISABLED, and the rest is read-only or has an operation of its own. -/
def Queue.regWrite (u : Queue) (off : Nat) (v : W32) : Queue :=
  let locked := { u with err := latch u.err 3 }
  let lo := fun (a : W64) => BitVec.ofNat 64 (a.toNat / 2 ^ 32 * 2 ^ 32 + v.toNat)
  let hi := fun (a : W64) => BitVec.ofNat 64 (a.toNat % 2 ^ 32 + v.toNat * 2 ^ 32)
  match off with
  | 0x00 => if u.state = .disabled then { u with sqBase := lo u.sqBase } else locked
  | 0x04 => if u.state = .disabled then { u with sqBase := hi u.sqBase } else locked
  | 0x08 => if u.state = .disabled then { u with cqBase := lo u.cqBase } else locked
  | 0x0C => if u.state = .disabled then { u with cqBase := hi u.cqBase } else locked
  | 0x10 =>
    let w := clrBit (v &&& qctrlMask) 0
    if u.state = .disabled then { u with ctrl := w } else if w = clrBit u.ctrl 0 then u else locked
  | 0x24 => { u with err := w1c u.err v }
  | _ => u

/-- The bits of a queue register that are no RSV field (R100). -/
def queueBits (off : Nat) : W32 :=
  match off with
  | 0x10 => qctrlMask
  | 0x14 => 0xFF0F#32
  | 0x24 => 0x3F#32
  | _ => if off < 0x30 then 0xFFFFFFFF#32 else 0#32

/-- An ignored BAR2 write enters the function's fault log (R14, R99). -/
def State.fnFault (s : State) (fn off : Nat) (v : W32) : State :=
  State.rsvNote (s.modFn fn fun f => { f with faultCount := f.faultCount + 1 }) true 0 off v

/-- A nonzero value in an RSV field of a queue register (R14). -/
def State.queueRsv (s : State) (fn q off : Nat) (v : W32) : State :=
  if v &&& ~~~(queueBits off) = 0#32 then s else s.fnFault fn (64 * q + off) v

/-- The code of a queue's state (R100). -/
def QState.code : QState → Nat
  | .disabled => 0 | .running => 1 | .paused => 2 | .stopping => 3 | .error => 4

/-- A doorbell write (R103, R104). -/
def Queue.doorbell (u : Queue) (tail : Nat) : Queue :=
  let t := tail % 2 ^ 32
  match u.state with
  | .running | .paused =>
    if 2 ^ 31 ≤ (t + 2 ^ 32 - u.tail) % 2 ^ 32 ∨ 2 ^ u.sqLog < (t + 2 ^ 32 - u.sqHead) % 2 ^ 32 then
      { u with state := .error, err := latch u.err 0 }
    else { u with tail := t }
  | _ => { u with ignored := satInc u.ignored }

/-- A write of HEP_QCQ_HEAD (R104). -/
def Queue.cqHeadWrite (u : Queue) (head : Nat) : Queue :=
  let h := head % 2 ^ 32
  let d := (h + 2 ^ 32 - u.cqHead) % 2 ^ 32
  if 2 ^ 31 ≤ d ∨ (u.cqTail + 2 ^ 32 - u.cqHead) % 2 ^ 32 < d then
    { u with err := latch u.err 4, ignored := satInc u.ignored }
  else { u with cqHead := h }

/-- A doorbell at a queue; a refused one is a queue in ERROR and is reported. -/
def State.doorbellQ (s : State) (fn q tail : Nat) : State :=
  let before := (s.queue fn q).state
  let s := s.modQueue fn q fun u => u.doorbell tail
  if (s.queue fn q).state = .error ∧ before ≠ .error then
    s.report { source := 0x60, severity := 2, bit := 0, reg := 0x24, d0 := fn * 256 + q }
  else s

/-- A completion head write at a queue; the INTx level is evaluated after it (R119). -/
def State.cqHeadQ (s : State) (fn q head : Nat) : State := (s.modQueue fn q fun u => u.cqHeadWrite head).evalIntx fn

/-- The value of a queue register (R100). -/
def State.queueRead (s : State) (fn q off : Nat) (waiting : Bool) : Nat :=
  let u := s.queue fn q
  match off with
  | 0x00 => u.sqBase.toNat % 2 ^ 32
  | 0x04 => u.sqBase.toNat / 2 ^ 32
  | 0x08 => u.cqBase.toNat % 2 ^ 32
  | 0x0C => u.cqBase.toNat / 2 ^ 32
  | 0x10 => u.ctrl.toNat
  | 0x14 => pack [(0, u.state.code), (3, b2n waiting), (8, u.generation)]
  | 0x18 => u.sqHead
  | 0x1C => u.cqTail
  | 0x20 => u.cqHead
  | 0x24 => u.err.toNat
  | 0x28 => u.seq
  | 0x2C => u.ignored
  | _ => 0

/-- A software write of a sync counter (R108, R70). -/
def State.syncWrite (s : State) (fn index : Nat) (v : W32) : State :=
  if index < 4096 then s.modFn fn fun f => { f with sync := f.sync.put index v } else s

/-- The handle of the command with sequence `n` (R115). -/
def handleOf (engine fn q n generation : Nat) : Nat :=
  engine * 2 ^ 56 + (fn * 256 + q) * 2 ^ 40 + n * 2 ^ 8 + generation



/-- A command of the queue is fetchable (R106); a queue that the lead carries stops fetching once the lead is gone (R297). -/
def State.fetchable (s : State) (fn q : Nat) : Bool :=
  let u := s.queue fn q
  decide (u.state = .running ∨ u.state = .paused) && decide (u.sqHead ≠ u.tail) && decide (u.fetched.length < 64) &&
    decide (u.unread + u.reserved + 2 ≤ 2 ^ u.cqLog) && !s.frozenQ fn q && !s.boot.orderly &&
    (decide (fn < 16 ∨ s.sup.straps.cohortId = 0) || s.leadThere)

/-- A failed fetch: ERROR, sq_fetch_fail, and a record of kind 2 with the handle the command would have had (R105). DESIGN CHOICE (log 30): no command was read, so the record's user_tag, which R116 takes from the command, is 0. -/
def State.fetchFail (s : State) (fn q st : Nat) : State :=
  let u := s.queue fn q
  let s := (s.modQueue fn q fun u => { u with state := .error, err := latch u.err 1 }).report
    { source := 0x60, severity := 2, status := st, bit := 1, reg := 0x24, d0 := fn * 256 + q }
  s.postRecord fn q 2 ⟨handleOf u.engine fn q u.seq u.generation, st, 2, 0, 0, 0, 0⟩

/-- The fetch of the next command (R105, R106): its slot is read once and it gets its handle; missing host data leaves a read outstanding. DESIGN CHOICE (log 84): R105 does not list 0x40; a slot read that fails with it, its ring on a cohort member with no route, is a failed fetch like the others, with a record of status 0x40. -/
def State.fetchQ (s : State) (fn q : Nat) : State :=
  if ¬ s.fetchable fn q then s
  else
    let u := s.queue fn q
    let o := Owner.fetch fn q
    match s.readC o fn (u.sqBase.toNat + 64 * (u.sqHead % 2 ^ u.sqLog)) 64 with
    | .wait s' => s'
    | .fail st =>
      (if st = 0x30 then s.memFaultC fn (u.sqBase.toNat + 64 * (u.sqHead % 2 ^ u.sqLog)) 64 false else s).fetchFail fn q st
    | .data bs =>
      (s.dropArrived o).modQueue fn q fun u =>
        { u with
          sqHead := (u.sqHead + 1) % 2 ^ 32, seq := (u.seq + 1) % 2 ^ 32
          fetched := u.fetched ++ [{ handle := handleOf u.engine fn q u.seq u.generation, bytes := bs }] }

/-- The opcodes of an engine: opcode and whether the operation is long (R113). -/
def opcodes (engine : Nat) : List (Nat × Bool) :=
  match engine with
  | 1 => [(0x01, false), (0x02, true), (0x03, false), (0x04, false), (0x10, false), (0x11, false)]
  | 2 => [(0x01, false), (0x02, false), (0x03, false), (0x04, false), (0x05, false)]
  | 3 => [(0x01, true), (0x02, true), (0x03, true), (0x04, false)]
  | 4 => [(0x01, false), (0x02, false), (0x03, false), (0x04, false)]
  | 5 =>
    [(0x01, false), (0x02, false), (0x10, false), (0x11, false), (0x12, false), (0x13, false), (0x14, false), (0x20, false),
     (0x21, true), (0x22, false), (0x23, false), (0x30, false), (0x31, false), (0x32, true), (0x41, true), (0x42, true),
     (0x50, false), (0x5F, false)]
  | _ => []

/-- SERVICE opcodes a tenant function may use (R111). -/
def tenantService : List Nat := [0x01, 0x02, 0x13, 0x14, 0x20, 0x21, 0x22, 0x23, 0x30, 0x31, 0x32]

/-- SERVICE opcodes a safe or unowned start accepts: firmware, profile staging, queries and diagnostics (R52). -/
def safeService : List Nat := [0x01, 0x02, 0x41, 0x42, 0x50]

/-- The first offending byte of a command's header (R107, R113, R121); none where the header is good. DEDUCED (log 31): the first offending byte of an index out of range is its field's first byte, and of wait_value, whose one offending bit is bit 31, byte 0xF. -/
def headerBad (engine minor : Nat) (c : Cmd) : Option Nat :=
  if !((opcodes engine).any fun o => o.1 = c.opcode) then some 0
  else if 16 ≤ c.byte 1 then some 1
  else if minor < c.byte 2 then some 2
  else if c.byte 3 ≠ 0 then some 3
  else if c.waits ∧ 4096 ≤ c.fld 8 2 then some 8
  else if c.signals ∧ 4096 ≤ c.fld 0xA 2 then some 0xA
  else if c.waits ∧ 2 ^ 31 ≤ c.fld 0xC 4 then some 0xF
  else none

/-- The command waits until every earlier one has posted its final record: fence, or a WRITE_IMM (R107, R114). -/
def Cmd.fences (c : Cmd) (engine : Nat) : Bool := c.fence || (engine == 4 && c.opcode == 4)

/-- A wait on counter value `w` for value `v` is met (R108). -/
def waitMet (w : W32) (v : Nat) : Bool := decide ((w.toNat % 2 ^ 31 + 2 ^ 31 - v) % 2 ^ 31 < 2 ^ 30)

/-- The oldest unstarted command waits on a sync counter (HEP_QSTATUS.waiting). -/
def State.waitingQ (s : State) (fn q : Nat) : Bool :=
  match (s.queue fn q).fetched with
  | [] => false
  | c :: _ => c.waits && !waitMet ((s.con.fn fn).sync.getD (c.fld 8 2) 0) (c.fld 0xC 4)

/-- HEP_FN_PENDING `k`: bit j says that local queue 32 k + j has unread records (R101). -/
def FnQueues.pendingWord (f : FnQueues) (k : Nat) : Nat :=
  ((seqFrom 0 32).map fun j => let u := f.queues.getD (32 * k + j) {}; b2n (decide (u.cqTail ≠ u.cqHead)) * 2 ^ j).sum

/-- The 4 bytes of BAR2 at an offset of a function, aligned to 4; unlisted offsets read 0 (R99 to R101). DESIGN CHOICE (log 77): the spec gives HEP_QDOORBELL no read; it reads the last accepted tail. -/
def State.bar2Read (s : State) (fn off : Nat) : Nat :=
  if off < 0x4000 then s.queueRead fn (off / 64) (off % 64) (s.waitingQ fn (off / 64))
  else if off = 0x4000 then s.con.fnContract.toNat
  else if off = 0x4004 then (qlimitsWord fn).toNat
  else if 0x4010 ≤ off ∧ off < 0x4030 then (s.con.fn fn).pendingWord ((off - 0x4010) / 4)
  else if 0x10000 ≤ off ∧ off < 0x14000 then ((s.con.fn fn).sync.getD ((off - 0x10000) / 4) 0).toNat
  else if 0x100000 ≤ off ∧ off < 0x200000 ∧ off % 0x1000 = 0 then (s.queue fn ((off - 0x100000) / 0x1000)).tail
  else 0

/-- A member whose lead did not answer within member_wait_ms runs alone and takes part in no job (R60). -/
def State.alone (s : State) : Bool :=
  s.sup.straps.cohortId != 0 && decide (1 < s.prof 2 0 1 1) && !s.boot.memberWait && !s.boot.members.contains 0

/-- The start of the oldest fetched command (R108, R109): fence and order are honoured, then its header is checked, then its wait; a failed counter ends it with 0x80, and the SERVICE subset is checked. DESIGN CHOICE (log 32): the spec does not say when a header is checked; the model does so once the command is the oldest and its fence allows it, before its wait, so that an invalid header ends with 0x10 whatever its counter holds. DESIGN CHOICE (log 36): the spec names no status for the job commands of a member that runs alone; they end with 0x12. DESIGN CHOICE (log 86): the RSV bytes of a body are checked when the command's own meaning runs, so that 0x80 of a failed counter and 0x12 of a subset come before their 0x10. -/
def State.startQ (s : State) (fn q : Nat) : State :=
  let u := s.queue fn q
  match u.state, u.fetched with
  | .running, c :: rest =>
    if s.boot.orderly ∨ (c.fences u.engine ∧ (u.running ≠ [] ∨ u.owed ≠ [])) then s
    else
      let r : CmdRef := ⟨fn, q, c.handle⟩
      let w := (s.con.fn fn).sync.getD (c.fld 8 2) 0
      let waits := s.waitingQ fn q
      let held := s
      let s := s.modQueue fn q fun u => { u with fetched := rest, running := u.running ++ [c] }
      match headerBad u.engine (field s.con.fnContract 0 8) c with
      | some i => s.failAt r 0x10 i
      | none =>
        if waits then held else
        if c.waits ∧ bitOf w 31 then s.finish r 0x80 0 0
        else if u.engine = 5 ∧ tenantOf fn ≠ 0 ∧ ¬ tenantService.contains c.opcode then s.finish r 0x12 0 0
        else if (s.boot.safe ∨ s.boot.unowned) ∧ ¬ (u.engine = 5 ∧ safeService.contains c.opcode) then s.finish r 0x12 0 0
        else if u.engine = 2 ∧ s.alone then s.finish r 0x12 0 0
        else s
  | _, _ => s

/-- Every queue of a function leaves RUNNING for PAUSED (R102, R111). -/
def FnQueues.pause (f : FnQueues) : FnQueues :=
  { f with queues := f.queues.mapVal fun _ u => if u.state = .running then { u with state := .paused } else u }

/-- Every paused queue of a function with no pause cause left returns to RUNNING. -/
def Contract.resume (c : Contract) (fn : Nat) : Contract :=
  { c with fns := c.fns.upd fn {} fun f =>
      { f with queues := f.queues.mapVal fun _ u =>
          if u.state = .paused ∧ ¬ c.pauseCause fn u.engine then { u with state := .running } else u } }



/-- The engines whose queues the handover of a component pauses (R535). -/
def pausedBy (c : Nat) : List Nat := match c with | 4 => [1, 2] | 3 => [3] | 0 => [5] | _ => []

/-- Queues of the engines given are PAUSED, and queues of engines no longer given return to RUNNING where no other cause holds (R102, R535). -/
def State.pauseEngines (s : State) (l : List Nat) : State :=
  let c := { s.con with pausedEngines := l }
  let c := (c.fns.map (·.1)).foldl Contract.resume c
  { s with con := { c with fns := c.fns.mapVal fun _ f =>
      { f with queues := f.queues.mapVal fun _ u => if u.state = .running ∧ l.contains u.engine then { u with state := .paused } else u } } }

/-- TENANT_QUIESCE's effect on a tenant's function (R111). -/
def State.quiesce (s : State) (fn : Nat) : State := s.modFn fn fun f => { f.pause with quiesced := true }

/-- TENANT_RESUME's effect on a tenant's function (R111). -/
def State.resumeFn (s : State) (fn : Nat) : State :=
  let s := s.modFn fn fun f => { f with quiesced := false }
  { s with con := s.con.resume fn }

end Sys2Proof.Machine
end

