-- ==== Sys2Proof/Machine/RmeOps.lean ====
section
/-! DEFINITION. The remote memory engine's packets, queue pairs, work requests, windows and the responder's window of 512 (spec/15 R397 to R417). -/

namespace Sys2Proof.Machine

open Sys2Proof

/-! ## Packets (R397; the IBTA layouts are PRESUMED) -/

/-- A key of the REMOTE_MEMORY section. -/
def State.rmeKey (s : State) (key dflt : Nat) : Nat := s.prof 9 0 key dflt

/-- The queue pair of a number. -/
def State.qp? (s : State) (n : Nat) : Option Qp := s.rme.qps.find? n

/-- Changes the engine. -/
def State.modRme (s : State) (f : Rme → Rme) : State := { s with rme := f s.rme }

/-- Changes an open queue pair. -/
def State.modQp (s : State) (n : Nat) (f : Qp → Qp) : State :=
  s.modRme fun r => { r with qps := r.qps.mapVal fun k q => if k = n then f q else q }

/-- Latches an engine event (RME_EVENTS). -/
def State.rmeEvent (s : State) (i : Nat) : State := s.modRme fun r => { r with events := latch r.events i }

/-- 24-bit PSN arithmetic. -/
def psnMod : Nat := 2 ^ 24
def psnAdd (a n : Nat) : Nat := (a + n) % psnMod
def psnSub (a b : Nat) : Nat := (a + psnMod - b % psnMod) % psnMod
/-- PSN `a` is at or before `b`. -/
def psnLe (a b : Nat) : Bool := decide (psnSub b a < 2 ^ 23)

/-- One shift of the reflected Ethernet CRC-32 register, `n` times. -/
def icrcShift (c : W32) : Nat → W32
  | 0 => c
  | k + 1 => icrcShift (if c.getLsbD 0 then (c >>> 1) ^^^ 0xEDB88320#32 else c >>> 1) k

/-- The Ethernet CRC-32 of a byte sequence. -/
def ethCrc (bs : Bytes) : W32 := ~~~(bs.foldl (fun c b => icrcShift (c ^^^ b.setWidth 32) 8) 0xFFFFFFFF#32)

/-- Sets bytes at the given positions to ones. -/
def maskOnes (l : List Nat) (b : Bytes) : Bytes := l.foldl (fun b i => setNth b i 0xFF) b

/-- The ICRC over an IP packet up to its ICRC: fields that change on the way count as ones. -/
def icrcOf (v4 : Bool) (ip : Bytes) : Bytes :=
  let m := if v4 then maskOnes [1, 8, 10, 11, 26, 27, 32] ip
    else
      let x := maskOnes [1, 2, 3, 7, 46, 47, 52] ip
      setNth x 0 (x.getD 0 0 ||| 0x0F)
  natLe (ethCrc (List.replicate 8 0xFF ++ m)).toNat 4

/-- A BTH with opcode, pad count, destination QP, PSN and acknowledge request. -/
def bth (op pad qpn psn ackReq : Nat) : Bytes :=
  [BitVec.ofNat 8 op, BitVec.ofNat 8 (64 + 16 * pad)] ++ natBe (Config.packetField 2 qpn) 2 ++ [0] ++ natBe qpn 3 ++
    [BitVec.ofNat 8 (128 * ackReq)] ++ natBe psn 3

/-- An AETH: syndrome and message sequence number. -/
def aeth (syndrome msn : Nat) : Bytes := natBe syndrome 1 ++ natBe msn 3

/-- An IPv4 GID: the mapped form. -/
def gidV4 (g : Bytes) : Bool := decide (slice g 0 12 = zeros 10 ++ [0xFF, 0xFF])

/-- The frame of a QP's packet, from its BTH on, under one of its UDP source ports (R397, R413). -/
def Qp.frame (q : Qp) (port : Nat) (b : Bytes) : Bytes :=
  let v4 := gidV4 q.gid && gidV4 q.peer
  let udp := natBe (Config.packetField 3 q.peerQpn + port) 2 ++ natBe 4791 2 ++ natBe (12 + b.length) 2 ++ [0, 0] ++ b
  let tos := q.dscp * 4 + 2
  let l2 := Config.linkAddrs q.gid q.peer ++ (if q.pcp = 0 then [] else [0x81, 0x00] ++ natBe (q.pcp * 8192) 2)
  let ip :=
    if v4 then
      [0x45] ++ natBe tos 1 ++ natBe (24 + udp.length) 2 ++ [0, 0, 0x40, 0] ++ natBe (Config.packetField 0 q.sendCtr) 1 ++ [17, 0, 0] ++
        q.gid.drop 12 ++ q.peer.drop 12 ++ udp
    else
      natBe (6 * 2 ^ 28 + tos * 2 ^ 20 + Config.packetField 1 q.sendCtr % 2 ^ 20) 4 ++ natBe (udp.length + 4) 2 ++ [17] ++
        natBe (Config.packetField 0 q.sendCtr) 1 ++ q.gid ++ q.peer ++ udp
  let f := putIpSum (l2 ++ natBe (if v4 then 0x0800 else 0x86DD) 2 ++ ip)
  f ++ icrcOf v4 (f.drop (l2.length + 2))

/-- A packet as the engine reads it. -/
structure Roce where
  src : Bytes
  dst : Bytes
  op : Nat
  pad : Nat
  qpn : Nat
  psn : Nat
  /-- What follows the BTH, without the ICRC. -/
  body : Bytes
deriving DecidableEq, Repr

/-- Reads a frame as a RoCEv2 packet; none where it is none or its ICRC is bad. -/
def roceOf (b : Bytes) : Option Roce :=
  let u := l4Of b
  let n := fbe b (u + 4) 2
  if ¬ (isV4 b ∨ isV6 b) ∨ ipProto b ≠ 17 ∨ fbe b (u + 2) 2 ≠ 4791 ∨ n < 24 ∨ b.length < u + n then none
  else if slice b (u + n - 4) 4 ≠ icrcOf (isV4 b) (slice b (l3Of b) (u + n - 4 - l3Of b)) then none
  else
    some { src := srcIp b, dst := dstIp b, op := fbe b (u + 8) 1, pad := fbe b (u + 9) 1 / 16 % 4, qpn := fbe b (u + 13) 3,
           psn := fbe b (u + 17) 3, body := slice b (u + 20) (n - 24) }

/-- Header bytes of an opcode after the BTH. -/
def extLen (op : Nat) : Nat :=
  if op = 6 ∨ op = 0xA ∨ op = 0xC then 16 else if op = 0xB then 20
  else if op = 3 ∨ op = 5 ∨ op = 9 ∨ op = 0xD ∨ op = 0xF ∨ op = 0x10 ∨ op = 0x11 then 4 else 0

/-- The payload of a packet: what follows its headers, without its pad. -/
def payloadOf (op pad : Nat) (body : Bytes) : Bytes := (body.drop (extLen op)).take (body.length - extLen op - pad)

/-- A QP sends a packet: it takes the next of its source ports and waits for the leaf queue (R380, R413). -/
def State.rmeSend (s : State) (qpn : Nat) (b : Bytes) : State :=
  match s.qp? qpn with
  | none => s
  | some q =>
    let f : RmeFrame := { leaf := q.leaf, tenant := if q.job then 16 else q.tenant, bytes := q.frame (q.sendCtr % max 1 q.paths) b }
    (s.modQp qpn fun q => { q with sendCtr := q.sendCtr + 1 }).modRme fun r => { r with tx := r.tx ++ [f] }

/-- An acknowledge packet with a syndrome and a PSN (R415). -/
def State.rmeAck (s : State) (qpn syndrome psn : Nat) : State :=
  match s.qp? qpn with
  | none => s
  | some q => s.rmeSend qpn (bth 0x11 0 q.peerQpn psn 0 ++ aeth syndrome q.msn)

/-- ACK with PSN e − 1 (R415). -/
def State.ackNow (s : State) (qpn : Nat) : State :=
  match s.qp? qpn with
  | none => s
  | some q => (s.modQp qpn fun q => { q with unacked := 0 }).rmeAck qpn 0x1F (psnSub q.e 1)

/-- NAK PSN sequence error for e, once for that e (R414, R415). -/
def State.nakSeq (s : State) (qpn : Nat) : State :=
  match s.qp? qpn with
  | none => s
  | some q =>
    if q.nakSent then s
    else ((s.modQp qpn fun q => { q with nakSent := true }).modRme fun r => { r with nakTx := satInc r.nakTx }).rmeAck qpn 0x60 q.e

/-! ## Completions and signals (R403, R404, R412) -/

/-- The produced count software keeps in a sync counter (R400, R402). -/
def State.countOf (s : State) (tenant index : Nat) : Nat := ((s.con.fn tenant).sync.getD index 0).toNat % 2 ^ 31

/-- Entries between two counts modulo 2^31. -/
def countDiff (a b : Nat) : Nat := (a + 2 ^ 31 - b % 2 ^ 31) % 2 ^ 31

/-- A completion slot is free beside those reserved (R403). -/
def State.slotFree (s : State) (q : Qp) : Bool :=
  decide (countDiff q.cqTail (s.countOf q.tenant q.cqSync) + q.wrs.length + b2n q.inSend.isSome < 2 ^ q.cqLog)

/-- Writes in a tenant's device address space; a failure writes nothing. -/
def State.rmeWrite (s : State) (tenant off : Nat) (bs : Bytes) : State :=
  match s.fab.writeDev tenant off bs with
  | .ok (f, _) => { s with fab := f }
  | .error _ => s

/-- Posts a completion entry (R403): wr_id, status, opcode, flags, qpn, length and immediate; the phase follows R105. -/
def State.postCqe (s : State) (qpn : Nat) (wrId : Bytes) (status op flags len imm : Nat) : State :=
  match s.qp? qpn with
  | none => s
  | some q =>
    let phase := if q.cqTail / 2 ^ q.cqLog % 2 = 0 then 1 else 0
    let s := s.rmeWrite q.tenant (q.cqBase + 32 * (q.cqTail % 2 ^ q.cqLog))
      (wrId ++ natLe status 1 ++ natLe op 1 ++ natLe (flags + 128 * phase) 1 ++ [0] ++ natLe qpn 4 ++ natLe len 4 ++ natLe imm 4 ++ zeros 8)
    s.modQp qpn fun q => { q with cqTail := (q.cqTail + 1) % 2 ^ 31 }

/-- Adds a signal to a sync counter of the QP's function (R108, R412). -/
def State.rmeSignal (s : State) (tenant index status : Nat) : State :=
  if index < 4096 then s.modFn tenant fun f => { f with sync := f.sync.upd index 0 fun w => signalled w status } else s

/-- The physical panes of a range of a tenant's device address space with a write that is not visible yet (R73, R91). -/
def State.unsettledIn (s : State) (tenant addr len : Nat) : List Nat :=
  (chunks paneBytes addr len).filterMap fun p =>
    match s.fab.pane? tenant p.1 with | some e => if s.fab.pendingIn e.phys then some e.phys else none | none => none

/-- A range of a tenant's device address space holds a write that is not visible yet. -/
def State.unsettled (s : State) (tenant addr len : Nat) : Bool := s.unsettledIn tenant addr len ≠ []

/-- A work request's entry: opcode, flags and fields (R402). -/
def WorkReq.op (w : WorkReq) : Nat := fieldAt w.entry 0 1
def WorkReq.flag (w : WorkReq) (i : Nat) : Bool := (w.entry.getD 1 0).getLsbD i
def WorkReq.fld (w : WorkReq) (off n : Nat) : Nat := fieldAt w.entry off n
/-- Last PSN of a work request. -/
def WorkReq.last (w : WorkReq) : Nat := psnAdd w.first (w.n - 1)

/-- Completions of work requests that have their status, in start order: the signal, then the entry (R404). -/
def retireWrs (qpn : Nat) : List WorkReq → State → State
  | [], s => s
  | w :: r, s =>
    match w.done, s.qp? qpn with
    | some st, some q =>
      let s := if w.flag 3 then s.rmeSignal q.tenant (w.fld 0x2A 2) st else s
      let s := if w.flag 0 ∨ st ≠ 0 then s.postCqe qpn (slice w.entry 8 8) st w.op 0 (w.fld 0x18 4) 0 else s
      retireWrs qpn r (s.modQp qpn fun q => { q with wrs := q.wrs.drop 1 })
    | _, _ => s

/-- Retires what can be retired of a QP. -/
def State.retire (s : State) (qpn : Nat) : State := retireWrs qpn ((s.qp? qpn).getD { tenant := 0 }).wrs s

/-! ## Windows (R406 to R410) -/

/-- A message admitted at the window is not complete. -/
def Rme.inFlight (r : Rme) (w : Nat) : Bool := r.qps.any fun q => q.2.msgs.any fun m => m.window = w

/-- Revokes whose admitted messages are all placed or failed post their final records (R409). -/
def State.endRevokes (s : State) : State :=
  s.rme.windows.foldl (fun s x =>
    match x.2.revoke with
    | none => s
    | some r =>
      if s.rme.inFlight x.1 then s
      else (s.modRme fun m => { m with windows := m.windows.put x.1 { x.2 with revoke := none } }).finish r 0 0 0) s

/-- The checks of a window's admission point: key, rights, QP, range and the panes (R82, R406, R408); where the message goes. -/
def State.windowCheck (s : State) (qpn tenant rkey va len : Nat) (wr : Bool) : Option (Nat × Nat) :=
  let i := rkey % 2 ^ 20
  match s.rme.windows.find? i with
  | none => none
  | some w =>
    if ¬ w.isOpen ∨ w.gen ≠ rkey / 2 ^ 20 ∨ w.tenant ≠ tenant ∨ (w.qpn ≠ 0 ∧ w.qpn ≠ qpn) ∨ w.rights / (if wr then 2 else 1) % 2 = 0 ∨
       w.len < va + len then none
    else
      match s.fab.translateAll tenant wr (chunks paneBytes (w.base + va) len) with
      | .error _ => none
      | .ok _ => some (i, w.base + va)

/-! ## The error state (R399, R405) -/

/-- Flushes posted send entries while completion slots are free: each completes with 0x90. -/
def flushSends (qpn : Nat) : Nat → State → State
  | 0, s => s
  | n + 1, s =>
    match s.qp? qpn with
    | none => s
    | some q =>
      if countDiff (s.countOf q.tenant q.sqSync) q.sqTaken = 0 ∨ ¬ s.slotFree q then s
      else
        let e := match s.fab.readDev q.tenant (q.sqBase + 64 * (q.sqTaken % 2 ^ q.sqLog)) 64 with | .ok b => b | .error _ => zeros 64
        let s := s.modQp qpn fun q => { q with sqTaken := (q.sqTaken + 1) % 2 ^ 31 }
        let s := s.rmeWrite q.tenant q.sqIndexAddr (natLe (q.sqTaken + 1) 8)
        let s := if fieldAt e 1 1 / 8 % 2 = 1 then s.rmeSignal q.tenant (fieldAt e 0x2A 2) 0x90 else s
        flushSends qpn n (s.postCqe qpn (slice e 8 8) 0x90 (fieldAt e 0 1) 0 (fieldAt e 0x18 4) 0)

/-- Flushes posted receive entries. -/
def flushRecvs (qpn : Nat) : Nat → State → State
  | 0, s => s
  | n + 1, s =>
    match s.qp? qpn with
    | none => s
    | some q =>
      if q.rqLog = 0 ∨ countDiff (s.countOf q.tenant q.rqSync) q.rqTaken = 0 ∨ ¬ s.slotFree q then s
      else
        let e := match s.fab.readDev q.tenant (q.rqBase + 32 * (q.rqTaken % 2 ^ q.rqLog)) 32 with | .ok b => b | .error _ => zeros 32
        let s := s.modQp qpn fun q => { q with rqTaken := (q.rqTaken + 1) % 2 ^ 31 }
        let s := if fieldAt e 0x16 1 % 2 = 1 then s.rmeSignal q.tenant (fieldAt e 0x14 2) 0x90 else s
        flushRecvs qpn n (s.postCqe qpn (slice e 0 8) 0x90 2 0 0 0)

/-- Every posted entry of a QP that can be flushed is. -/
def State.flushPosted (s : State) (qpn : Nat) : State :=
  match s.qp? qpn with
  | none => s
  | some q => if q.job then s else flushRecvs qpn (2 ^ q.rqLog) (flushSends qpn (2 ^ q.sqLog) s)

/-- Completes the receive entry an inbound message holds (R412): signal, then entry. -/
def State.endRecv (s : State) (qpn status op flags imm : Nat) : State :=
  match s.qp? qpn with
  | none => s
  | some q =>
    match q.inSend with
    | none => s
    | some m =>
      let s := s.modQp qpn fun q => { q with inSend := none }
      let s := if fieldAt m.entry 0x16 1 % 2 = 1 then s.rmeSignal q.tenant (fieldAt m.entry 0x14 2) status else s
      s.postCqe qpn (slice m.entry 0 8) status op flags m.len imm

/-- Ends the running work requests of a QP that have no status. -/
def State.flushRunning (s : State) (qpn flush : Nat) : State :=
  (((s.modQp qpn fun q => { q with sent := [], heldPkts := [], msgs := [], rnrWait := false
                                   wrs := q.wrs.map fun w => { w with done := some (w.done.getD flush) } }).endRecv qpn 0x90 2 0 0).retire qpn).flushPosted qpn

/-- A QP enters ERROR (R399): counted, its work flushed, and the revokes that waited on it may end. -/
def State.qpError (s : State) (qpn : Nat) (flush : Nat := 0x90) : State :=
  match s.qp? qpn with
  | none => s
  | some q =>
    if q.state = 4 then s
    else
      let s := s.modQp qpn fun q => { q with state := 4 }
      let s := (s.modRme fun r => { r with qpErrors := satInc r.qpErrors }).rmeEvent 0
      (s.flushRunning qpn flush).endRevokes

/-- The work request that holds a PSN gets a status. -/
def State.endWr (s : State) (qpn psn st : Nat) : State :=
  let f := fun (w : WorkReq) => if w.done.isNone = true ∧ psnSub psn w.first < w.n then { w with done := some st } else w
  s.modQp qpn fun q => { q with wrs := q.wrs.map f }

/-! ## Requester (R402, R411, R416, R417) -/

/-- Packets of a length at an MTU. -/
def packetsOf (len mtu : Nat) : Nat := max 1 ((len + mtu - 1) / mtu)

/-- The opcode of packet `i` of `n` of a SEND or WRITE. -/
def pktOp (op i n : Nat) : Nat :=
  let wr := decide (op < 2)
  let imm := decide (op = 1 ∨ op = 3)
  let b := if wr then 6 else 0
  if n = 1 then (if wr then (if imm then 0xB else 0xA) else (if imm then 5 else 4))
  else if i = 0 then b else if i + 1 < n then b + 1 else if imm then b + 3 else b + 2

/-- The packets of a SEND or WRITE, from the BTH on (R402). -/
def wrPackets (q : Qp) (e data : Bytes) : List SentPkt :=
  let op := fieldAt e 0 1
  let n := packetsOf data.length q.mtu
  (seqFrom 0 n).map fun i =>
    let o := pktOp op i n
    let pay := (data.drop (i * q.mtu)).take q.mtu
    let pad := (4 - pay.length % 4) % 4
    let reth := if o = 6 ∨ o = 0xA ∨ o = 0xB then natBe (fieldAt e 0x20 8) 8 ++ natBe (fieldAt e 0x1C 4) 4 ++ natBe data.length 4 else []
    let imm := if o = 3 ∨ o = 5 ∨ o = 9 ∨ o = 0xB then natBe (fieldAt e 4 4) 4 else []
    { psn := psnAdd q.nextPsn i, bytes := bth o pad q.peerQpn (psnAdd q.nextPsn i) (b2n (decide (i + 1 = n))) ++ reth ++ imm ++ pay ++ zeros pad }

/-- The request packet of a READ. -/
def readPacket (q : Qp) (e : Bytes) : SentPkt :=
  { psn := q.nextPsn
    bytes := bth 0xC 0 q.peerQpn q.nextPsn 1 ++ natBe (fieldAt e 0x20 8) 8 ++ natBe (fieldAt e 0x1C 4) 4 ++ natBe (fieldAt e 0x18 4) 4 }

/-- A send entry breaks a rule of its layout (R402). -/
def badEntry (e : Bytes) : Bool :=
  decide (4 < fieldAt e 0 1 ∨ 16 ≤ fieldAt e 1 1 ∨ fieldAt e 2 2 ≠ 0 ∨ 2 ^ 31 < fieldAt e 0x18 4 ∨ slice e 0x30 16 ≠ zeros 16) ||
    decide (fieldAt e 1 1 / 4 % 2 = 1 ∧ (4096 ≤ fieldAt e 0x28 2 ∨ 2 ^ 31 ≤ fieldAt e 0x2C 4)) ||
    decide (fieldAt e 1 1 / 8 % 2 = 1 ∧ 4096 ≤ fieldAt e 0x2A 2)

/-- The engine takes the next send entry (R402): the consumed count is written. -/
def State.takeEntry (s : State) (qpn : Nat) (q : Qp) (w : WorkReq) : State :=
  let n := (q.sqTaken + 1) % 2 ^ 31
  (s.rmeWrite q.tenant q.sqIndexAddr (natLe n 8)).modQp qpn fun q => { q with sqTaken := n, wrs := q.wrs ++ [w] }

/-- Owner of a QP's reads outside the device. -/
def qpOwner (qpn : Nat) : Owner := .unit (0x200000 + qpn)

/-- Packets are sent and kept until they are acknowledged. -/
def State.sendAll (s : State) (qpn : Nat) (ps : List SentPkt) : State :=
  ps.foldl (fun s p => s.rmeSend qpn p.bytes) (s.modQp qpn fun q => { q with sent := q.sent ++ ps })

/-- Runs a work request once it starts: its local data is read and its packets leave (R402, R405). -/
def State.startWr (s : State) (qpn : Nat) (q : Qp) (e : Bytes) : State :=
  let len := fieldAt e 0x18 4
  let a := fieldAt e 0x10 8
  let stop := fun (s : State) (st : Nat) => (s.takeEntry qpn q { entry := e, first := q.nextPsn, n := 0, done := some st }).retire qpn
  if badEntry e then stop s 0x10
  else if a / 2 ^ 60 ≠ 0 ∧ (a / 2 ^ 60 ≠ 2 ∨ q.tenant ≠ 0) then stop s 0x11
  else if fieldAt e 0 1 = 4 then
    let n := packetsOf len q.mtu
    let s := s.takeEntry qpn q { entry := e, first := q.nextPsn, n := n }
    (s.sendAll qpn [readPacket q e]).modQp qpn fun q => { q with nextPsn := psnAdd q.nextPsn n }
  else
    match s.readC (qpOwner qpn) q.tenant a len with
    | .wait s => s
    | .fail st => stop ((s.dropArrived (qpOwner qpn)).memFaultC q.tenant a len false) st
    | .data bs =>
      let ps := wrPackets q e bs
      let s := (s.dropArrived (qpOwner qpn)).takeEntry qpn q { entry := e, first := q.nextPsn, n := ps.length }
      (s.sendAll qpn ps).modQp qpn fun q => { q with nextPsn := psnAdd q.nextPsn ps.length }

/-- The engine looks at the next posted entry of a QP for one opcode: it starts, waits, fails its dependency, or is flushed in ERROR (R399, R403, R404, R411). -/
def State.takeWr (s : State) (op qpn : Nat) : State :=
  match s.qp? qpn with
  | none => s
  | some q =>
    if countDiff (s.countOf q.tenant q.sqSync) q.sqTaken = 0 ∨ ¬ s.slotFree q ∨ q.job ∨ ¬ s.ioRuns then s
    else if q.state = 4 then s.flushPosted qpn
    else if q.state ≠ 3 ∨ q.rnrWait then s
    else
      let at_ := q.sqBase + 64 * (q.sqTaken % 2 ^ q.sqLog)
      match s.fab.readDev q.tenant at_ 64 with
      | .error _ => s.memFault q.tenant at_ 64 false
      | .ok e =>
        let c := (s.con.fn q.tenant).sync.getD (fieldAt e 0x28 2) 0
        let reads := q.wrs.filter fun w => w.op = 4 ∧ w.done.isNone
        if fieldAt e 0 1 ≠ op ∧ fieldAt e 0 1 ≤ 4 then s
        else if badEntry e then s.startWr qpn q e
        else if fieldAt e 1 1 / 2 % 2 = 1 ∧ reads ≠ [] then s
        else if op = 4 ∧ q.outReads ≤ reads.length then s
        else if fieldAt e 1 1 / 4 % 2 = 1 ∧ ¬ waitMet c (fieldAt e 0x2C 4) then s
        else if fieldAt e 1 1 / 4 % 2 = 1 ∧ bitOf c 31 then
          (s.takeEntry qpn q { entry := e, first := q.nextPsn, n := 0, done := some 0x80 }).retire qpn
        else s.startWr qpn q e

/-- Everything up to a PSN is acknowledged (R416): SEND and WRITE requests complete, a READ keeps its request until its data is here. -/
def State.ackUpTo (s : State) (qpn psn : Nat) : State :=
  let keep := fun (q : Qp) (p : SentPkt) => q.wrs.any fun w => w.op = 4 ∧ w.done.isNone ∧ w.first = p.psn
  (s.modQp qpn fun q =>
    { q with
      sent := q.sent.filter fun p => !psnLe p.psn psn || keep q p
      fails := 0, rnrTries := 0
      wrs := q.wrs.map fun w => if w.done.isNone ∧ w.op ≠ 4 ∧ psnLe w.last psn then { w with done := some 0 } else w }).retire qpn

/-- Packets go out again and are counted (R416). -/
def State.resend (s : State) (qpn : Nat) (ps : List SentPkt) : State :=
  ps.foldl (fun s p => s.rmeSend qpn p.bytes) (s.modRme fun r => { r with retx := satAdd r.retx ps.length })

/-- The packets from a PSN on. -/
def Qp.sentFrom (q : Qp) (psn : Nat) : List SentPkt := q.sent.filter fun p => psnLe psn p.psn

/-- A READ whose responses are all placed and visible completes (R404). -/
def State.readsDone (s : State) (qpn : Nat) : State :=
  match s.qp? qpn with
  | none => s
  | some q =>
    let fin := q.wrs.filter fun w => decide (w.op = 4 ∧ w.done.isNone ∧ w.got.length = w.n) && !s.unsettled q.tenant (w.fld 0x10 8) (w.fld 0x18 4)
    (s.modQp qpn fun q =>
      { q with
        wrs := q.wrs.map fun w => if fin.contains w then { w with done := some 0 } else w
        sent := q.sent.filter fun p => !(fin.any fun w => w.first = p.psn) }).retire qpn

/-- A read response (R414 for the requester): placed by its PSN, held data counted once. -/
def State.readResponse (s : State) (qpn : Nat) (q : Qp) (k : Roce) : State :=
  match q.wrs.find? fun w => w.op = 4 ∧ w.done.isNone ∧ psnSub k.psn w.first < w.n with
  | none => s.modRme fun r => { r with dups := satInc r.dups }
  | some w =>
    let missing := (lowestFree w.got 0 w.n).getD w.n
    let i := psnSub k.psn w.first
    if i < missing ∨ w.got.contains i then s.modRme fun r => { r with dups := satInc r.dups }
    else if missing + 512 ≤ i then s.modRme fun r => { r with beyond := satInc r.beyond }
    else
      let s := s.ackUpTo qpn (psnSub w.first 1)
      let pay := (payloadOf k.op k.pad k.body).take (w.fld 0x18 4 - i * q.mtu)
      let mark := fun (x : WorkReq) (st : Option Nat) => if x.first = w.first ∧ x.op = 4 then { x with got := x.got ++ [i], done := st } else x
      match s.writeC q.tenant (w.fld 0x10 8 + i * q.mtu) pay with
      | .error st => (s.modQp qpn fun q => { q with wrs := q.wrs.map fun x => mark x (some st) }).retire qpn
      | .ok (s, _) => (s.modQp qpn fun q => { q with wrs := q.wrs.map fun x => mark x none }).readsDone qpn

/-! ## Responder (R408, R412, R414, R415) -/

/-- Reorder cells in use: those of held payloads that are not placed. -/
def Rme.cells (r : Rme) : Nat :=
  (r.qps.map fun q => (q.2.heldPkts.map fun h => if h.2.placed then 0 else (h.2.body.length + 255) / 256).sum).sum

/-- Places the payload of one packet of an admitted WRITE; false where memory refuses it. -/
def State.placeWrite (s : State) (tenant mtu : Nat) (m : InMsg) (psn : Nat) (pay : Bytes) : State × Bool :=
  match s.fab.writeDev tenant (m.addr + psnSub psn m.first * mtu) (pay.take (m.len - psnSub psn m.first * mtu)) with
  | .ok (f, _) => ({ s with fab := f }, true)
  | .error _ => (s, false)

/-- Places the held packets of a message that has just been admitted. -/
def State.placeHeld (s : State) (qpn : Nat) (q : Qp) (m : InMsg) : State :=
  q.heldPkts.foldl (fun s h =>
    if psnSub h.1 m.first < m.n ∧ ¬ h.2.placed then
      let (s, _) := s.placeWrite q.tenant q.mtu m h.1 (payloadOf h.2.op h.2.pad h.2.body)
      s.modQp qpn fun q => { q with heldPkts := q.heldPkts.put h.1 { h.2 with body := h.2.body.take (extLen h.2.op), placed := true } }
    else s) s

/-- The expected PSN moves on (R415): an ACK after every ack_every packets and at the end of each message. -/
def State.moveE (s : State) (qpn k : Nat) (ends : Bool) : State :=
  let s := s.modQp qpn fun q =>
    { q with heldPkts := q.heldPkts.del q.e, e := psnAdd q.e k, nakSent := false, unacked := q.unacked + k, msn := (q.msn + b2n ends) % 2 ^ 24 }
  match s.qp? qpn with
  | none => s
  | some q => if ends ∨ s.rmeKey 3 16 ≤ q.unacked then s.ackNow qpn else s

/-- A packet is refused with a NAK or RNR NAK for e, and is not held. -/
def State.refuseE (s : State) (qpn syndrome : Nat) : State :=
  match s.qp? qpn with
  | none => s
  | some q => (s.modQp qpn fun q => { q with heldPkts := q.heldPkts.del q.e }).rmeAck qpn syndrome q.e

/-- Assigns the next receive entry to an inbound message (R403, R404); none where there is no entry or no slot. -/
def State.takeRecv (s : State) (qpn : Nat) (q : Qp) : Option State :=
  if q.rqLog = 0 ∨ countDiff (s.countOf q.tenant q.rqSync) q.rqTaken = 0 ∨ ¬ s.slotFree q then none
  else
    match s.fab.readDev q.tenant (q.rqBase + 32 * (q.rqTaken % 2 ^ q.rqLog)) 32 with
    | .error _ => none
    | .ok e => some (s.modQp qpn fun q => { q with rqTaken := (q.rqTaken + 1) % 2 ^ 31, inSend := some { entry := e, len := 0 } })

/-- Data of a READ request leaves as responses (R397, R408). -/
def State.readRespond (s : State) (qpn : Nat) (q : Qp) (first addr len : Nat) : Option State :=
  match s.fab.readDev q.tenant addr len with
  | .error _ => none
  | .ok bs =>
    let n := packetsOf len q.mtu
    some ((seqFrom 0 n).foldl (fun s i =>
      let op := if n = 1 then 0x10 else if i = 0 then 0xD else if i + 1 < n then 0xE else 0xF
      let pay := (bs.drop (i * q.mtu)).take q.mtu
      let pad := (4 - pay.length % 4) % 4
      s.rmeSend qpn (bth op pad q.peerQpn (psnAdd first i) 0 ++ (if op = 0xE then [] else aeth 0x1F q.msn) ++ pay ++ zeros pad)) s)

/-- A SEND packet at e is placed in its receive entry (R405, R412, R414); none where the loop must stop. -/
def State.sendAtE (s : State) (qpn : Nat) (h : HeldPkt) : State × Bool :=
  match s.qp? qpn with
  | none => (s, false)
  | some q =>
    match q.inSend with
    | none => (s.refuseE qpn 0x61, false)
    | some m =>
      let pay := payloadOf h.op h.pad h.body
      let last := decide (h.op ≠ 0 ∧ h.op ≠ 1)
      if fieldAt m.entry 0x10 4 < m.len + pay.length then ((s.refuseE qpn 0x61).endRecv qpn 0x93 2 0 0, false)
      else if h.placed then
        if last ∧ s.unsettled q.tenant (fieldAt m.entry 8 8) m.len then (s, false)
        else if last then
          let imm := h.op = 3 ∨ h.op = 5
          ((s.endRecv qpn 0 (if imm then 3 else 2) (b2n (decide imm)) (if imm then beNat (h.body.take 4) else 0)).moveE qpn 1 true, true)
        else (s.moveE qpn 1 false, true)
      else
        match s.fab.writeDev q.tenant (fieldAt m.entry 8 8 + m.len) pay with
        | .error st => ((s.refuseE qpn 0x63).endRecv qpn st 2 0 0, false)
        | .ok (f, _) =>
          ({ s with fab := f }.modQp qpn fun q =>
            { q with
              inSend := some { m with len := m.len + pay.length }
              heldPkts := q.heldPkts.put q.e { h with body := h.body.take (extLen h.op), placed := true } }, true)

/-- The last packet of a WRITE at e: its message completes once it is visible; with Immediate it consumes a receive entry (R412, R414). -/
def State.writeAtE (s : State) (qpn : Nat) (q : Qp) (m : InMsg) (h : HeldPkt) : State × Bool :=
  if s.unsettled q.tenant m.addr m.len then (s, false)
  else
    let drop := fun (s : State) => (s.modQp qpn fun q => { q with msgs := q.msgs.filter (· ≠ m) })
    if h.op = 9 ∨ h.op = 0xB then
      match s.takeRecv qpn q with
      | none => (s.refuseE qpn (0x20 + q.minRnr), false)
      | some s =>
        let s := s.modQp qpn fun q => { q with inSend := q.inSend.map fun x => { x with len := m.len } }
        let imm := beNat (slice h.body (if h.op = 0xB then 16 else 0) 4)
        ((((drop s).endRecv qpn 0 1 1 imm).moveE qpn 1 true).endRevokes, true)
    else (((drop s).moveE qpn 1 true).endRevokes, true)

/-- One packet at e (R414): whether the loop goes on. -/
def State.packetAtE (s : State) (qpn : Nat) (q : Qp) (h : HeldPkt) : State × Bool :=
  let msg := q.msgs.find? fun m => decide (psnSub q.e m.first < m.n)
  if h.op ≤ 5 then
    if (h.op = 0 ∨ 4 ≤ h.op) ∧ ¬ h.placed then
      if q.inSend.isSome then (s.refuseE qpn 0x61, false)
      else
        match s.takeRecv qpn q with
        | none => (s.refuseE qpn (0x20 + q.minRnr), false)
        | some s => s.sendAtE qpn h
    else s.sendAtE qpn h
  else
    match msg with
    | none => (s.refuseE qpn 0x61, false)
    | some m =>
      if h.op = 0xC then
        match s.readRespond qpn q m.first m.addr m.len with
        | none => (((s.memFault q.tenant m.addr m.len false).refuseE qpn 0x63).modQp qpn fun q => { q with msgs := q.msgs.filter (· ≠ m) }, false)
        | some s => (((s.modQp qpn fun q => { q with msgs := q.msgs.filter (· ≠ m) }).moveE qpn m.n true).endRevokes, true)
      else if psnSub q.e m.first + 1 < m.n then (s.moveE qpn 1 false, true)
      else s.writeAtE qpn q m h

/-- The loop of R414: packets are taken at e while they are held. -/
def advanceE (qpn : Nat) : Nat → State → State
  | 0, s => s
  | n + 1, s =>
    match s.qp? qpn with
    | none => s
    | some q =>
      match q.heldPkts.find? q.e with
      | none => s
      | some h =>
        match s.packetAtE qpn q h with
        | (s, true) => advanceE qpn n s
        | (s, false) => s

/-- Messages that waited for their bytes to become visible go on (R404). -/
def State.rmePump (s : State) : State :=
  s.rme.qps.foldl (fun s x => if x.2.state = 3 then (advanceE x.1 1025 s).readsDone x.1 else s) s

/-- The RETH of a first packet: address, key and length. -/
def rethOf (body : Bytes) : Nat × Nat × Nat := (fbe body 0 8, fbe body 8 4, fbe body 12 4)

/-- WINDOW_ADMIT (R408): the first packet of a WRITE or READ is admitted or refused as a whole. -/
def State.admitMsg (s : State) (qpn : Nat) (q : Qp) (k : Roce) : State × Option InMsg :=
  let (va, rkey, len) := rethOf k.body
  let n := packetsOf len q.mtu
  match s.windowCheck qpn q.tenant rkey va len (k.op ≠ 0xC) with
  | some (w, a) =>
    let m : InMsg := { first := k.psn, n := n, window := w, addr := a, len := len }
    (s.modQp qpn fun q => { q with msgs := q.msgs ++ [m] }, some m)
  | none =>
    ((((s.modRme fun r => { r with accessNaks := satInc r.accessNaks }).modQp qpn fun q =>
        { q with heldPkts := q.heldPkts.filter fun h => ¬ psnSub h.1 k.psn < n }).rmeAck qpn 0x62 k.psn), none)

/-- Keeps a packet in the window of 512, if the pool has room for it; a placed one needs none. -/
def State.holdPkt (s : State) (qpn psn : Nat) (h : HeldPkt) : State :=
  s.modQp qpn fun q => { q with heldPkts := q.heldPkts.put psn h }

/-- A request packet inside the window that is not held yet (R414). -/
def State.newRequest (s : State) (qpn : Nat) (q : Qp) (k : Roce) : State :=
  let h : HeldPkt := { op := k.op, pad := k.pad, body := k.body }
  let done := { h with body := k.body.take (extLen k.op), placed := true }
  let pay := payloadOf k.op k.pad k.body
  let put := fun (s : State) (m : InMsg) =>
    match s.placeWrite q.tenant q.mtu m k.psn pay with
    | (s, true) => s.holdPkt qpn k.psn done
    | (s, false) => (s.modQp qpn fun q => { q with msgs := q.msgs.filter (· ≠ m) }).rmeAck qpn 0x63 k.psn
  if k.op = 0xC then
    match s.admitMsg qpn q k with
    | (s, some _) => s.holdPkt qpn k.psn done
    | (s, none) => s
  else if k.op = 6 ∨ k.op = 0xA ∨ k.op = 0xB then
    match s.admitMsg qpn q k with
    | (s, some m) => (put s m).placeHeld qpn q m
    | (s, none) => s
  else
    match q.msgs.find? fun m => decide (psnSub k.psn m.first < m.n) with
    | some m => put s m
    | none =>
      if k.psn ≠ q.e ∧ s.rmeKey 1 16384 < s.rme.cells + (k.body.length + 255) / 256 then
        (s.modRme fun r => { r with beyond := satInc r.beyond }).rmeEvent 2
      else s.holdPkt qpn k.psn h

/-- A request packet at the responder (R414). -/
def State.request (s : State) (qpn : Nat) (q : Qp) (k : Roce) : State :=
  let d := psnSub k.psn q.e
  if 2 ^ 23 ≤ d then
    let s := s.modRme fun r => { r with dups := satInc r.dups }
    let (va, rkey, len) := rethOf k.body
    let again := if k.op = 0xC then (s.windowCheck qpn q.tenant rkey va len false).bind fun x => s.readRespond qpn q k.psn x.2 len else none
    (again.getD s).ackNow qpn
  else if 512 ≤ d then (s.modRme fun r => { r with beyond := satInc r.beyond }).nakSeq qpn
  else if (q.heldPkts.find? k.psn).isSome then s.modRme fun r => { r with dups := satInc r.dups }
  else advanceE qpn 1025 (s.newRequest qpn q k)

/-- Whether a packet is one the engine accepts (R401): an open QP in RTR or RTS, the QP's tenant's address, the QP's peer. -/
def State.accepts (s : State) (k : Roce) : Option Qp :=
  match s.qp? k.qpn with
  | none => none
  | some q =>
    let own := if q.job then s.jobAddr == some k.dst else (s.gids q.tenant).contains k.dst
    if (q.state = 2 ∨ q.state = 3) ∧ own ∧ k.src = q.peer then some q else none

/-- A packet failed R401. -/
def State.tenantDrop (s : State) : State :=
  (s.modRme fun r => { r with tenantDrops := satInc r.tenantDrops }).rmeEvent 4

/-- The engine's oldest packet is taken. -/
def State.takePkt (s : State) : State := s.modMrv fun m => { m with toRme := m.toRme.drop 1 }

end Sys2Proof.Machine
end

