-- ==== Sys2Proof/Machine/LehrOps.lean ====
section
/-! DEFINITION. Lehr's operations: announcing, flipping, discarding and committing an epoch, segments, manifests and replica slots (spec/08 R214 to R238). -/

namespace Sys2Proof.Machine

open Sys2Proof

/-- This device is the recorder, the standby. -/
def State.isRecorder (s : State) : Bool := s.mem.joined && decide (s.mem.recorder = s.jobRank)
def State.isStandby (s : State) : Bool := s.mem.joined && decide (s.mem.standby = s.jobRank)

/-- epoch_steps and epoch_timer_ms in force (R216, R242). -/
def State.epochSteps (s : State) : Nat := s.settingOr 0 4 0 (s.prof 3 0 6 1)
def State.epochTimer (s : State) : Nat := s.settingOr 0 5 0 (s.prof 3 0 7 0)

/-- An epoch is in flight, or a fill runs (R237, R501). -/
def State.lehrBusy (s : State) : Bool := s.leh.cur.isSome || s.leh.fill.isSome

/-! ## The control pane (R215) -/

/-- The 64 KiB of the control pane as the job stands. -/
def State.controlPane (s : State) : Bytes :=
  let a := s.ann
  natLe a.step 6 ++ zeros 2 ++ natLe a.k 8 ++ natLe a.b1p 4 ++ natLe a.b2p 4 ++ natLe s.myRange.1 8 ++
    natLe (s.myRange.2 - s.myRange.1) 8 ++ natLe (b2n s.compact) 1 ++ natLe a.rule.code 1 ++ zeros 2 ++ natLe s.sideBytes 4 ++ zeros 65488

/-- Writes the control pane. -/
def State.putControl (s : State) : State :=
  match s.fab.writeDev 0 scopeBase s.controlPane with | .ok (f, _) => { s with fab := f } | .error _ => s

/-- Takes step, k and the power products from the control pane (R188, R235). -/
def State.takeControl (s : State) : State :=
  match s.fab.readDev 0 scopeBase 48 with
  | .ok b => s.modAnn fun a => { a with step := fieldAt b 0 6, k := fieldAt b 8 8, b1p := fieldAt b 0x10 4, b2p := fieldAt b 0x14 4 }
  | .error _ => s

/-- Puts the shard in snapshot scope, no pane armed (R91, R215). -/
def State.setScope (s : State) : State :=
  let ps := (seqFrom 0 s.scopePanes).filterMap s.scopePhys
  { s with fab := ps.foldl Fabric.addScope { s.fab with scope := [], doneBits := [] } }

/-! ## Ending an epoch -/

/-- Ends the CHECKPOINT TAKE commands of an epoch. -/
def endTakes (st r0 r1 : Nat) (l : List CmdRef) (s : State) : State := l.foldl (fun s r => s.finish r st r0 r1) s

/-- Writes held on a pane at its controller. -/
def Fabric.heldAt (f : Fabric) (p : Nat) : Nat := ((f.ctrl (p / 2 ^ 20)).held.filter fun w => paneOf w.pa = p).length

/-- A write stalls on a pane: held, or behind a full hold buffer (R220). -/
def Fabric.stalls (f : Fabric) (p : Nat) : Bool := let c := f.ctrl (p / 2 ^ 20); (c.held ++ c.waiting).any fun w => paneOf w.pa = p

/-- What a discard ends is counted as a copy's release is (R220, R221). How long the writes stalled, and waited on the parison area, are times the model does not hold: free values (log 47). -/
def State.endStalls (s : State) (ps : List Nat) : State :=
  if ¬ ps.any s.fab.stalls then s
  else
    let waited := ps.any fun p => s.fab.starved.contains p && decide (s.fab.heldAt p ≠ 0)
    let us := s.tick.free
    s.tick.tick.modLeh fun l =>
      { l with stallMax := max l.stallMax (s.free % 2 ^ 32), parisonUs := if waited then satAdd l.parisonUs us else l.parisonUs }

/-- Every pane in scope is done: held writes are released, and no copy waits for a parison pane any more (R221, R232). -/
def State.releaseScope (s : State) : State :=
  let ps := s.fab.scope.filter s.fab.armed
  let s := (ps.foldl (fun s p => s.releasePane p) (s.endStalls ps)).rmePump
  { s with fab := { s.fab with parisonShort := false } }

/-- A replica slot that holds nothing any more. -/
def Slot.free (x : Slot) : Slot := { x with epoch := 0, committed := false, segs := [] }

/-- DISCARD(e) is counted, with its cause, kept to be sent again by the recorder a LOST leaves, and e's TAKE commands end (R231, R232). -/
def State.noteDiscard (s : State) (e : Epoch) (cause : Nat) : State :=
  endTakes 0x41 e.num cause e.takes ((s.modLeh fun l =>
    { l with discards := satInc l.discards, lastDiscard := w32 (cause + e.num % 2 ^ 24 * 256), discarded := some (e.num, cause) }).lehEvent 1)

/-- DISCARD on this member (R232): panes released, parison freed, legs abandoned, incoming slots emptied, TAKEs ended. -/
def State.discardLocal (s : State) (cause : Nat) : State :=
  match s.leh.cur with
  | none => s
  | some e =>
    let s := if 2 ≤ e.state then s.releaseScope else s
    (s.modLeh fun l =>
      { l with
        cur := none
        kept := l.kept.filter fun k => k.1 ≠ e.num
        legs := l.legs.filter fun g => g.1 ≠ e.num
        slots := l.slots.map fun x => if x.epoch = e.num ∧ ¬ x.committed then x.free else x }).noteDiscard e cause

/-- Sends DISCARD of an epoch to every member (R231). -/
def State.sendDiscard (s : State) (num cause : Nat) : State :=
  s.others.foldl (fun s r => s.tell r msgDiscard (natLe num 8 ++ natLe cause 1)) s

/-- The recorder sends DISCARD to every member and discards (R231). -/
def State.discardAll (s : State) (cause : Nat) : State :=
  match s.leh.cur with
  | none => s
  | some e => (s.sendDiscard e.num cause).discardLocal cause

/-- A discard cause: settled at the recorder's epoch record, where after the last shard report it comes too late (R231); any other member tells the recorder, and unless its own shard report is out its epoch goes DISCARDED at once (R214). -/
def State.cause (s : State) (st : Nat) : State :=
  match s.leh.cur with
  | none => s
  | some e =>
    if s.isRecorder then (if e.pending.isSome then s else s.discardAll st)
    else
      let s := s.tell s.mem.recorder msgDiscard (natLe e.num 8 ++ natLe st 1)
      if e.state = 4 then s else s.discardLocal st

/-- This member leaves its job: the epoch in flight and one announced end here as discarded, and TAKE commands not yet attached end with no epoch (R239; that a SHARD_DEFINE does so is a DESIGN CHOICE, log 48). -/
def State.leaveEpochs (s : State) (st : Nat) : State :=
  let s := s.discardLocal st
  let s := match s.leh.nextAnn with | some x => s.noteDiscard x st | none => s
  endTakes 0x41 0 st s.leh.takes (s.modLeh fun l =>
    { l with nextAnn := none, takes := [], takeFlags := 0, takeDue := false, timerDue := false, dueAt := none, deferAt := none, earlyAcks := [], discarded := none })

/-! ## The flip (R218) -/

/-- Onward legs an epoch starts on this member (R227, R239). -/
def Lehr.legsOf (l : Lehr) (num flags : Nat) : List Leg :=
  let due := fun every => every ≠ 0 && num % every == 0
  (if due l.policy.1 || flags % 2 == 1 then [{ kind := 3, target := l.policy.2.2.1, area := l.area }] else []) ++
    (if due l.policy.2.1 || flags / 2 % 2 == 1 then [{ kind := 4, target := l.policy.2.2.2, area := l.area }] else [])

/-- Segments of a number of panes. -/
def segCount (panes : Nat) : Nat := (panes + 1023) / 1024

/-- Every controller flips parity (R91). -/
def State.flipHbm (s : State) : State := { s with fab := s.fab.flip }

/-- The flip at the epoch point: every pane in scope is armed, and the legs start; without K buddies the epoch is discarded with 0x92 (R218, R225). -/
def State.flipEpoch (s : State) : State :=
  match s.leh.cur with
  | none => s
  | some e =>
    let s := s.putControl.flipHbm
    let legs := (s.leh.legsOf e.num e.flags).map fun g => { g with segs := segCount s.scopePanes }
    let s := (s.modEpoch fun e =>
      { e with
        state := 2, table := s.mem.table, panes := s.scopePanes, k := s.ann.k, b1p := s.ann.b1p, b2p := s.ann.b2p, rule := s.ann.rule.code
        legs := legs, started := legs.map fun g => (g.kind, g.target) }).modLeh fun l =>
        { l with area := if legs.any fun g => decide (g.kind = 3) then 1 - l.area else l.area }
    if s.buddies = [] then s.cause 0x92 else s

/-! ## Announcing (R216, R217) -/

/-- Where every child has acknowledged, this member acknowledges up the tree; rank 0 tells the recorder. A stopped job flips on acknowledging. -/
def State.ackProgress (s : State) : State :=
  match s.leh.cur with
  | none => s
  | some e =>
    if e.ackSent ∨ ¬ (treeKids 16 s.jobN s.jobRank).all fun c => e.acks.contains c || s.mem.lost.contains c then s
    else
      let s := s.modEpoch fun e => { e with ackSent := true }
      let s :=
        if s.jobRank ≠ 0 then s.tell (treeParent 16 s.jobRank) msgAnnounceAck (natLe e.num 8)
        else if s.isRecorder then s.modEpoch fun e => { e with ackAll := true }
        else s.tell s.mem.recorder msgAnnounceAck (natLe e.num 8)
      if s.ann.state = .stopped ∧ e.state = 1 ∧ e.step = s.ann.step then s.flipEpoch else s

/-- The epoch an announcement names, with the waiting TAKEs and their leg flags attached (R217, R239). -/
def Lehr.announced (l : Lehr) (num step : Nat) (nonce : Bytes) : Epoch := { num := num, step := step, nonce := nonce, takes := l.takes, flags := l.takeFlags }

/-- The announcement of an epoch number has come: nothing waits to be attached any more. -/
def State.attached (s : State) (num : Nat) : State := s.modLeh fun l => { l with lastEpoch := num, takes := [], takeFlags := 0 }

/-- An announced epoch is taken up: ANNOUNCED (R214). -/
def State.takeUp (s : State) (e : Epoch) : State :=
  (s.modLeh fun l =>
    { l with
      nextAnn := none, earlyAcks := l.earlyAcks.filter fun a => e.num < a.1
      cur := some { e with acks := (l.earlyAcks.filter fun a => a.1 = e.num).map (·.2) } }).ackProgress

/-- A member takes up an announcement (R217). -/
def State.takeAnnouncement (s : State) (num step : Nat) (nonce : Bytes) : State := (s.attached num).takeUp (s.leh.announced num step nonce)

/-- The recorder announces an epoch for a step: its number, step and a nonce from the DRBG (R217). -/
def State.announce (s : State) (step : Nat) : State :=
  let nonce := s.random 16
  let num := s.leh.lastEpoch + 1
  let s := s.usedRandom
  let s := s.others.foldl (fun s r => s.tell r msgAnnounce (natLe num 8 ++ natLe step 6 ++ nonce)) s
  (s.modLeh fun l => { l with timerDue := false, takeDue := false, dueAt := none }).takeAnnouncement num step nonce

/-- The next step is an epoch step of the step cause, not deferred already (R216). -/
def State.stepCause (s : State) : Bool :=
  decide (s.epochSteps ≠ 0 ∧ (s.ann.step + 1) % s.epochSteps = 0 ∧ s.leh.deferAt ≠ some (s.ann.step + 1))

/-- The recorder announces what is due, once the epoch before has ended and no fill runs (R216, R217, R237). -/
def State.maybeAnnounce (s : State) : State :=
  if ¬ s.isRecorder ∨ s.lehrBusy ∨ s.ann.initial then s
  else
    let cmd := s.leh.takes ≠ [] || s.leh.takeDue
    match s.ann.state with
    | .running =>
      if s.stepCause ∧ ¬ s.ann.scalarsUp then s.announce (s.ann.step + 1)
      else if cmd ∨ s.leh.timerDue then s.announce (s.ann.step + 2)
      else s
    | .stopped => if cmd then s.announce s.ann.step else s
    | _ => s

/-- Once the epoch before has ended here, an announcement that waited is taken up. -/
def State.takeNext (s : State) : State :=
  match s.leh.cur, s.leh.nextAnn with
  | none, some e => s.takeUp e
  | _, _ => s

/-- What follows the end of an epoch: an announcement that waited, or at the recorder the next epoch that is due. -/
def State.nextEpoch (s : State) : State := s.takeNext.maybeAnnounce

/-- The recorder does not send its scalars of step s_e − 1 before every member has acknowledged (R217). -/
def State.scalarGate (s : State) : Bool :=
  match s.leh.cur with
  | some e => !s.isRecorder || decide (e.step ≠ s.ann.step + 1) || decide (e.state ≠ 1) || e.ackAll
  | none => true

/-- The deadline has passed with an epoch still due: it is deferred and counted (R216); a timer or command cause stays due. -/
def State.deferEpoch (s : State) : State :=
  let other : Bool := match s.leh.cur with | some e => e.step ≠ s.ann.step + 1 | none => true
  let late : Bool := decide (s.leh.dueAt = some (s.ann.step + 1))
  let missed := s.stepCause && other
  if s.isRecorder ∧ (missed ∨ late) then
    (s.modLeh fun l => { l with
      deferred := satInc l.deferred, dueAt := if late then none else l.dueAt
      deferAt := if missed then some (s.ann.step + 1) else l.deferAt }).lehEvent 2
  else s

/-! ## Segments (R222 to R224) -/

/-- Panes of segment `i`. -/
def segPanes (panes i : Nat) : List Nat := seqFrom (1024 * i) (min 1024 (panes - 1024 * i))

/-- The 64-byte header of a segment. -/
def segHeader (epoch rank i panes total : Nat) (digest : Bytes) : Bytes :=
  ascii "RSEG" ++ natLe 1 2 ++ zeros 2 ++ natLe epoch 8 ++ natLe rank 4 ++ natLe i 4 ++ natLe panes 4 ++ natLe total 4 ++ digest

/-- The IV of a segment (R223). -/
def segIv (epoch rank i : Nat) : Bytes := natLe epoch 6 ++ natLe rank 2 ++ natLe i 4

/-- A segment as stored and sent. -/
def sealSegment (key : Bytes) (epoch rank i total : Nat) (panes : Bytes) : Bytes :=
  let h := segHeader epoch rank i (panes.length / paneBytes) total (sha256 panes)
  let iv := segIv epoch rank i
  let ct := gcmCrypt key iv panes
  h ++ ct ++ gcmTag key iv h ct

/-- The panes of a segment whose header, tag and digest hold; none where a check fails (R226, R236). -/
def openSegment (key seg : Bytes) : Option Bytes :=
  let h := seg.take 64
  let n := fieldAt h 0x18 4 * paneBytes
  let ct := slice seg 64 n
  let iv := segIv (fieldAt h 8 8) (fieldAt h 0x10 4) (fieldAt h 0x14 4)
  let pt := gcmCrypt key iv ct
  if slice h 0 4 = ascii "RSEG" ∧ fieldAt h 4 2 = 1 ∧ seg.length = 80 + n ∧ gcmTag key iv h ct = slice seg (64 + n) 16 ∧ sha256 pt = slice h 0x20 32 then
    some pt
  else none

/-- Bytes of a scope pane as the shard now holds it. -/
def State.scopePane (s : State) (i : Nat) : Except Nat Bytes := s.fab.readDev 0 (scopeBase + i * paneBytes) paneBytes

/-- Where parison slot `j` lies. -/
def parisonAt (j : Nat) : Nat := parisonBase + j * paneBytes

/-- The bytes of a parison copy of a scope pane. -/
def State.parisonPane (s : State) (i : Nat) : Option (Except Nat Bytes) :=
  match s.leh.cur with
  | none => none
  | some e =>
    let k := (s.leh.kept.filter fun k => k.1 = e.num).map fun k => (k.2.1, k.2.2)
    match (e.copies ++ k).find? fun c => c.1 = i with
    | none => none
    | some c => some (s.fab.readDev 0 (parisonAt c.2) paneBytes)

/-- The panes of a segment from the parison area: the failure of a read, if any. -/
def State.parisonPanesOf (s : State) : List Nat → Except Nat (Option Bytes)
  | [] => .ok (some [])
  | i :: r =>
    match s.parisonPane i, State.parisonPanesOf s r with
    | none, _ => .ok none
    | some (.error e), _ => .error e
    | some (.ok _), .error e => .error e
    | some (.ok _), .ok none => .ok none
    | some (.ok b), .ok (some l) => .ok (some (b ++ l))

/-! ## Shard reports and manifests (R228, R229) -/

/-- The digest of a shard (R224). -/
def shardDigest (digests : Tbl Bytes) : Bytes := sha256 (digests.flatMap (·.2))

/-- The wire form of a shard report. -/
def ShardReport.bytes (r : ShardReport) (epoch rank : Nat) : Bytes :=
  natLe epoch 8 ++ natLe rank 4 ++ natLe r.segments 4 ++ natLe r.scope 8 ++ natLe r.first 8 ++ natLe r.count 8 ++ r.digest ++
    natLe r.buddies.length 1 ++ r.buddies.flatMap (fun b => natLe b.1 4 ++ natLe b.2 1) ++ r.legs.flatMap fun l => natLe l.1 1 ++ natLe l.2 4

/-- Entries of the location table of one rank, by kind. -/
def locations (rank : Nat) (r : ShardReport) : List Bytes :=
  let entry := fun (kind holder : Nat) => natLe rank 4 ++ natLe kind 1 ++ zeros 3 ++ natLe holder 4 ++ zeros 4
  ((r.buddies.filter fun b => b.2 = 1).map fun b => entry 1 b.1) ++ ((r.buddies.filter fun b => b.2 = 2).map fun b => entry 2 b.1) ++
    ((r.legs.filter fun l => l.1 = 3).map fun _ => entry 3 rank) ++ (r.legs.filter fun l => l.1 = 4).map fun l => entry 4 l.2

/-- Builds and signs the manifest of the epoch in flight from its shard reports. -/
def State.buildManifest (s : State) (e : Epoch) : Bytes :=
  let n := tableN e.table
  let locs := (seqFrom 0 n).flatMap fun r => match e.reports.find? r with | some x => locations r x | none => []
  let shards := (seqFrom 0 n).flatMap fun r =>
    match e.reports.find? r with
    | some x => natLe r 4 ++ natLe x.segments 4 ++ natLe x.scope 8 ++ natLe x.first 8 ++ natLe x.count 8 ++ x.digest
    | none => natLe r 4 ++ zeros 60
  let so := 256 + e.table.length
  let lo := so + 64 * n
  let total := lo + 16 * locs.length + 384
  let prev := match s.leh.held with | c :: _ => c.num | [] => 0
  let body := ascii "RMAN" ++ natLe 1 2 ++ zeros 2 ++ natLe total 8 ++ natLe e.num 8 ++ natLe prev 8 ++ natLe e.step 6 ++ zeros 2 ++
    natLe e.k 8 ++ natLe e.b1p 4 ++ natLe e.b2p 4 ++ natLe s.ann.p 8 ++ (s.ann.seed ++ zeros 16).take 16 ++ (e.nonce ++ zeros 16).take 16 ++
    (s.ann.digest ++ zeros 32).take 32 ++ natLe (b2n s.compact) 1 ++ natLe (b2n s.invariantMode) 1 ++ natLe s.replicas 1 ++
    natLe e.rule 1 ++ natLe n 4 ++ natLe s.mem.recorder 4 ++ natLe s.mem.standby 4 ++ natLe 256 4 ++ natLe e.table.length 4 ++
    natLe so 4 ++ natLe lo 4 ++ natLe locs.length 4 ++ zeros 4 ++ sha256 Config.idkPublic ++ zeros 56 ++ e.table ++ shards ++ locs.flatten
  body ++ Config.idkSign body

namespace Manifest

def epoch (m : Bytes) : Nat := fieldAt m 0x10 8
def step (m : Bytes) : Nat := fieldAt m 0x20 6
def k (m : Bytes) : Nat := fieldAt m 0x28 8
def b1p (m : Bytes) : Nat := fieldAt m 0x30 4
def b2p (m : Bytes) : Nat := fieldAt m 0x34 4
def p (m : Bytes) : Nat := fieldAt m 0x38 8
def seed (m : Bytes) : Bytes := slice m 0x40 16
def nonce (m : Bytes) : Bytes := slice m 0x50 16
def members (m : Bytes) : Nat := fieldAt m 0x84 4
def table (m : Bytes) : Bytes := slice m (fieldAt m 0x90 4) (fieldAt m 0x94 4)
/-- Shard table entry of a rank. -/
def shard (m : Bytes) (r : Nat) : Bytes := slice m (fieldAt m 0x98 4 + 64 * r) 64
def segments (m : Bytes) (r : Nat) : Nat := fieldAt (shard m r) 4 4
def panes (m : Bytes) (r : Nat) : Nat := fieldAt (shard m r) 8 8 / paneBytes
def digest (m : Bytes) (r : Nat) : Bytes := slice (shard m r) 0x20 32
/-- Locations of a rank's shard: kind and holder. -/
def holders (m : Bytes) (r : Nat) : List (Nat × Nat) :=
  ((seqFrom 0 (fieldAt m 0xA0 4)).map fun i => slice m (fieldAt m 0x9C 4 + 16 * i) 16).filterMap fun e =>
    if fieldAt e 0 4 = r then some (fieldAt e 4 1, fieldAt e 8 4) else none
/-- The signature over everything before it under a public key block whose SHA-256 the header names (R228). -/
def signed (m key : Bytes) : Bool :=
  decide (sha256 key = slice m 0xA8 32) && decide (384 ≤ m.length) &&
    rsaPssVerify (key.take 384) (key.drop 384) (m.take (m.length - 384)) (m.drop (m.length - 384))

end Manifest

/-! ## Who may sign a manifest (R440) -/

/-- Each certificate of a list is signed with RSASSA-PSS under the key of the one before it, the first under `key`. -/
def certLinks (key : Bytes) : List Bytes → Bool
  | [] => true
  | c :: r => rsaPssVerify (key.take 384) (key.drop 384) (Config.certBody c) (Config.certSig c) && certLinks (Config.certKey c) r

/-- owner_root_hash, where it is set (R455). -/
def State.ownerRoot (s : State) : Option Bytes := (Profile.value? s.boot.profile 0xB 0 2).filter fun h => decide (h ≠ zeros 32)

/-- The identity certificate of a chain that leads from the Dravviar root, or from a root with the hash of owner_root_hash (R439, R440). -/
def State.identity (s : State) (chain : Bytes) : Option Bytes :=
  match Config.certSplit chain with
  | [] => none
  | root :: r =>
    let owner := match s.ownerRoot with | some h => decide (sha256 root = h) && certLinks (Config.certKey root) r | none => false
    if certLinks (Config.certKey Config.rootCert) (root :: r) || owner then (root :: r).getLast? else none

/-- A manifest's signature holds under the key of an identity certificate among `chains` whose serial is that of the recorder rank in the manifest's member table (R228, R440). -/
def State.vouched (s : State) (chains : List Bytes) (m : Bytes) : Bool :=
  chains.any fun ch =>
    match s.identity ch with
    | some c => decide (Config.certSerial c = tableSerial (Manifest.table m) (fieldAt m 0x88 4)) && Manifest.signed m (Config.certKey c)
    | none => false

/-! ## Commit (R230, R234) -/

/-- Sends COMMIT down the fan-out-16 tree from the recorder (R230). -/
def State.commitDown (s : State) (m : Bytes) : State :=
  (s.downKids s.mem.recorder).foldl (fun s c => s.tell c msgCommit m) s

/-- A write of an onward leg at an offset of its epoch area: a drive leg's passes the admission of its namespace, a remote leg's goes to its target (R25, R227). -/
def State.legWrite (s : State) (epoch : Nat) (g : Leg) (off : Nat) (bytes : Bytes) (part : LegPart) : State :=
  if g.kind = 3 then s.writeLeg epoch off bytes part else s.emit (.onward g.kind g.target g.area off bytes)

/-- Writes of the onward legs that an epoch's commit calls for: the manifest (R227). -/
def State.legsManifest (s : State) (epoch : Nat) (m : Bytes) : State :=
  (s.leh.legs.filter fun g => g.1 = epoch).foldl (fun s g => s.legWrite epoch g.2 (segOffset g.2.segs) m .manifest) s

/-! ## Replica slots (R225, R234, R237) -/

/-- A range holds part of a factored tensor. -/
def holdsPart (rng : Nat × Nat) (f : Nat × Nat × Nat) : Bool := let c := cut (f.1, f.1 + f.2.1 * f.2.2) rng; decide (c.1 < c.2)

/-- Scope panes of a rank of the job (R183, R215). -/
def State.rankPanes (s : State) (r : Nat) : Nat :=
  let g := shardGroups s.ann.p s.jobN r
  let side := (s.ann.rule.factors.filter (holdsPart (shardRange s.ann.p s.jobN r))).map fun f => 4 * (f.2.1 + f.2.2)
  1 + panesOf ((g.2 - g.1) * groupBytes s.compact) + panesOf side.sum

/-- Bytes of a slot sized for a rank's segments; on a drive each takes whole 4 KiB blocks. -/
def State.slotSize (s : State) (r : Nat) (drive : Bool) : Nat :=
  let n := s.rankPanes r
  if drive then segCount n * 0x4001000 else n * paneBytes + 80 * segCount n

/-- HBM bytes of the replica slots. -/
def Lehr.slotBytes (l : Lehr) : Nat := ((l.slots.filter fun x => !x.onDrive).map (·.size)).sum

/-- Where the replica namespace has room for a slot. -/
def State.driveBase (s : State) (need : Nat) : Option Nat :=
  match s.space 0 replicaNsid with
  | none => none
  | some n =>
    let used := s.leh.slots.filter (·.onDrive)
    if ¬ s.nsReady n then none
    else (0 :: used.map fun x => x.base + x.size).find? fun b =>
      decide (b + need ≤ n.size) && used.all fun x => decide (b + need ≤ x.base ∨ x.base + x.size ≤ b)

/-- Reserves a slot for a rank in the job space that is left after the need of R183, copies of projection bases among it, else on the drives, where there is room (R225). -/
def State.addSlot (s : State) (r : Nat) : State :=
  let x : Slot := { rank := r, gen := s.mem.gen, size := s.slotSize r false }
  if s.jobUsed + s.ann.baseBytes + s.leh.slotBytes + x.size ≤ s.jobSpace then s.modLeh fun l => { l with slots := l.slots ++ [x] }
  else
    match s.driveBase (s.slotSize r true) with
    | some b => (s.lehEvent 7).modLeh fun l => { l with slots := l.slots ++ [{ x with size := s.slotSize r true, base := b, onDrive := true }] }
    | none => s

/-- Three slots for each rank this device serves, less one for each committed epoch of an earlier membership that it still holds (R225, R234, R262). -/
def State.reserveSlots (s : State) : State :=
  let fits := fun (x : Slot) => decide (x.epoch ≠ 0) ||
    (decide (x.gen = s.mem.gen ∧ x.size = s.slotSize x.rank x.onDrive) && s.servedRanks.contains x.rank)
  let s := s.modLeh fun l => { l with slots := l.slots.filter fits }
  let old := (((s.leh.slots.filter fun x => x.gen ≠ s.mem.gen).map (·.epoch)).eraseDups).length
  s.servedRanks.foldl (fun s r =>
    let have_ := (s.leh.slots.filter fun x => x.gen = s.mem.gen ∧ x.rank = r).length
    (seqFrom 0 (max 1 (3 - old) - have_)).foldl (fun s _ => s.addSlot r) s) s

/-- Frees the slots of every epoch older than the two committed ones this device holds; none while a RESTORE or RESHARD runs (R234, R237). -/
def State.freeSlots (s : State) : State :=
  if s.leh.fill.isSome then s
  else
    let held := s.leh.held
    State.reserveSlots (s.modLeh fun l => { l with slots := l.slots.map fun x =>
      if x.committed && !(held.any fun c => decide (c.num = x.epoch)) then x.free else x })

/-- The incoming slot of a rank for an epoch, a free one where there is none yet: the index of the slot; none without one (R225). -/
def State.incoming (s : State) (rank epoch : Nat) : Option Nat :=
  (s.leh.slots.findIdx? fun x => decide (x.rank = rank ∧ x.epoch = epoch ∧ x.gen = s.mem.gen ∧ ¬ x.committed)).or
    (s.leh.slots.findIdx? fun x => decide (x.rank = rank ∧ x.epoch = 0 ∧ x.gen = s.mem.gen))

/-- Kind of a slot in reports and manifests: 1 HBM, 2 drive (R228). -/
def slotKind (x : Slot) : Nat := if x.onDrive then 2 else 1

/-- Stores a checked segment in the incoming slot of its rank: in HBM it is acknowledged at once, on a drive once the drive has completed the write; none without a slot (R225, R226). -/
def State.storeSegment (s : State) (rank epoch i : Nat) (seg : Bytes) : Option State :=
  match s.incoming rank epoch with
  | none => none
  | some k =>
    match s.leh.slots[k]? with
    | none => none
    | some x =>
      let s := s.modLeh fun l => { l with slots := modNth l.slots k fun x => { x with epoch := epoch } }
      some (if x.onDrive then s.writeSlot (x.base + i * 0x4001000) { rank := rank, epoch := epoch, seg := i, bytes := seg }
        else (s.modLeh fun l => l.store rank epoch i seg).tell rank msgSegmentAck (natLe epoch 8 ++ natLe i 4 ++ natLe 1 1))

/-- COMMIT on this member (R234): the manifest is held as COMMITTED, older manifests and slots go, and the TAKEs end with 0x00. -/
def State.commitLocal (s : State) (m : Bytes) : State :=
  let num := Manifest.epoch m
  let cur := s.leh.cur
  let s := (s.modLeh fun l =>
    { l with
      held := ({ num := num, step := Manifest.step m, manifest := m } :: l.held.filter fun c => c.num ≠ num).take 2
      commits := satInc l.commits
      slots := l.slots.map fun x => if x.epoch = num then { x with committed := true } else x }).lehEvent 0
  let s := s.ddtUpdate
  match cur with
  | some e =>
    if e.num = num then
      let s := s.modLeh fun l =>
        { l with
          cur := none
          kept := l.kept ++ (if e.legs.isEmpty then [] else e.copies.map fun c => (num, c.1, c.2))
          legs := l.legs ++ e.legs.map fun g => (num, { g with manifest := m.length }) }
      let s := s.legsManifest num m
      endTakes 0 num e.step e.takes s.freeSlots
    else s.freeSlots
  | none => s.freeSlots

end Sys2Proof.Machine
end

