-- ==== Sys2Proof/Machine/RuleMath.lean ====
section
/-! DEFINITION. FP32 division and square root, the optimizer rules and microprograms on one parameter (spec/07 R200 to R205). -/

namespace Sys2Proof.Machine

open Sys2Proof

/-- FP32 difference, product. -/
def subF32 (a b : Val) : Val := addF32 a b.neg
def mulF32 (a b : Val) : Val := r32 (a.mul b)

/-- FP32 quotient, correctly rounded (R200): 64 further quotient bits and a sticky bit. -/
def divF32 : Val → Val → Val
  | .nan, _ => .nan
  | _, .nan => .nan
  | .inf _, .inf _ => .nan
  | .inf a, .fin b _ _ => .inf (a != b)
  | .fin a _ _, .inf b => .fin (a != b) 0 0
  | .fin a m e, .fin b n f =>
    if n = 0 then (if m = 0 then .nan else .inf (a != b))
    else if m = 0 then .fin (a != b) 0 0
    else
      let t := m * 2 ^ 64
      r32 (.fin (a != b) (2 * (t / n) + (if t % n = 0 then 0 else 1)) (e - f - 65))

/-- Integer square root, one bit at a time from bit `k` down. -/
def isqrt (n : Nat) : Nat → Nat → Nat
  | 0, acc => acc
  | k + 1, acc => let t := acc + 2 ^ k; isqrt n k (if t * t ≤ n then t else acc)

/-- FP32 square root, correctly rounded (R200). -/
def sqrtF32 : Val → Val
  | .nan => .nan
  | .inf s => if s then .nan else .inf false
  | .fin s m e =>
    if m = 0 then .fin s 0 0
    else if s then .nan
    else
      let odd := e % 2 ≠ 0
      let n := (if odd then 2 * m else m) * 2 ^ 64
      let f := if odd then e - 1 else e
      let q := isqrt n (Nat.log2 n / 2 + 1) 0
      r32 (.fin false (2 * q + (if q * q = n then 0 else 1)) (f / 2 - 33))

/-- The value is a zero with its sign bit set. -/
def isNegZero : Val → Bool
  | .fin true 0 _ => true
  | _ => false

/-- The smaller of two values; −0 below +0, NaN if either is NaN (R203). -/
def minF32 (a b : Val) : Val :=
  if a = .nan ∨ b = .nan then .nan
  else if a.lt b then a else if b.lt a then b else if isNegZero a then a else b

/-- The larger of two values. -/
def maxF32 (a b : Val) : Val :=
  if a = .nan ∨ b = .nan then .nan
  else if a.lt b then b else if b.lt a then a else if isNegZero a then b else a

/-- The magnitude of a value. -/
def absF32 : Val → Val
  | .nan => .nan
  | .inf _ => .inf false
  | .fin _ m e => .fin false m e

/-- +1, −1, or +0 for a zero; NaN for NaN. -/
def signF32 : Val → Val
  | .nan => .nan
  | .inf s => .fin s 1 0
  | .fin s m _ => if m = 0 then Val.zero else .fin s 1 0

/-- 1.0. -/
def oneF32 : Val := .fin false 1 0

/-- What a rule sees of the step. -/
structure RuleEnv where
  code : Nat
  c : List Val
  bc1 : Val
  bc2 : Val
  program : List Nat
  seed : Bytes
  step : Nat
deriving DecidableEq, Repr

/-- Constant i. -/
def RuleEnv.const (e : RuleEnv) (i : Nat) : Val := e.c.getD i Val.zero

/-- An operand of a microprogram operation (R203). -/
def RuleEnv.operand (e : RuleEnv) (v : List Val) (n : Nat) : Val :=
  if n < 16 then v.getD n Val.zero else if n < 30 then e.const (n - 16) else if n = 30 then e.bc1 else e.bc2

/-- The fields of an operation: op, d, a, b, c, rounding. -/
def opFields (w : Nat) : Nat × Nat × Nat × Nat × Nat × Nat :=
  (w % 64, w / 64 % 16, w / 2 ^ 10 % 32, w / 2 ^ 15 % 32, w / 2 ^ 20 % 32, w / 2 ^ 25 % 4)

/-- An operation is valid (R203). -/
def opOk (w : Nat) : Bool :=
  let (op, _, _, _, _, rnd) := opFields w
  decide (1 ≤ op ∧ op ≤ 0x0D) && decide (rnd ≠ 3) && decide (w / 2 ^ 27 = 0)

/-- The first invalid operation of a program (R186). -/
def programBad (p : List Nat) : Option Nat := (p.zipIdx.find? fun x => !opOk x.1).map (·.2)

/-- One operation on the registers. -/
def RuleEnv.op (e : RuleEnv) (idx i w : Nat) (v : List Val) : List Val :=
  let (op, d, an, bn, cn, rnd) := opFields w
  let a := e.operand v an; let b := e.operand v bn; let c := e.operand v cn
  let r :=
    match op with
    | 0x01 => addF32 a b | 0x02 => subF32 a b | 0x03 => mulF32 a b | 0x04 => divF32 a b | 0x05 => sqrtF32 a
    | 0x06 => minF32 a b | 0x07 => maxF32 a b | 0x08 => absF32 a | 0x09 => a.neg | 0x0A => signF32 a
    | 0x0B => if a.lt Val.zero then b else c
    | 0x0C =>
      let md := (rndOf rnd).getD .rne
      bf16.decode (bf16.conv false md (if md = .sr then srValue e.seed 3 e.step i idx else 0) a)
    | _ => a
  setNth v d r

/-- A microprogram on one parameter (R204): the new w, m and v. -/
def RuleEnv.run (e : RuleEnv) (idx : Nat) (g w m v : Val) : Val × Val × Val :=
  let r := e.program.zipIdx.foldl (fun v p => e.op idx p.2 p.1 v) ([g, w, m, v] ++ List.replicate 12 Val.zero)
  (r.getD 1 .nan, r.getD 2 .nan, r.getD 3 .nan)

/-- A rule on one parameter: the new w, m and v. `fac` holds R_i, C_j and T of a factored parameter (R201, R202). -/
def RuleEnv.apply (e : RuleEnv) (fac : Option (Val × Val × Val)) (idx : Nat) (g w m v : Val) : Val × Val × Val :=
  let c := e.const
  let mix := fun (b x y : Val) => addF32 (mulF32 b x) (mulF32 (subF32 oneF32 b) y)
  let down := fun (u : Val) => subF32 w (mulF32 (c 0) (addF32 u (mulF32 (c 4) w)))
  match e.code with
  | 1 =>
    let m' := addF32 (mulF32 (c 7) m) g
    (down m', m', Val.zero)
  | 2 =>
    let m' := mix (c 1) m g
    let v' := mix (c 2) v (mulF32 g g)
    (down (divF32 (divF32 m' e.bc1) (addF32 (sqrtF32 (divF32 v' e.bc2)) (c 3))), m', v')
  | 3 => (down (signF32 (mix (c 1) m g)), mix (c 2) m g, Val.zero)
  | 4 =>
    let v' := if fac.isSome then Val.zero else mix (c 2) v (addF32 (mulF32 g g) (c 3))
    let u := match fac with
      | some (r, k, t) => divF32 g (sqrtF32 (divF32 (mulF32 r k) t))
      | none => divF32 g (sqrtF32 v')
    if Val.zero.lt (c 1) then let m' := mix (c 1) m u; (down m', m', v') else (down u, Val.zero, v')
  | _ => e.run idx g w m v

end Sys2Proof.Machine
end

