-- ==== Sys2Proof/Machine/AnnealOps.lean ====
section
/-! DEFINITION. The Anneal engines' operations on a step: intake, reduction, scalars, update, write-back and the counter (spec/07 R189 to R209). -/

namespace Sys2Proof.Machine

open Sys2Proof

/-! ## Reads of the job's memory -/

/-- Memory as it stands once every held and waiting write has landed. -/
def Fabric.settled (f : Fabric) : Fabric :=
  f.ctrls.foldl (fun f c => (c.2.held ++ c.2.waiting).foldl (fun f w => f.writeNow w.pa w.bytes) f) f

/-- Reads the job's memory: an Anneal read follows Anneal's own earlier writes, held ones too (R72). -/
def State.readJob (s : State) (off n : Nat) : Except Nat Bytes := s.fab.settled.readDev 0 off n

/-- Writes the job's memory; a failure changes nothing. -/
def State.writeJob (s : State) (off : Nat) (bs : Bytes) : State :=
  match s.fab.writeDev 0 off bs with | .ok (f, _) => { s with fab := f } | .error _ => s

/-- Changes a bucket of the job. -/
def State.modBucket (s : State) (id : Nat) (f : Bucket → Bucket) : State :=
  s.modAnn fun a => { a with buckets := a.buckets.map fun b => if b.id = id then f b else b }

/-- A bucket by its id. -/
def Anneal.bucket? (a : Anneal) (id : Nat) : Option Bucket := a.buckets.find? fun b => b.id = id

/-- Changes a layer group, in force or waiting. -/
def State.modGroup (s : State) (id : Nat) (f : Group → Group) : State :=
  s.modAnn fun a => { a with
    groups := a.groups.mapVal fun i g => if i = id then f g else g
    nextGroups := a.nextGroups.mapVal fun i g => if i = id then f g else g }

/-- The last step of a 48-bit counter before x. -/
def stepBefore (x : Nat) : Nat := (x + 2 ^ 48 - 1) % 2 ^ 48

/-- Stream step of the write-back under way (R206). -/
def Anneal.stream (a : Anneal) : Nat := if a.initial then stepBefore a.step else a.step

/-- The epoch step a re-shard under way leads back to (R260, R262). -/
def State.resharding (s : State) : Option Nat := s.leh.fill.bind fun f => if f.reshard then some (Manifest.step f.manifest) else none

/-- Nothing of the run that a re-shard ends is left in the engines; what is kept from now on comes from members ahead of this one in the run that follows (R261, R262). -/
def Anneal.restart (a : Anneal) : Anneal :=
  { a with
    barrier := false, digests := [], lateDigests := [], abortNext := none, timer := false, skip := false
    own := none, scalarsUp := false, global := none, scalarsIn := [], scalarsNext := [], sums := []
    buckets := a.buckets.map fun b => { b with arrived := [], early := [], timedOut := false, summed := false, combined := false, parts := [] }
    groups := a.groups.mapVal fun _ g => { g with sent := false, written := false, ready := false, parts := [] }
    nextGroups := a.nextGroups.mapVal fun _ g => { g with sent := false, written := false, ready := false, parts := [] } }

/-! ## Buckets (R184, R194, R195, R197) -/

namespace Bucket

def fmt (b : Bucket) : Nat := fieldAt b.body 2 1
def code (b : Bucket) : Nat := fmtCode b.fmt
/-- FP8 intake carries MX scales. -/
def mx (b : Bucket) : Bool := b.code == 4 || b.code == 5
def projected (b : Bucket) : Bool := fieldAt b.body 3 1 % 2 = 1
/-- Projection rounding. -/
def round (b : Bucket) : Nat := fieldAt b.body 3 1 / 2 % 4
def mask (b : Bucket) : Nat := fieldAt b.body 4 4
def first (b : Bucket) : Nat := fieldAt b.body 8 8
def count (b : Bucket) : Nat := fieldAt b.body 0x10 4
def cols (b : Bucket) : Nat := fieldAt b.body 0x14 4
def rank (b : Bucket) : Nat := fieldAt b.body 0x20 2
/-- Rows of a projected bucket. -/
def rows (b : Bucket) : Nat := b.count / b.cols
/-- Its parameters, first and one past the last. -/
def range (b : Bucket) : Nat × Nat := (b.first, b.first + b.count)
/-- Elements of its partials. -/
def partials (b : Bucket) : Nat := if b.projected then b.rows * b.rank else b.count

/-- Bytes of `n` elements with MX scales: elements, a short last block at full size, then scales from the next multiple of 64 (R184, R189). -/
def layout (code n : Nat) (mx : Bool) : Nat × Nat × Nat :=
  let full := if mx then (n + 31) / 32 * 32 else n
  let e := full * codeBits code / 8
  let so := (e + 63) / 64 * 64
  (e, so, if mx then so + full / 32 else e)

/-- Bytes of a contribution. -/
def slotBytes (b : Bucket) : Nat := (layout b.code b.count b.mx).2.2

/-- The part of its partials that rank r owns or, projected, needs: first and one past the last (R195, R197). -/
def slice (b : Bucket) (p n r : Nat) : Nat × Nat :=
  let c := cut b.range (shardRange p n r)
  if c.2 ≤ c.1 then (0, 0)
  else if b.projected then ((c.1 - b.first) / b.cols * b.rank, ((c.2 - b.first + b.cols - 1) / b.cols) * b.rank)
  else (c.1 - b.first, c.2 - b.first)

/-- Q's element of column k in basis vector j (R163). -/
def qVal (b : Bucket) (k j : Nat) : Val := bf16.decode (fieldAt b.q (2 * (j * b.cols + k)) 2)

end Bucket

/-- A bucket is complete (R193). -/
def Bucket.complete (b : Bucket) : Bool := (contributors b.mask).all fun c => b.arrived.any fun a => a.1 = c

/-- The values of one local contribution. -/
def State.contribution (s : State) (b : Bucket) (c q : Nat) : Except Nat (List Val) :=
  let base := s.ann.ringAt c + q % s.ann.depth * s.ann.slot
  let (e, so, n) := Bucket.layout b.code b.count b.mx
  match s.readJob base n with
  | .error x => .error x
  | .ok bs => .ok ((rowVals b.code b.mx b.count (bs.take e) (slice bs so (n - so))).take b.count)

/-- The local contributions of a complete bucket, in contributor order. -/
def State.contributions (s : State) (b : Bucket) : List (Nat × Nat) → Except Nat (List (List Val))
  | [] => .ok []
  | (c, q) :: r =>
    match s.contribution b c q, State.contributions s b r with
    | .error e, _ => .error e
    | .ok _, .error e => .error e
    | .ok v, .ok l => .ok (v :: l)

/-- The exact sum of the contributions of an element, not rounded. -/
def exactOf (vs : List Val) : Val := (vs.foldl (fun (a : LongAcc) v => a.put false v) {}).val

/-- Column i of a list of rows. -/
def column (i : Nat) (l : List (List Val)) : List Val := l.map fun r => r.getD i Val.zero

/-- BF16 by RNE, as a value. -/
def toBf16 (v : Val) : Val := bf16.decode (bf16.conv false .rne 0 v)

/-- Bytes of one element of a bucket's partials. -/
def State.partWidth (s : State) (b : Bucket) : Nat := if s.invariantMode ∧ ¬ b.projected then 12 else 4

/-- The partials of this device for a bucket (R194, R197). -/
def State.partialBytes (s : State) (b : Bucket) (cs : List (List Val)) : Bytes :=
  if b.projected then
    let md := (rndOf b.round).getD .rne
    (seqFrom 0 b.rows).flatMap fun i =>
      let x := (seqFrom 0 b.cols).map fun k => toBf16 (exactOf (column (i * b.cols + k) cs))
      (seqFrom 0 b.rank).flatMap fun j =>
        let y := (exactDot none (List.zip x ((seqFrom 0 b.cols).map fun k => b.qVal k j))).val
        natLe (fp32.conv false md (if md = .sr then srValue (s.srSeed 0) 4 s.ann.step b.id (i * b.rank + j) else 0) y) 4
  else
    (seqFrom 0 b.count).flatMap fun i =>
      let vs := column i cs
      if s.invariantMode then (vs.foldl (fun p v => p.merge (Inv.of v)) Inv.empty).bytes else natLe (toF32 (partialSum vs)) 4

/-- Cuts elements of width `w` into messages of at most 1 MiB of payload (R195): offsets in elements, with their bytes. -/
def messages (w : Nat) (bs : Bytes) : List (Nat × Bytes) :=
  let m := (2 ^ 20 - 16) / w
  (chunks m 0 (bs.length / w)).map fun c => (c.1, slice bs (c.1 * w) (c.2 * w))

/-- Kind of a bucket's partials messages (R195). -/
def State.partKind (s : State) (b : Bucket) : Nat := if b.projected then 3 else if s.invariantMode then 2 else 1

/-- Keeps a part unless it is held already. -/
def addPart (l : List Part) (p : Part) : List Part :=
  if l.any fun x => decide (x.step = p.step ∧ x.src = p.src ∧ x.off = p.off) then l else l ++ [p]

/-- Bytes that have arrived from a source for a step. -/
def partsLen (l : List Part) (step src : Nat) : Nat := ((l.filter fun p => decide (p.step = step ∧ p.src = src)).map fun p => p.bytes.length).sum

/-- `n` bytes of a source's parts from element `i` of width `w`. -/
def partElem (l : List Part) (step src w i : Nat) : Bytes :=
  match l.find? fun p => decide (p.step = step ∧ p.src = src ∧ p.off ≤ i ∧ (i - p.off + 1) * w ≤ p.bytes.length) with
  | some p => slice p.bytes ((i - p.off) * w) w
  | none => zeros w

/-! ## Intake (R189 to R193) -/

/-- Releases a slot of a ring; where the count of slots released in order grows, the credit word is written (R192). -/
def State.releaseSlot (s : State) (c q : Nat) : State :=
  let r := s.ann.rings.getD c {}
  let done := r.done ++ [q]
  let grow := (seqFrom r.credit (done.length)).takeWhile fun i => done.contains i
  let credit := r.credit + grow.length
  let s := s.modAnn fun a => { a with rings := a.rings.put c { r with done := done.filter fun i => credit ≤ i, credit := credit } }
  if grow = [] then s else s.toAccel c s.ann.creditOff (natLe credit 8) true

/-- Nothing in the exchange space is uncorrectable. -/
def State.exchangeOk (s : State) : Bool :=
  ((s.fab.panes.getD 0 []).filter fun p => decide (exchBase / paneBytes ≤ p.1 ∧ p.1 < parisonBase / paneBytes)).all fun p =>
    !s.fab.badIn (p.2.phys * paneBytes) paneBytes

/-- A complete bucket is summed locally and its partials are sent; its slots are released (R194, R195). -/
def State.sumBucket (s : State) (b : Bucket) : State :=
  match s.contributions b b.arrived with
  | .error _ => s.holdStep 0x30
  | .ok cs =>
    let w := s.partWidth b
    let bs := s.partialBytes b cs
    let cutOf := fun r => b.slice s.ann.p s.jobN r
    let piece := fun r => slice bs ((cutOf r).1 * w) (((cutOf r).2 - (cutOf r).1) * w)
    let s := s.others.foldl (fun s r => (messages w (piece r)).foldl (fun s m => s.toRank r b.id (s.partKind b) m.1 m.2) s) s
    let mine := piece s.jobRank
    let me := s.jobRank
    let step := s.ann.step
    let s := s.modBucket b.id fun b => { b with summed := true, parts := if mine = [] then b.parts else addPart b.parts ⟨step, me, 0, mine⟩ }
    b.arrived.foldl (fun s a => s.releaseSlot a.1 a.2) s

/-- Every rank's partials of the owned slice have arrived. -/
def State.sliceReady (s : State) (b : Bucket) : Bool :=
  let c := b.slice s.ann.p s.jobN s.jobRank
  (seqFrom 0 s.jobN).all fun r => decide ((c.2 - c.1) * s.partWidth b ≤ partsLen b.parts s.ann.step r)

/-- The combined value of element i of the owned slice (R140 to R143, R195). -/
def State.combineElem (s : State) (b : Bucket) (i : Nat) : Val :=
  let n := s.jobN
  let w := s.partWidth b
  let raw := fun r => partElem b.parts s.ann.step r w i
  if s.invariantMode then
    ((seqFrom 0 n).foldl (fun p r => p.merge (if b.projected then Inv.of (ofF32 (leNat (raw r))) else Inv.read (raw r))) Inv.empty).val
  else orderedSum (fun r => ofF32 (leNat (raw r))) n 0 n

/-- The combined result of the owned parameters of a bucket, FP32 words; a projected bucket's are projected up again (R197). -/
def State.combined (s : State) (b : Bucket) : Bytes :=
  let own := cut b.range s.myRange
  if b.projected then
    let lo := (b.slice s.ann.p s.jobN s.jobRank).1
    (seqFrom (own.1 - b.first) (own.2 - own.1)).flatMap fun i =>
      let row := i / b.cols
      let y := (seqFrom 0 b.rank).map fun j => toBf16 (s.combineElem b (row * b.rank + j - lo))
      natLe (toF32 (exactDot none (List.zip y ((seqFrom 0 b.rank).map fun j => b.qVal (i % b.cols) j))).val) 4
  else (seqFrom 0 (own.2 - own.1)).flatMap fun i => natLe (toF32 (s.combineElem b i)) 4

/-- The owned slice is combined into the gradient area (R195). -/
def State.combineBucket (s : State) (b : Bucket) : State :=
  if ¬ s.exchangeOk then s.holdStep 0x30
  else
    let own := cut b.range s.myRange
    let s := s.writeJob (gradBase + 4 * (own.1 - s.myRange.1)) (s.combined b)
    let step := s.ann.step
    s.modBucket b.id fun b => { b with combined := true, parts := b.parts.filter fun p => step < p.step }

/-! ## Constants in force (R186, R187) -/

/-- The constants with every replacement due at a step. -/
def constsAt (step : Nat) (sc : List (Nat × Nat × Nat)) (consts : List Nat) : List Nat :=
  sc.foldl (fun c x => if x.2.2 ≤ step then setNth c x.1 x.2.1 else c) consts

/-- The rule in force for the step's update: before the update begins, a loaded rule that waits; with the constants due (R181, R187). -/
def Anneal.ruleNow (a : Anneal) : Rule :=
  let r := if a.phase = .update ∨ a.phase = .writeback then a.rule else a.nextRule.getD a.rule
  { r with consts := constsAt a.step a.setConst r.consts }

/-- Constant i as a value. -/
def Rule.const (r : Rule) (i : Nat) : Val := ofF32 (r.consts.getD i 0)

/-- The constant block's bytes. -/
def Rule.block (r : Rule) : Bytes := r.consts.flatMap fun c => natLe c 4
/-- The program's bytes. -/
def Rule.programBytes (r : Rule) : Bytes := r.program.flatMap fun w => natLe w 4
/-- The factor table's bytes. -/
def Rule.factorBytes (r : Rule) : Bytes := r.factors.flatMap fun f => natLe f.1 8 ++ natLe f.2.1 4 ++ natLe f.2.2 4

/-! ## Scalars (R198, R199) -/

/-- c6 of the step's gradients: the one in force when they were formed at the end of INTAKE. -/
def Anneal.gradScale (a : Anneal) : Val := if a.phase = .intake then a.ruleNow.const 6 else ofF32 a.c6

/-- The reduced gradient of this shard's parameters. -/
def State.gradients (s : State) : Except Nat (List Val) :=
  let r := s.myRange
  let c6 := s.ann.gradScale
  match s.readJob gradBase (4 * (r.2 - r.1)) with
  | .error e => .error e
  | .ok bs => .ok ((seqFrom 0 (r.2 - r.1)).map fun i => mulF32 (ofF32 (fieldAt bs (4 * i) 4)) c6)

/-- |g| is 2^120 or more. -/
def bigGrad : Val → Bool
  | .fin _ m e => decide (m ≠ 0 ∧ 120 ≤ Val.log2 (m, e))
  | .inf _ => true
  | .nan => false

/-- Adds the exact square of a gradient, truncated toward zero to a multiple of 2^-272; one below 2^-272 adds nothing and is counted. -/
def LongAcc.square (a : LongAcc) (g : Val) : LongAcc :=
  match g.mul g with
  | .fin _ m e => if m ≠ 0 ∧ Val.log2 (m, e) < -272 then { a with small := a.small + 1 } else { a with sum := wrap576 (a.sum + roundMag m e (-272) .rtz 0) }
  | _ => a

/-- The 96 bytes of a scalar message. -/
def Scalars.bytes (x : Scalars) (step : Nat) : Bytes :=
  natLe x.a 72 ++ natLe (b2n x.nonfinite + 2 * b2n x.ovf) 1 ++ zeros 3 ++ natLe x.crc 4 ++ natLe step 6 ++ zeros 10

/-- Reads a scalar message. -/
def Scalars.read (b : Bytes) : Scalars :=
  { a := fieldAt b 0 72, nonfinite := decide (fieldAt b 72 1 % 2 = 1), ovf := decide (fieldAt b 72 1 / 2 % 2 = 1), crc := fieldAt b 76 4 }

/-- Two members' scalars together: A modulo 2^576, flags ORed; the first CRC stands. -/
def Scalars.add (x y : Scalars) : Scalars :=
  { a := (x.a + y.a) % 2 ^ 576, nonfinite := x.nonfinite || y.nonfinite, ovf := x.ovf || y.ovf, crc := x.crc }

/-- The ranks whose shards hold part of a factored tensor (R202). -/
def State.factorHolders (s : State) (f : Nat × Nat × Nat) : List Nat :=
  (seqFrom 0 s.jobN).filter fun r => let c := cut (f.1, f.1 + f.2.1 * f.2.2) (shardRange s.ann.p s.jobN r); decide (c.1 < c.2)

/-- Exact sum of g·g + c3 over parameters, rounded once to FP32. -/
def sumSquares (c3 : Val) (gs : List Val) : Val := r32 (gs.foldl (fun a g => a.add ((g.mul g).add c3)) Val.zero)

/-- This device's row sums, then column sums, of a factored tensor. -/
def State.factorSums (s : State) (gs : List Val) (c3 : Val) (f : Nat × Nat × Nat) : Bytes :=
  let c := cut (f.1, f.1 + f.2.1 * f.2.2) s.myRange
  let lo := s.myRange.1
  let elems := (seqFrom c.1 (c.2 - c.1)).map fun i => (i - f.1, gs.getD (i - lo) Val.zero)
  ((seqFrom 0 f.2.1).flatMap fun i => natLe (toF32 (sumSquares c3 ((elems.filter fun e => e.1 / f.2.2 = i).map (·.2)))) 4) ++
    (seqFrom 0 f.2.2).flatMap fun j => natLe (toF32 (sumSquares c3 ((elems.filter fun e => e.1 % f.2.2 = j).map (·.2)))) 4

/-- Adafactor sums of a factor and a step that have arrived. -/
def Anneal.sumParts (a : Anneal) (i : Nat) : List Part := (a.sums.filter fun x => x.1 = i).map (·.2)

/-- Forms and sends this device's Adafactor sums once (R202). -/
def State.sendSums (s : State) : State :=
  let r := s.ann.ruleNow
  match s.gradients with
  | .error _ => s.holdStep 0x30
  | .ok gs =>
    r.factors.zipIdx.foldl (fun s x =>
      if ¬ s.holdsFactor x.1 ∨ 0 < partsLen (s.ann.sumParts x.2) s.ann.step s.jobRank then s
      else
        let b := s.factorSums gs (r.const 3) x.1
        let s := ((s.factorHolders x.1).filter fun k => s.others.contains k).foldl (fun s k =>
          (messages 4 b).foldl (fun s m => s.toRank k x.2 0x11 m.1 m.2) s) s
        let p : Part := ⟨s.ann.step, s.jobRank, 0, b⟩
        s.modAnn fun a => { a with sums := a.sums ++ [(x.2, p)] }) s

/-- Every holder's Adafactor sums have arrived for the tensors this shard holds part of. -/
def State.sumsReady (s : State) : Bool :=
  s.ann.ruleNow.factors.zipIdx.all fun x =>
    !s.holdsFactor x.1 || (s.factorHolders x.1).all fun k => decide (4 * (x.1.2.1 + x.1.2.2) ≤ partsLen (s.ann.sumParts x.2) s.ann.step k)

/-- A combined Adafactor sum, among the holders in rank order. -/
def State.sumOf (s : State) (fi : Nat) (f : Nat × Nat × Nat) (i : Nat) : Val :=
  let hs := s.factorHolders f
  let v := fun k => ofF32 (leNat (partElem (s.ann.sumParts fi) s.ann.step (hs.getD k 0) 4 i))
  if s.invariantMode then ((seqFrom 0 hs.length).foldl (fun p k => p.merge (Inv.of (v k))) Inv.empty).val
  else orderedSum v hs.length 0 hs.length

/-- This device's scalars of the step, and the squares dropped (R198). -/
def State.formScalars (s : State) (gs : List Val) : Scalars × Nat :=
  let r := s.ann.ruleNow
  let acc := (gs.filter Val.finite).foldl LongAcc.square {}
  ({ a := (acc.sum % 2 ^ 576).toNat, nonfinite := gs.any fun g => !g.finite, ovf := gs.any bigGrad
     crc := (crc32c (r.block ++ natLe r.code 1 ++ r.programBytes)).toNat }, acc.small)

/-- norm² of the global A. -/
def normSquared (a : Nat) : Val := r32 (({ sum := wrap576 a } : LongAcc).val)

/-- The clip factor (R199). -/
def clipFactor (c5 n2 : Val) : Val :=
  let norm := sqrtF32 n2
  if Val.zero.lt c5 ∧ c5.lt norm then divF32 c5 norm else oneF32

/-! ## Write-back (R206, R207) -/

namespace Group

def code (g : Group) : Nat := fmtCode g.fmt
/-- Its parameters. -/
def range (g : Group) : Nat × Nat := (g.first, g.first + g.count)
def mx (g : Group) : Bool := decide (4 ≤ g.code ∧ g.code ≤ 8)
/-- Elements of each 32 with their scale byte, in bytes. -/
def blockBytes (g : Group) : Nat := 4 * codeBits g.code + b2n g.mx
/-- Bytes that stand for `n` of its elements in gather messages: whole blocks under MX. -/
def gatherBytes (g : Group) (n : Nat) : Nat := if g.mx then (n + 31) / 32 * g.blockBytes else n * codeBits g.code / 8

/-- Elements and scales of values from element `at_` of the group (R206); a short block is filled with zeros (R128). -/
def convert (g : Group) (seed : Bytes) (stream at_ : Nat) (vs : List Val) : Bytes × Bytes :=
  let vs := if g.mx then vs ++ List.replicate ((32 - vs.length % 32) % 32) Val.zero else vs
  let (es, sc) := putVals g.fmt g.mx ((rndOf (g.flags % 4)).getD .rne) (fun i => srValue seed 2 stream g.id (at_ + i)) vs
  (packBits (codeBits g.code) es, sc)

end Group

/-- The masters of this shard's parameters in a range; a failure names the state group whose read failed. -/
def State.masters (s : State) (lo hi : Nat) : Except Nat (List Val) :=
  let all : Except Nat (List Val) := (seqFrom (lo / 32) ((hi + 31) / 32 - lo / 32)).foldl (fun (acc : Except Nat (List Val)) g =>
    match acc with
    | .error e => .error e
    | .ok l =>
      match s.readJob (s.groupOff g) (groupBytes s.compact) with
      | .error _ => .error g
      | .ok b => .ok (l ++ (readGroup s.compact b).1)) (.ok [])
  match all with
  | .error e => .error e
  | .ok l => .ok (l.take (hi - lo))

/-- Scope pane indexes that hold a state group. -/
def State.panesOfGroup (s : State) (g : Nat) : List Nat :=
  let o := s.groupOff g - scopeBase
  let a := o / paneBytes
  let b := (o + groupBytes s.compact - 1) / paneBytes
  if a = b then [a] else [a, b]

/-- Asks Lehr to repair scope panes, once each (R209). -/
def State.askRepair (s : State) (l : List Nat) : State :=
  s.modAnn fun a => { a with repair := a.repair ++ (l.filter fun i => !(a.repair.contains i)).eraseDups }

/-- Cuts a converted part into gather messages: element offset, and elements followed by scale bytes. -/
def Group.gathers (g : Group) (n : Nat) (es sc : Bytes) : List (Nat × Bytes) :=
  let m := if g.mx then 32 * ((2 ^ 20 - 16) / g.blockBytes) else 32 * ((2 ^ 20 - 16) / (4 * codeBits g.code))
  (chunks m 0 n).map fun c =>
    let eb := if g.mx then (c.2 + 31) / 32 * 4 * codeBits g.code else c.2 * codeBits g.code / 8
    (c.1, slice es (c.1 * codeBits g.code / 8) eb ++ (if g.mx then slice sc (c.1 / 32) ((c.2 + 31) / 32) else []))

/-- Every rank's part of a group is held. -/
def State.groupWhole (s : State) (g : Group) : Bool :=
  g.sent && (seqFrom 0 s.jobN).all fun r =>
    let c := cut g.range (shardRange s.ann.p s.jobN r)
    decide (g.gatherBytes (c.2 - c.1) ≤ partsLen g.parts s.ann.stream r)

/-- Elements and scales of the whole group from its parts. -/
def State.groupImage (s : State) (g : Group) : Bytes × Bytes :=
  let full := if g.mx then (g.count + 31) / 32 * 32 else g.count
  let w := codeBits g.code
  (g.parts.filter fun p => p.step = s.ann.stream).foldl (fun acc p =>
    let c := cut g.range (shardRange s.ann.p s.jobN p.src)
    let at_ := c.1 - g.first + p.off
    let nb := if g.mx then p.bytes.length / g.blockBytes * 4 * w else p.bytes.length
    (acc.1.take (at_ * w / 8) ++ p.bytes.take nb ++ acc.1.drop (at_ * w / 8 + nb),
      acc.2.take (at_ / 32) ++ p.bytes.drop nb ++ acc.2.drop (at_ / 32 + (p.bytes.length - nb))))
    (zeros (full * w / 8), if g.mx then zeros (full / 32) else [])

/-- Once a device holds a whole group, it is written to each accelerator (R185, R207). -/
def State.deliverGroup (s : State) (id : Nat) : State :=
  match s.ann.groups.find? id with
  | none => s
  | some g =>
    if g.written ∨ s.ann.hold.isSome ∨ ¬ s.groupWhole g then s
    else
      let im := s.groupImage g
      let so := g.acc + (im.1.length + 63) / 64 * 64
      let s := (contributors g.mask).foldl (fun s c =>
        let s := s.toAccel c g.acc im.1
        if im.2 = [] then s else s.toAccel c so im.2) s
      s.modGroup id fun g => { g with written := true }

/-- A rank converts its part of a group and sends it to every member (R207). -/
def State.sendGroup (s : State) (id : Nat) (ws : List Val) : State :=
  match s.ann.groups.find? id with
  | none => s
  | some g =>
    let c := cut g.range s.myRange
    let st := s.ann.stream
    let me := s.jobRank
    let (es, sc) := g.convert (s.srSeed 0) st (c.1 - g.first) ws
    let ms := g.gathers (c.2 - c.1) es sc
    let s := s.others.foldl (fun s r => ms.foldl (fun s m =>
      s.sendPeer r (immWord id st 0x20) (msgHead st me m.1 ++ m.2)) s) s
    (s.modGroup id fun g => { g with sent := true, parts := ms.foldl (fun l m => addPart l ⟨st, me, m.1, m.2⟩) g.parts }).deliverGroup id

/-- Groups of a write-back that converts unchanged weights go out in ascending order, up to one whose state cannot be read (R207, R209). -/
def flushGroups : List Nat → State → State
  | [], s => s
  | id :: r, s =>
    match s.ann.groups.find? id with
    | none => flushGroups r s
    | some g =>
      if g.sent then flushGroups r s
      else
        let c := cut g.range s.myRange
        match s.masters c.1 c.2 with
        | .error p => s.askRepair (s.panesOfGroup p)
        | .ok ws => flushGroups r (s.sendGroup id ws)

/-- The unchanged weights of every group. -/
def State.flushAll (s : State) : State := flushGroups (s.ann.groups.map (·.1)) s

/-! ## The counter (R208) -/

/-- Intake of a step begins with what came early; of the first step also with what came in the initial write-back. -/
def Anneal.nextStep (a : Anneal) (step : Nat) : Anneal :=
  { a with
    step := step, phase := .intake, wrote := false, skip := false, restDone := false
    timer := a.buckets.any fun b => !b.early.isEmpty || (a.initial && !b.arrived.isEmpty)
    buckets := a.buckets.map fun b =>
      { b with arrived := (if a.initial then b.arrived else []) ++ b.early, early := [], timedOut := false, summed := false, combined := false, parts := b.parts.filter fun p => step ≤ p.step }
    groups := a.groups.mapVal fun _ g =>
      { g with sent := false, written := false, ready := false, parts := g.parts.filter fun p => decide (p.step = step) }
    nextGroups := a.nextGroups.mapVal fun _ g => { g with sent := false, written := false, ready := false, parts := [] }
    scalarsIn := (if a.initial then a.scalarsIn else a.scalarsNext), scalarsNext := [], own := none, scalarsUp := false, global := none
    sums := a.sums.filter fun x => step ≤ x.2.step }

/-- Buckets in exchange (R195). -/
def Anneal.inExchange (a : Anneal) : Nat := (a.buckets.filter fun b => b.summed && !b.combined).length

/-- Scalars go up the tree, and at rank 0 out again (R198): what the members' messages give. -/
def State.spreadGlobal (s : State) (x : Scalars) : State :=
  let s := s.modAnn fun a => { a with global := some x }
  (treeKids 16 s.jobN s.jobRank).foldl (fun s c => s.toRank c 0 0x10 0 (x.bytes s.ann.step)) s

/-- Panes of the job's state that a loaded rule brought are added to the scope, not armed (R91, R215). -/
def State.growScope (s : State) : State :=
  let f := ((seqFrom 0 s.scopePanes).filterMap s.scopePhys).foldl (fun f p => if f.scope.contains p then f else f.addScope p) s.fab
  { s with fab := f }

/-- The update of the step begins, or the step is skipped (R181, R198, R199). -/
def State.beginUpdate (s : State) : State :=
  match s.ann.global with
  | none => s
  | some x =>
    if s.ann.hold.isSome ∨ s.ann.phase ≠ .scalars then s
    else
      let rule := s.ann.ruleNow
      let skip := x.nonfinite || x.ovf
      let s := if ¬ skip ∧ rule.code = 4 then s.sendSums else s
      if s.ann.hold.isSome ∨ (¬ skip ∧ rule.code = 4 ∧ ¬ s.sumsReady) then s
      else
        let s := s.modAnn fun a =>
          { a with
            rule := rule, nextRule := none, setConst := a.setConst.filter fun c => a.step < c.2.2
            groups := if a.nextGroups = [] then a.groups else a.nextGroups, nextGroups := [] }
        let s := s.growScope
        if skip then
          ((s.modAnn fun a => { a with skip := true, skips := satInc a.skips, phase := .update }).annEvent 1).ddtUpdate
        else
          let n2 := normSquared x.a
          (s.modAnn fun a => { a with phase := .update, normSq := toF32 n2, clip := toF32 (clipFactor (rule.const 5) n2) }).ddtUpdate

/-- This member's subtree is complete: its message goes to the parent, or at rank 0 the global scalars go out (R198, R217). -/
def State.scalarsStep (s : State) : State :=
  match s.ann.own with
  | none => s
  | some own =>
    let kids := treeKids 16 s.jobN s.jobRank
    if s.ann.hold.isSome ∨ s.ann.scalarsUp ∨ ¬ s.scalarGate ∨ ¬ kids.all fun c => (s.ann.scalarsIn.find? c).isSome then s
    else
      let ms := kids.filterMap fun c => s.ann.scalarsIn.find? c
      if ms.any fun m => m.crc ≠ own.crc then s.holdStep 0x96
      else
        let s := s.deferEpoch
        let x := ms.foldl Scalars.add own
        let s := s.modAnn fun a => { a with scalarsUp := true }
        if s.jobRank = 0 then (s.spreadGlobal x).beginUpdate
        else s.toRank (treeParent 16 s.jobRank) 0 0x10 0 (x.bytes s.ann.step)

/-- Intake done: every bucket summed and every owned slice combined (R179); the scalars are formed (R198). -/
def State.intakeDone (s : State) : State :=
  if s.ann.phase ≠ .intake ∨ s.ann.hold.isSome ∨ ¬ s.ann.buckets.all fun b => b.summed && b.combined then s
  else
    match s.gradients with
    | .error _ => s.holdStep 0x30
    | .ok gs =>
      let (x, dropped) := s.formScalars gs
      let s := s.modAnn fun a => { a with phase := .scalars, c6 := a.ruleNow.consts.getD 6 0, own := some x, normDrops := satAdd a.normDrops dropped }
      let s := s.ddtUpdate
      let s := if s.ann.ruleNow.code = 4 then s.sendSums else s
      s.scalarsStep

/-- One thing the engines can do now: combine an owned slice, or sum a complete bucket while fewer than four are in exchange; buckets in id order. -/
def State.pumpOne (s : State) : State :=
  match s.ann.buckets.find? fun b => b.summed && !b.combined && s.sliceReady b with
  | some b => s.combineBucket b
  | none =>
    match s.ann.buckets.find? fun b => !b.summed && b.complete && !b.timedOut with
    | some b => if s.ann.inExchange < 4 then s.sumBucket b else s
    | none => s

/-- Runs what can be done, as long as the step runs. -/
def pumpN : Nat → State → State
  | 0, s => s
  | n + 1, s =>
    if s.ann.state = .running ∧ s.ann.phase = .intake ∧ ¬ s.ann.hold.isSome then pumpN n s.pumpOne else s

/-- The engines work through what has arrived (R194, R195, R198). -/
def State.pump (s : State) : State :=
  let s := pumpN (2 * s.ann.buckets.length) s
  if s.ann.state = .running then s.intakeDone else s

/-- Every weights-ready flag of the write-back is visible. -/
def Anneal.flagsDone (a : Anneal) : Bool := a.restDone && a.groups.all fun g => g.2.ready

/-- STEP_ADVANCE (R208), or the end of START (R188): the counter advances, an epoch due at it flips, and a STOP takes effect. -/
def State.advance (s : State) : State :=
  if ¬ s.ann.live ∨ s.ann.hold.isSome ∨ ¬ s.ann.flagsDone then s
  else
    let s :=
      if s.ann.initial then
        let r := s.ann.start
        let res := s.ann.startResult
        let s := (s.modAnn fun a => { (a.nextStep a.step) with initial := false, state := .running, start := none, startResult := (0, 0) }).ddtUpdate
        match r with | some r => s.finish r 0 res.1 res.2 | none => s
      else
        let s := (s.modAnn fun a => a.nextStep ((a.step + 1) % 2 ^ 48)).ddtUpdate.putControl
        match s.leh.cur with
        | some e => if e.step = s.ann.step ∧ e.state = 1 then s.flipEpoch else s
        | none => s
    let s := if s.ann.stopping.isSome then s.stopJob else s
    match s.ann.abortNext with
    | some x => if x.1 = s.ann.step then (s.modAnn fun a => { a with abortNext := none }).holdStep x.2 else s.maybeAnnounce.pump
    | none => s.maybeAnnounce.pump

/-! ## The update (R200 to R205, R209) -/

/-- Layer groups and the state groups of this shard that lie in none. -/
def State.restGroups (s : State) : List Nat :=
  let g := s.myGroups
  (seqFrom g.1 (g.2 - g.1)).filter fun i => !(s.ann.groups.any fun x => decide (x.2.first ≤ 32 * i ∧ 32 * i < x.2.first + x.2.count))

/-- State groups of this shard in a layer group. -/
def State.unitGroups (s : State) (g : Group) : List Nat :=
  let c := cut g.range s.myRange
  seqFrom (c.1 / 32) ((c.2 + 31) / 32 - c.1 / 32)

/-- Where the side state of held factor `fi` lies. -/
def State.sideAt (s : State) (fi : Nat) : Nat :=
  s.sideBase + (((s.ann.rule.factors.take fi).filter s.holdsFactor).map fun f => 4 * (f.2.1 + f.2.2)).sum

/-- New statistics of a factored tensor: rows then columns (R202). -/
def State.newStats (s : State) (fi : Nat) (f : Nat × Nat × Nat) (old : Bytes) : Bytes :=
  let c2 := s.ann.rule.const 2
  (seqFrom 0 (f.2.1 + f.2.2)).flatMap fun i =>
    let len := Val.ofInt (if i < f.2.1 then f.2.2 else f.2.1)
    let v := addF32 (mulF32 c2 (ofF32 (fieldAt old (4 * i) 4)))
      (mulF32 (subF32 oneF32 c2) (divF32 (s.sumOf fi f i) (r32 len)))
    natLe (toF32 v) 4

/-- Commits the statistics of every held factor; the failure names the scope panes of the side state. -/
def State.commitStats (s : State) : List ((Nat × Nat × Nat) × Nat) → Except (List Nat) State
  | [] => .ok s
  | (f, fi) :: r =>
    if ¬ s.holdsFactor f then State.commitStats s r
    else
      let n := 4 * (f.2.1 + f.2.2)
      match s.readJob (s.sideAt fi) n with
      | .error _ => .error ((chunks paneBytes (s.sideAt fi - scopeBase) n).map fun c => c.1 / paneBytes)
      | .ok old => State.commitStats (s.writeJob (s.sideAt fi) (s.newStats fi f old)) r

/-- R_i, C_j and T of a factored parameter. -/
def State.factorOf (s : State) (idx : Nat) : Option (Val × Val × Val) :=
  match s.ann.rule.factors.zipIdx.find? fun x => decide (x.1.1 ≤ idx ∧ idx < x.1.1 + x.1.2.1 * x.1.2.2) with
  | none => none
  | some (f, fi) =>
    match s.readJob (s.sideAt fi) (4 * (f.2.1 + f.2.2)) with
    | .error _ => none
    | .ok b =>
      let at_ := fun i => ofF32 (fieldAt b (4 * i) 4)
      let t := r32 (((seqFrom 0 f.2.1).map at_).foldl Val.add Val.zero)
      some (at_ ((idx - f.1) / f.2.2), at_ (f.2.1 + (idx - f.1) % f.2.2), t)

/-- What the rule sees (R200). -/
def State.ruleEnv (s : State) : RuleEnv :=
  let a := s.ann
  { code := a.rule.code, c := a.rule.consts.map ofF32, bc1 := subF32 oneF32 (ofF32 a.b1p), bc2 := subF32 oneF32 (ofF32 a.b2p)
    program := a.rule.program, seed := s.srSeed 0, step := a.step }

/-- The new bytes of a state group and its masters, and whether R205 kept the old ones; the parameters that pad the last group are +0 (R144). -/
def State.ruledGroup (s : State) (g : Nat) (old : Bytes) (gs : List Val) : Bytes × List Val × Bool :=
  let (w, m, v) := readGroup s.compact old
  let cf := ofF32 s.ann.clip
  let e := s.ruleEnv
  let res := (seqFrom 0 32).map fun i =>
    let idx := 32 * g + i
    let wi := w.getD i Val.zero; let mi := m.getD i Val.zero; let vi := v.getD i Val.zero
    if s.ann.p ≤ idx then (Val.zero, Val.zero, Val.zero)
    else e.apply (if e.code = 4 then s.factorOf idx else none) idx (mulF32 (gs.getD (idx - s.myRange.1) Val.zero) cf) wi mi vi
  if res.all fun x => x.1.finite && x.2.1.finite && x.2.2.finite then
    (writeGroup s.compact (res.map (·.1)) (res.map (·.2.1)) (res.map (·.2.2)), res.map (·.1), false)
  else (old, w, true)

/-- Reads the state groups of a unit; the failure names every scope pane with an uncorrectable error. -/
def State.readUnit (s : State) (l : List Nat) : Except (List Nat) (List (Nat × Bytes)) :=
  let bs := l.map fun g => (g, s.readJob (s.groupOff g) (groupBytes s.compact))
  let bad := (bs.filter fun x => match x.2 with | .ok _ => false | .error _ => true).flatMap fun x => s.panesOfGroup x.1
  let bad := bad.filter fun i => match s.readJob (scopeBase + i * paneBytes) paneBytes with | .ok _ => false | .error _ => true
  if bad = [] then .ok (bs.filterMap fun x => match x.2 with | .ok b => some (x.1, b) | .error _ => none) else .error bad.eraseDups

/-- The first state write of a step commits k, the power products and the side state (R200, R202). -/
def State.commitUpdate (s : State) : Except (List Nat) State :=
  if s.ann.wrote then .ok s
  else
    match s.commitStats (if s.ann.rule.code = 4 then s.ann.rule.factors.zipIdx else []) with
    | .error l => .error l
    | .ok s =>
      .ok (s.modAnn fun a =>
        { a with
          wrote := true, k := a.k + 1
          b1p := toF32 (mulF32 (ofF32 a.b1p) (a.rule.const 1)), b2p := toF32 (mulF32 (ofF32 a.b2p) (a.rule.const 2)) })

/-- Scope panes of the side state whose reads fail. -/
def State.sideBad (s : State) : List Nat :=
  if s.ann.rule.code ≠ 4 then []
  else
    (seqFrom ((s.sideBase - scopeBase) / paneBytes) (panesOf s.sideBytes)).filter fun i =>
      match s.readJob (scopeBase + i * paneBytes) paneBytes with | .ok _ => false | .error _ => true

/-- The rule on one unit of state groups: written whole, or not at all where a read fails; the new masters in order. -/
def State.updateUnit (s : State) (l : List Nat) : Except (List Nat) (State × List Val) :=
  match (if s.sideBad = [] then s.readUnit l else .error s.sideBad), s.gradients with
  | .error bad, _ => .error bad
  | .ok _, .error _ => .error []
  | .ok bs, .ok gs =>
    match s.commitUpdate with
    | .error bad => .error bad
    | .ok s =>
      .ok (bs.foldl (fun acc x =>
        let (nb, ws, kept) := acc.1.ruledGroup x.1 x.2 gs
        let s := if kept then (acc.1.modAnn fun a => { a with ruleNonfinite := satInc a.ruleNonfinite }).annEvent 3
          else acc.1.writeJob (acc.1.groupOff x.1) nb
        (s, acc.2 ++ ws)) (s, []))

/-- A unit's update failed to read, which its controller counts (R88): the panes go to Lehr for repair, a failed gradient read holds the step (R180, R209). -/
def State.updateFailed (s : State) (bad : List Nat) : State :=
  if bad = [] then (s.memFault 0 gradBase (4 * (s.myRange.2 - s.myRange.1)) false).holdStep 0x30
  else (bad.foldl (fun s i => s.memFault 0 (scopeBase + i * paneBytes) paneBytes false) s).askRepair bad

/-- The next unit of the update: the first layer group not yet updated, then the parameters in no group (R179, R207). -/
def State.updateNext (s : State) : State :=
  if s.ann.phase ≠ .update ∨ s.ann.hold.isSome ∨ s.ann.repair ≠ [] then s
  else
    match List.find? (fun (x : Nat × Group) => !x.2.sent) s.ann.groups with
    | some (id, g) =>
      if s.ann.skip then flushGroups [id] s
      else match s.updateUnit (s.unitGroups g) with
      | .error bad => s.updateFailed bad
      | .ok (s, ws) => s.sendGroup id (ws.take ((cut g.range s.myRange).2 - (cut g.range s.myRange).1))
    | none =>
      if s.ann.skip then (s.modAnn fun a => { a with restDone := true, phase := .writeback }).ddtUpdate.advance
      else match s.updateUnit s.restGroups with
      | .error bad => s.updateFailed bad
      | .ok (s, _) => (s.modAnn fun a => { a with restDone := true, phase := .writeback }).ddtUpdate.advance

end Sys2Proof.Machine
end

