-- ==== Sys2Proof/Machine/Rme.lean ====
section
/-! DEFINITION. The commands of the remote memory engine and its registers (spec/15 R397 to R422). -/

namespace Sys2Proof.Machine

open Sys2Proof

/-! ## Control rings (R400) -/

/-- The control ring of a tenant: base, index address, size and sync counter. -/
def State.ctlRing (s : State) (tenant : Nat) : Option (Nat × Nat × Nat × Nat) :=
  (Profile.value? s.boot.profile 9 0 (0x140 + tenant)).map fun v => (fieldAt v 0 8, fieldAt v 8 8, 2 ^ fieldAt v 0x10 1, fieldAt v 0x12 2)

/-- Runs an operation on the next entry of a tenant's control ring where `op` is its operation: the answer is the state, the status and, of CREATE, the QP number. -/
def State.ctlEntry (s : State) (tenant op : Nat) (f : Bytes → State × Nat × Option Nat) : State :=
  match s.ctlRing tenant with
  | none => s
  | some (base, index, size, sync) =>
    let n := s.rme.consumed.getD tenant 0
    if countDiff (s.countOf tenant sync) n = 0 ∨ ¬ s.tenantOn tenant ∨ ¬ s.ioRuns ∨ s.handing 2 then s
    else
      let a := base + 64 * (n % size)
      match s.fab.readDev tenant a 64 with
      | .error _ => s.memFault tenant a 64 false
      | .ok e =>
        let o := fieldAt e 0 1
        if o ≠ op ∧ (op ≠ 1 ∨ (1 ≤ o ∧ o ≤ 3)) then s
        else
          let (s, st, qpn) := if o = op then f e else (s, 0x10, none)
          let n := (n + 1) % 2 ^ 31
          let s := match qpn with | some q => s.rmeWrite tenant (a + 4) (natLe q 4) | none => s
          let s := s.rmeWrite tenant (a + 1) (natLe st 1)
          ((s.flagWrite tenant index (natLe n 8) (s.unsettledIn tenant a 64)).getD s).modRme fun r => { r with consumed := r.consumed.put tenant n }

/-- Every pane of a range of a tenant's space is mapped. -/
def State.rangeMapped (s : State) (tenant a n : Nat) : Bool := (chunks paneBytes a n).all fun p => (s.fab.pane? tenant p.1).isSome

/-- QPs of a tenant. -/
def Rme.qpsOf (r : Rme) (tenant : Nat) : Nat := (r.qps.filter fun q => q.2.tenant = tenant).length

/-- qp_max of a tenant (R421). -/
def State.qpMax (s : State) (tenant : Nat) : Nat := s.rmeKey (0x100 + tenant) (if tenant = 0 then 65536 else 0)

/-- A CREATE entry breaks a range of R400. -/
def badCreate (s : State) (e : Bytes) : Bool :=
  let sq := fieldAt e 0x28 1; let rq := fieldAt e 0x29 1; let cq := fieldAt e 0x2A 1; let p := fieldAt e 0x2B 1
  decide (fieldAt e 8 8 % 4096 ≠ 0 ∨ sq < 4 ∨ 14 < sq ∨ (rq ≠ 0 ∧ (rq < 4 ∨ 14 < rq)) ∨ cq ≤ sq ∨ cq ≤ rq ∨ 16 < cq) ||
    decide (p = 0 ∨ s.rmeKey 5 8 < p ∨ fieldAt e 2 2 ≠ 0 ∨ fieldAt e 0x32 2 ≠ 0 ∨ fieldAt e 0x3A 6 ≠ 0) ||
    decide (4096 ≤ fieldAt e 0x2C 2 ∨ 4096 ≤ fieldAt e 0x2E 2 ∨ 4096 ≤ fieldAt e 0x30 2 ∨ 63 < fieldAt e 0x38 1 ∨ 7 < fieldAt e 0x39 1)

/-- A CREATE entry (R400): the status, and the QP in INIT. -/
def State.createQp (s : State) (tenant : Nat) (e : Bytes) : State × Nat × Option Nat :=
  let sq := fieldAt e 0x28 1; let rq := fieldAt e 0x29 1; let cq := fieldAt e 0x2A 1
  if badCreate s e then (s, 0x10, none)
  else if ¬ s.rangeMapped tenant (fieldAt e 8 8) (64 * 2 ^ sq) ∨ (rq ≠ 0 ∧ ¬ s.rangeMapped tenant (fieldAt e 0x10 8) (32 * 2 ^ rq)) ∨
      ¬ s.rangeMapped tenant (fieldAt e 0x18 8) (32 * 2 ^ cq) ∨ ¬ s.rangeMapped tenant (fieldAt e 0x20 8) 8 then (s, 0x11, none)
  else if s.leafTenant (fieldAt e 0x34 4) ≠ some tenant then (s, 0x12, none)
  else if s.qpMax tenant ≤ s.rme.qpsOf tenant then (s, 0x13, none)
  else
    match lowestFree (s.rme.qps.map (·.1)) 0x40000 262144 with
    | none => (s, 0x13, none)
    | some n =>
      let q : Qp :=
        { tenant := tenant, paths := fieldAt e 0x2B 1, leaf := fieldAt e 0x34 4, dscp := fieldAt e 0x38 1, pcp := fieldAt e 0x39 1
          sqBase := fieldAt e 8 8, rqBase := fieldAt e 0x10 8, cqBase := fieldAt e 0x18 8, sqIndexAddr := fieldAt e 0x20 8
          sqLog := sq, rqLog := rq, cqLog := cq, sqSync := fieldAt e 0x2C 2, rqSync := fieldAt e 0x2E 2, cqSync := fieldAt e 0x30 2 }
      (s.modRme fun r => { r with qps := r.qps.put n q }, 0, some n)

def createBody (tenant : Nat) (s : State) : State := s.ctlEntry tenant 1 fun e => s.createQp tenant e

/-- CREATE (R400). -/
def execCreate (tenant : Nat) (s : State) : Host.Outcome State Fault Refusal := .next (createBody tenant s)

/-- A CONNECT entry breaks a range of R400. -/
def badConnect (e : Bytes) (gids : Nat) : Bool :=
  let w := fieldAt e 0x18 8
  let mtu := w / 2 ^ 8 % 256; let t := w / 2 ^ 16 % 256; let reads := fieldAt e 0x2B 1
  decide (gids ≤ w % 256 ∨ mtu < 3 ∨ 5 < mtu ∨ t < 8 ∨ 20 < t ∨ 2 ^ 35 ≤ w ∨ reads = 0 ∨ 16 < reads) ||
    decide (fieldAt e 2 2 ≠ 0 ∨ fieldAt e 0x23 1 ≠ 0 ∨ fieldAt e 0x27 1 ≠ 0 ∨ fieldAt e 0x2C 8 ≠ 0 ∨ fieldAt e 0x34 8 ≠ 0 ∨ fieldAt e 0x3C 4 ≠ 0)

/-- A CONNECT entry (R400, R413): `reorders` is the peer's answer to the path check. -/
def State.connectQp (s : State) (tenant : Nat) (reorders : Bool) (e : Bytes) : State × Nat × Option Nat :=
  let n := fieldAt e 4 4
  match s.qp? n with
  | none => (s, 0x10, none)
  | some q =>
    let w := fieldAt e 0x18 8
    if q.tenant ≠ tenant ∨ q.job then (s, 0x12, none)
    else if q.state ≠ 1 ∨ badConnect e (s.gids tenant).length then (s, 0x10, none)
    else if 1 < q.paths ∧ ¬ reorders then (s, 0x13, none)
    else
      (s.modQp n fun q =>
        { q with
          state := 3, gid := (s.gids tenant).getD (w % 256) [], peer := slice e 8 16, peerQpn := fieldAt e 0x20 3
          mtu := 128 * 2 ^ (w / 2 ^ 8 % 256), timeout := w / 2 ^ 16 % 256, retryCnt := w / 2 ^ 24 % 8, rnrRetry := w / 2 ^ 27 % 8
          minRnr := w / 2 ^ 30 % 32, nextPsn := fieldAt e 0x24 3, e := fieldAt e 0x28 3, outReads := fieldAt e 0x2B 1 }, 0, none)

def connectBody (tenant : Nat) (reorders : Bool) (s : State) : State := s.ctlEntry tenant 2 fun e => s.connectQp tenant reorders e

/-- CONNECT (R400). -/
def execConnect (tenant : Nat) (reorders : Bool) (s : State) : Host.Outcome State Fault Refusal := .next (connectBody tenant reorders s)

/-- A DESTROY entry (R400): running work ends as ERROR ends it, and the context is free. -/
def State.destroyQp (s : State) (tenant : Nat) (e : Bytes) : State × Nat × Option Nat :=
  let n := fieldAt e 4 4
  match s.qp? n with
  | none => (s, 0x10, none)
  | some q =>
    if q.tenant ≠ tenant ∨ q.job then (s, 0x12, none)
    else (((s.flushRunning n 0x90).modRme fun r => { r with qps := r.qps.del n }).endRevokes, 0, none)

def destroyBody (tenant : Nat) (s : State) : State := s.ctlEntry tenant 3 fun e => s.destroyQp tenant e

/-- DESTROY (R400). -/
def execDestroy (tenant : Nat) (s : State) : Host.Outcome State Fault Refusal := .next (destroyBody tenant s)

/-! ## Work requests (R402) -/

def execRdmaWrite (qpn : Nat) (s : State) : Host.Outcome State Fault Refusal := .next (s.takeWr 0 qpn)
def execRdmaWriteWithImmediate (qpn : Nat) (s : State) : Host.Outcome State Fault Refusal := .next (s.takeWr 1 qpn)
def execRdmaSend (qpn : Nat) (s : State) : Host.Outcome State Fault Refusal := .next (s.takeWr 2 qpn)
def execRdmaSendWithImmediate (qpn : Nat) (s : State) : Host.Outcome State Fault Refusal := .next (s.takeWr 3 qpn)
def execRdmaRead (qpn : Nat) (s : State) : Host.Outcome State Fault Refusal := .next (s.takeWr 4 qpn)

/-! ## Packets from the pipeline (R397, R401, R414 to R417) -/

/-- What the oldest packet is: one of the answers, or anything else. -/
inductive PktKind where
  | ack
  | nak (code : Nat)
  | rnr (timer : Nat)
  | cnp
  | other
deriving DecidableEq, Repr

/-- The kind of a packet by its opcode and syndrome. -/
def Roce.kind (k : Roce) : PktKind :=
  if k.op = 0x81 then .cnp
  else if k.op = 0x11 then
    let y := fbe k.body 0 1
    if y / 32 % 4 = 0 then .ack else if y / 32 % 4 = 1 then .rnr (y % 32) else if y / 32 % 4 = 3 then .nak (y % 32) else .other
  else .other

/-- The oldest packet, with its QP where R401 accepts it. -/
def State.headRoce (s : State) : Option (Roce × Qp) :=
  match s.mrv.toRme with
  | [] => none
  | p :: _ =>
    match roceOf p.bytes with
    | none => none
    | some k => (s.accepts k).map fun q => (k, q)

/-- CE on an accepted packet is answered with a CNP, once per 50 µs per QP (R397): `due` says that 50 µs have passed since the last. -/
def State.ceAnswer (s : State) (ce due : Bool) (qpn : Nat) (q : Qp) : State :=
  if ce ∧ (due ∨ ¬ q.cnpSent) then
    (s.modQp qpn fun q => { q with cnpSent := true }).rmeSend qpn (bth 0x81 0 q.peerQpn 0 0 ++ zeros 16)
  else s

/-- The first packet of a WRITE or a READ names its window. -/
def Roce.hasReth (k : Roce) : Bool := decide (k.op = 0x06 ∨ k.op = 0x0A ∨ k.op = 0x0B ∨ k.op = 0x0C)

/-- A window whose context an uncorrectable SRAM error has hit admits nothing more (R93). The error state of a window is laid down nowhere: it is closed as by a revoke (DESIGN CHOICE, log 53). -/
def State.closeWindow (s : State) (w : Nat) : State :=
  s.modRme fun r => { r with windows := match r.windows.find? w with | some x => r.windows.put w { x with isOpen := false } | none => r.windows }

/-- INBOUND_PACKET (R401, R414): a request or a read response, or a packet that is dropped. -/
def inboundPacketBody (cnpDue : Bool) (sram : Nat) (s : State) : State :=
  match s.mrv.toRme with
  | [] => s
  | p :: _ =>
    match roceOf p.bytes with
    | none => s.takePkt
    | some k =>
      if k.qpn = 0x03FFFF then s.takePkt.modRme fun r => { r with setup := r.setup ++ [p.bytes] }
      else
        match s.accepts k with
        | none => s.takePkt.tenantDrop
        | some q =>
          if k.kind ≠ .other then s
          else if sram = 2 then (s.takePkt.qpError k.qpn).tenantDrop
          else
            let s := (s.sramRead 1 sram).takePkt.ceAnswer p.ce cnpDue k.qpn q
            let s := if 3 ≤ sram ∧ k.hasReth then s.closeWindow ((rethOf k.body).2.1 % 2 ^ 20) else s
            if k.op ≤ 0xC then s.request k.qpn q k
            else if k.op ≤ 0x10 then s.readResponse k.qpn q k
            else s

def execInboundPacket (cnpDue : Bool) (sram : Nat) (s : State) : Host.Outcome State Fault Refusal := .next (inboundPacketBody cnpDue sram s)

/-- A PSN the requester has sent and that is not acknowledged. -/
def Qp.awaits (q : Qp) (psn : Nat) : Bool := q.sent.any fun p => psnLe p.psn psn && psnLe psn (psnSub q.nextPsn 1)

/-- ACK_RECEIVE (R416). -/
def ackReceiveBody (s : State) : State :=
  match s.headRoce with
  | some (k, q) =>
    if k.kind ≠ .ack then s
    else if q.job then s.takePkt.modQp k.qpn fun q => { q with fails := 0 }
    else if q.awaits k.psn then s.takePkt.ackUpTo k.qpn k.psn
    else s.takePkt
  | none => s

def execAckReceive (s : State) : Host.Outcome State Fault Refusal := .next (ackReceiveBody s)

/-- A fatal NAK (R399, R405): the request it names gets its status and the QP enters ERROR; on a single-path QP it acknowledges what comes before. -/
def State.fatalNak (s : State) (qpn psn code : Nat) (q : Qp) : State :=
  let st := if code = 1 then 0x11 else if code = 2 then 0x12 else 0x92
  let s := if q.paths = 1 then s.ackUpTo qpn (psnSub psn 1) else s
  (s.endWr qpn psn st).qpError qpn

/-- NAK_RECEIVE (R416): a sequence NAK acknowledges all before e and calls for e, or for e and all after it on a single-path QP. -/
def nakReceiveBody (s : State) : State :=
  match s.headRoce with
  | some (k, q) =>
    match k.kind with
    | .nak code =>
      let s := s.takePkt
      if ¬ q.awaits k.psn then s
      else if code = 0 then
        let s := s.ackUpTo k.qpn (psnSub k.psn 1)
        match s.qp? k.qpn with
        | none => s
        | some q => s.resend k.qpn (if 1 < q.paths then q.sent.filter fun p => p.psn = k.psn else q.sentFrom k.psn)
      else if code ≤ 3 then s.fatalNak k.qpn k.psn code q
      else s
    | _ => s
  | none => s

def execNakReceive (s : State) : Host.Outcome State Fault Refusal := .next (nakReceiveBody s)

/-- RNR_NAK_RECEIVE (R417): the retry waits for the peer's delay, or the tries are used up. -/
def rnrNakReceiveBody (s : State) : State :=
  match s.headRoce with
  | some (k, _) =>
    match k.kind with
    | .rnr _ =>
      let tries := ((s.qp? k.qpn).getD { tenant := 0 }).rnrTries
      let s := s.takePkt
      match s.qp? k.qpn with
      | none => s
      | some q =>
        if ¬ q.awaits k.psn then s
        else
          let s := s.ackUpTo k.qpn (psnSub k.psn 1)
          if q.rnrRetry ≠ 7 ∧ q.rnrRetry ≤ tries then (s.endWr k.qpn k.psn 0x91).qpError k.qpn
          else s.modQp k.qpn fun q => { q with rnrTries := tries + 1, rnrWait := true }
    | _ => s
  | none => s

def execRnrNakReceive (s : State) : Host.Outcome State Fault Refusal := .next (rnrNakReceiveBody s)

/-- RNR_DELAY_EXPIRY (R417): the refused request goes out again. -/
def rnrDelayExpiryBody (qpn : Nat) (s : State) : State :=
  match s.qp? qpn with
  | none => s
  | some q => if q.rnrWait then (s.modQp qpn fun q => { q with rnrWait := false }).resend qpn q.sent else s

def execRnrDelayExpiry (qpn : Nat) (s : State) : Host.Outcome State Fault Refusal := .next (rnrDelayExpiryBody qpn s)

/-- HOLE_TIMEOUT (R415): e is missing and a later PSN is held. -/
def holeTimeoutBody (qpn : Nat) (s : State) : State :=
  match s.qp? qpn with
  | none => s
  | some q => if q.heldPkts ≠ [] ∧ (q.heldPkts.find? q.e).isNone then s.nakSeq qpn else s

def execHoleTimeout (qpn : Nat) (s : State) : Host.Outcome State Fault Refusal := .next (holeTimeoutBody qpn s)

/-- The local ACK timeout wins (R416, R417), and the peer of a job QP that reached its retry limit: counted; retry_cnt + 1 in a row for one PSN end the QP, else the oldest unacknowledged PSN onward goes out again. A job QP's messages are not packets of this model: its timeout stands for the message outstanding. -/
def State.ackTimeout (qpn : Nat) (s : State) : State × Option Bytes :=
  match s.qp? qpn with
  | none => (s, none)
  | some q =>
    if q.state ≠ 3 ∨ q.rnrWait ∨ (q.sent = [] ∧ ¬ q.job) then (s, none)
    else
      let p := (q.sent.head?.map (·.psn)).getD q.nextPsn
      let n := if q.failPsn = p then q.fails + 1 else 1
      let s := (s.modRme fun r => { r with timeouts := satInc r.timeouts }).modQp qpn fun q => { q with fails := n, failPsn := p }
      if q.retryCnt < n then
        (((s.endWr qpn p 0x20).rmeEvent 1).qpError qpn, if q.job then some q.peer else none)
      else (s.resend qpn q.sent, none)

/-- CNP_RECEIVE (R397): the QP's rate halves. -/
def cnpReceiveBody (s : State) : State :=
  match s.headRoce with
  | some (k, _) => if k.kind = .cnp then s.takePkt.modQp k.qpn fun q => { q with rate := q.rate / 2 } else s
  | none => s

def execCnpReceive (s : State) : Host.Outcome State Fault Refusal := .next (cnpReceiveBody s)

/-- RATE_RECOVERY (R397): a sixteenth of the setting comes back. -/
def execRateRecovery (qpn : Nat) (s : State) : Host.Outcome State Fault Refusal :=
  .next (s.modQp qpn fun q => { q with rate := min 65536 (q.rate + 4096) })

/-! ## Windows (R406 to R410) -/

/-- The tenant field of a SERVICE command: its value, or the status and offset that refuse it (R111). -/
def State.tenantArg (s : State) (fn off : Nat) (c : Cmd) : Except (Nat × Nat) Nat :=
  let t := c.fld off 1
  if 15 < t then .error (0x10, off)
  else if tenantOf fn ≠ 0 ∧ t ≠ tenantOf fn then .error (0x12, off)
  else if ¬ s.tenantOn t then .error (0x10, off)
  else .ok t

/-- Windows of a tenant that are open. -/
def Rme.windowsOf (r : Rme) (tenant : Nat) : Nat := (r.windows.filter fun w => w.2.isOpen ∧ w.2.tenant = tenant).length

/-- The lowest window index that is neither open nor draining. -/
def Rme.freeWindow (r : Rme) : Option Nat :=
  lowestFree ((r.windows.filter fun w => w.2.isOpen || w.2.revoke.isSome || r.inFlight w.1).map (·.1)) 0 (2 ^ 20)

/-- WINDOW_OPEN (R407). -/
def windowOpenBody (r : CmdRef) (s : State) : State :=
  s.runCmd r 5 0x20 [(0x10, 1), (0x11, 1), (0x14, 4), (0x18, 8), (0x20, 8)] fun c =>
    match s.tenantArg r.fn 0x10 c with
    | .error e => s.failAt r e.1 e.2
    | .ok t =>
      let qpn := c.fld 0x14 4
      let base := c.fld 0x18 8
      let len := c.fld 0x20 8
      let okQp := qpn = 0 ∨ ((s.qp? qpn).map (·.tenant)) = some t
      if c.fld 0x11 1 = 0 ∨ 3 < c.fld 0x11 1 then s.failAt r 0x10 0x11
      else if len = 0 ∨ 2 ^ 40 < len then s.failAt r 0x10 0x20
      else if 2 ^ 48 < base + len then s.failAt r 0x11 0x20
      else if ¬ s.rangeMapped t base len then s.failAt r 0x11 0x18
      else if ¬ okQp then s.failAt r 0x12 0x14
      else if s.rmeKey (0x120 + t) (if t = 0 then 4096 else 0) ≤ s.rme.windowsOf t then s.finish r 0x13 0 0
      else
        match s.rme.freeWindow with
        | none => s.finish r 0x13 0 0
        | some i =>
          let g := ((s.rme.windows.getD i {}).gen + 1) % 4096
          let w : RmeWindow := { gen := g, isOpen := true, tenant := t, rights := c.fld 0x11 1, qpn := qpn, base := base, len := len }
          (s.modRme fun m => { m with windows := m.windows.put i w }).finish r 0 (i + g * 2 ^ 20) 0

def execWindowOpen (r : CmdRef) (s : State) : Host.Outcome State Fault Refusal := .next (windowOpenBody r s)

/-- WINDOW_REVOKE (R409). -/
def windowRevokeBody (r : CmdRef) (s : State) : State :=
  s.runCmd r 5 0x21 [(0x10, 1), (0x14, 4)] fun c =>
    if c.accepted then s else
    match s.tenantArg r.fn 0x10 c with
    | .error e => s.failAt r e.1 e.2
    | .ok t =>
      let key := c.fld 0x14 4
      match s.rme.windows.find? (key % 2 ^ 20) with
      | none => s.failAt r 0x11 0x14
      | some w =>
        if ¬ w.isOpen ∨ w.gen ≠ key / 2 ^ 20 then s.failAt r 0x11 0x14
        else if w.tenant ≠ t then s.failAt r 0x12 0x14
        else
          ((s.modRme fun m => { m with windows := m.windows.put (key % 2 ^ 20) { w with isOpen := false, revoke := some r } }).accept r).endRevokes

def execWindowRevoke (r : CmdRef) (s : State) : Host.Outcome State Fault Refusal := .next (windowRevokeBody r s)

/-- DRAIN_LIMIT (R410): QPs whose admitted messages are still incomplete enter ERROR and the revoke completes. -/
def drainLimitBody (window : Nat) (s : State) : State :=
  if (s.rme.windows.getD window {}).isOpen ∨ ¬ s.rme.inFlight window then s
  else
    ((s.rme.qps.filter fun q => q.2.msgs.any fun m => m.window = window).foldl (fun s q => s.qpError q.1) (s.rmeEvent 3)).endRevokes

def execDrainLimit (window : Nat) (s : State) : Host.Outcome State Fault Refusal := .next (drainLimitBody window s)

/-! ## Remote targets (R418) -/

/-- The entry of a remote target. -/
def State.target (s : State) (i : Nat) : Option Bytes := if i < 256 then Profile.value? s.boot.profile 9 0 (0x1000 + i) else none

/-- TARGET_CONNECT (R418): the peer's serial number as it answered over the setup QP, none where it did not; a kind 1 target needs the peer's kind 3 entry. -/
def targetConnectBody (target : Nat) (serial : Option Bytes) (serves : Bool) (s : State) : State :=
  match s.target target with
  | none => s
  | some e =>
    let ok := decide (serial = some (slice e 0x18 16)) && (decide (fieldAt e 0 1 ≠ 1) || serves)
    if ¬ s.ioRuns then s
    else if ok then s.modRme fun r => { r with targets := r.targets.filter (· ≠ target) ++ [target] }
    else if s.rme.targets.contains target then (s.modRme fun r => { r with targets := r.targets.filter (· ≠ target) }).rmeEvent 5
    else s

def execTargetConnect (target : Nat) (serial : Option Bytes) (serves : Bool) (s : State) : Host.Outcome State Fault Refusal :=
  .next (targetConnectBody target serial serves s)

/-! ## Resets and the job's QPs (R253, R318, R420, R421) -/

/-- FLR of a tenant's function (R318): its QPs enter ERROR and its windows are revoked. -/
def State.rmeFlr (s : State) (tenant : Nat) : State :=
  let s := (s.rme.qps.filter fun q => q.2.tenant = tenant).foldl (fun s q => s.qpError q.1) s
  s.modRme fun r => { r with windows := r.windows.mapVal fun _ w => if w.tenant = tenant then { w with isOpen := false } else w }

/-- Opens a job QP in RTS to each peer address; none where they do not fit (R417, R421). -/
def State.openJobQps (s : State) (peers : List Bytes) : Option State :=
  if s.qpMax 0 < s.rme.qpsOf 0 + peers.length then none
  else
    some (peers.foldl (fun s a =>
      match lowestFree (s.rme.qps.map (·.1)) 0x40000 262144 with
      | none => s
      | some n =>
        let q : Qp := { tenant := 0, job := true, state := 3, gid := s.jobAddr.getD [], peer := a, timeout := 7, retryCnt := 7, leaf := 65280 }
        s.modRme fun r => { r with qps := r.qps.put n q }) s)

/-- The job's QPs close. -/
def State.closeJobQps (s : State) : State := s.modRme fun r => { r with qps := r.qps.filter fun q => ¬ q.2.job }

/-- Every QP to a lost peer enters ERROR, and every window open to it is revoked (R253, R405, R406). -/
def State.losePeer (s : State) (peer : Bytes) : State :=
  let l := s.rme.qps.filter fun q => q.2.peer = peer
  let open_ := fun (w : RmeWindow) => w.isOpen && l.any fun q => decide (w.qpn = q.1)
  l.foldl (fun s q => s.qpError q.1 0x40) (s.modRme fun r => { r with windows := r.windows.mapVal fun _ w => if open_ w then { w with isOpen := false } else w })

/-! ## Registers (R422) -/

/-- Reads a register of the RME_ block. -/
def State.rmeRead (s : State) (off : Nat) : Option Nat :=
  let r := s.rme
  let full := b2n (decide (s.rmeKey 1 16384 ≤ r.cells))
  let n := 0x40000 + field r.qpSel 0 18
  match off with
  | 0x00 => some (pack [(0, r.qps.length), (19, full)])
  | 0x04 => some r.events.toNat
  | 0x08 => some (r.windows.filter fun w => w.2.isOpen).length
  | 0x0C => some r.dups
  | 0x10 => some r.beyond
  | 0x14 => some r.nakTx
  | 0x18 => some r.retx
  | 0x1C => some r.timeouts
  | 0x20 => some r.qpErrors
  | 0x24 => some r.accessNaks
  | 0x28 => some r.tenantDrops
  | 0x2C => some r.cells
  | 0x30 => some r.qpSel.toNat
  | 0x34 =>
    some (match s.qp? n with
      | none => 0
      | some q =>
        let e := match s.fab.readDev q.tenant (q.sqBase + 64 * (q.sqTaken % 2 ^ q.sqLog)) 64 with | .ok b => b | .error _ => zeros 64
        let w := decide (q.state = 3 ∧ countDiff (s.countOf q.tenant q.sqSync) q.sqTaken ≠ 0 ∧ fieldAt e 1 1 / 4 % 2 = 1) &&
          !waitMet ((s.con.fn q.tenant).sync.getD (fieldAt e 0x28 2) 0) (fieldAt e 0x2C 4)
        pack [(0, q.state), (3, q.tenant), (7, b2n w), (8, q.heldPkts.length), (18, q.paths)])
  | 0x38 => some ((s.qp? n).map (·.e) |>.getD 0)
  | _ => none

/-- Writes a register of the RME_ block. -/
def State.rmeWriteReg (s : State) (off : Nat) (v : W32) : State :=
  match off with
  | 0x04 => s.modRme fun r => { r with events := w1c r.events v }
  | 0x30 => s.modRme fun r => { r with qpSel := v &&& 0x3FFFF#32 }
  | _ => s

end Sys2Proof.Machine
end

