-- ==== Sys2Proof/Machine/Anneal.lean ====
section
/-! DEFINITION. The ANNEAL commands, the events of a step, and the ANL_ registers (spec/07 R181 to R213). -/

namespace Sys2Proof.Machine

open Sys2Proof

/-- The first offset whose check fails. -/
def firstBad (l : List (Nat × Bool)) : Option Nat := (l.find? fun x => !x.2).map (·.1)

/-! ## Setting up a job -/

/-- The job a SHARD_DEFINE begins: counters, events and the engine selector stay. -/
def Anneal.define (a : Anneal) (body : Bytes) : Anneal :=
  { state := .configured, shard := body, restored := false
    events := a.events, skips := a.skips, helds := a.helds, lateTokens := a.lateTokens, dupTokens := a.dupTokens, badTokens := a.badTokens
    lateParts := a.lateParts, ruleNonfinite := a.ruleNonfinite, normDrops := a.normDrops, engSel := a.engSel
    normSq := a.normSq, clip := a.clip }

/-- The state once the old job is gone and the new one is named, before its panes are mapped (R181, R182). Its epochs end as a discard for 0x41 ends them, its fence and its certificates go (R250, R440; DESIGN CHOICE, log 48). -/
def State.defineJob (s : State) (body : Bytes) : State :=
  let s := ((s.cause 0x41).leaveEpochs 0x41).unfence
  let s := (s.closeJobQps.unmap 0 scopeBase ((parisonBase - scopeBase) / paneBytes)).ddtUpdate
  { s with
    ann := s.ann.define body
    mem := { s.mem with table := [], joined := false, lost := [], gone := [], suspects := [], probing := [], cleared := [], relays := [], confirmed := [], expired := [], unanswered := false, lapsed := [], fails := [], certs := [], restore := none } }

/-- Maps shard state and gradient area, and the intake rings where they fit (R178, R183). -/
def State.mapShard (s : State) : Option State :=
  let grad := panesOf (4 * (s.myRange.2 - s.myRange.1))
  if s.jobSpace < s.jobUsed + (s.scopePanes + grad) * paneBytes then none
  else
    match State.mapPanes 0 jobOwner true true scopeBase 0 s.scopePanes s with
    | none => none
    | some s =>
      match State.mapPanes 0 jobOwner true true gradBase 0 grad s with
      | none => none
      | some s =>
        let rings := panesOf s.ann.ringBytes
        if s.jobSpace < s.jobUsed + rings * paneBytes then some s
        else match State.mapPanes 0 jobOwner true true intakeBase 0 rings s with | none => some s | some t => some t

/-- Writes the masters and zero moments of the shard (R182). -/
def State.fillMasters (s : State) (data : Bytes) : State :=
  let g := s.myGroups
  let lo := s.myRange.1
  ((seqFrom g.1 (g.2 - g.1)).foldl (fun s i =>
    let w := (seqFrom 0 32).map fun j => ofF32 (fieldAt data (4 * (32 * i + j - lo)) 4)
    let z := List.replicate 32 Val.zero
    s.writeJob (s.groupOff i) (writeGroup s.compact w z z)) s).putControl

/-- The intake table (R189): every ring and token port lies in the region of this cohort member (R279). -/
def State.intakeTable (s : State) : Bytes :=
  let base := s.sup.straps.cohortId * 0x4000000000
  (contributors s.ann.mask).flatMap fun c =>
    natLe base 8 ++ natLe (base + 0x2000000000) 8 ++ natLe s.ann.slot 4 ++ natLe s.ann.depth 1 ++ natLe c 1 ++ zeros 10

/-- SHARD_DEFINE (R181 to R183). -/
def shardDefineBody (r : CmdRef) (s : State) : State :=
  s.runCmd r 2 0x01 [(0x10, 8), (0x18, 8), (0x20, 8), (0x28, 8), (0x30, 4), (0x34, 4), (0x38, 4), (0x3C, 1), (0x3D, 1)] fun c =>
    if s.ann.state ≠ .unconfigured ∧ s.ann.state ≠ .stopped then s.finish r 0x90 0 0
    else
      match firstBad
        [(0x10, decide (32 ≤ c.fld 0x10 8 ∧ c.fld 0x10 8 ≤ 2 ^ 44)), (0x28, decide (c.fld 0x28 8 % 8 = 0 ∧ c.fld 0x28 8 < 2 ^ 56)),
         (0x30, decide (c.fld 0x30 4 < c.fld 0x34 4)), (0x34, decide (1 ≤ c.fld 0x34 4 ∧ c.fld 0x34 4 ≤ 16384)),
         (0x3C, decide (2 ≤ c.byte 0x3C ∧ c.byte 0x3C ≤ 64)), (0x3D, decide (20 ≤ c.byte 0x3D ∧ c.byte 0x3D ≤ 31))] with
      | some o => s.failAt r 0x10 o
      | none =>
        let t := s.defineJob (slice c.bytes 0x10 48)
        let range := t.myRange
        let n := if c.fld 0x18 8 = 0 then 0 else 4 * (range.2 - range.1)
        s.withRead r 0x18 (c.fld 0x18 8 + 4 * range.1) n fun data =>
          match (s.defineJob (slice c.bytes 0x10 48)).mapShard with
          | none => s.finish r 0x13 0 0
          | some t =>
            let t := t.fillMasters data
            match t.writeC r.fn (c.fld 0x20 8) t.intakeTable with
            | .error e => s.failAt r e 0x20
            | .ok (t, h) => t.finishSeen r h 0 range.1 (range.2 - range.1)

def execShardDefine (r : CmdRef) (s : State) : Host.Outcome State Fault Refusal := .next (shardDefineBody r s)

/-- BUCKET_DEFINE (R184). DESIGN CHOICE (log 88): a projected bucket whose proj_cols is above 2^20, an exact projection of more terms than R137 admits, is accepted; the spec names no command that refuses it. -/
def bucketDefineBody (r : CmdRef) (s : State) : State :=
  s.runCmd r 2 0x02 [(0x10, 2), (0x12, 1), (0x13, 1), (0x14, 4), (0x18, 8), (0x20, 4), (0x24, 4), (0x28, 8), (0x30, 2)] fun c =>
    if s.ann.state ≠ .configured ∨ s.ann.start.isSome then s.finish r 0x90 0 0
    else
      let b : Bucket := { id := c.fld 0x10 2, body := slice c.bytes 0x10 48 }
      let proj := b.projected
      match firstBad
        [(0x12, fmtByteOk b.fmt && decide (b.code = 2 ∨ b.code = 3 ∨ b.mx)), (0x13, decide (c.byte 0x13 < 8 ∧ (b.round = 0 ∨ b.round = 2))),
         (0x14, decide (b.mask &&& s.ann.mask = b.mask)), (0x18, decide (b.first % 32 = 0 ∧ b.first < s.ann.p)),
         (0x20, decide (32 ≤ b.count ∧ b.count ≤ 2 ^ 28 ∧ b.first + b.count ≤ s.ann.p ∧ (b.count % 32 = 0 ∨ b.first + b.count = s.ann.p) ∧
            b.slotBytes ≤ s.ann.slot)),
         (0x24, !proj || decide (b.cols ≠ 0 ∧ b.count % b.cols = 0)), (0x30, !proj || decide (1 ≤ b.rank ∧ b.rank ≤ 1024))] with
      | some o => s.failAt r 0x10 o
      | none =>
        if (s.ann.bucket? b.id).isSome then s.finish r 0x91 b.id 0
        else if proj ∧ s.prof 0xA 0 2 64 = 0 then s.finish r 0x93 0 0
        else s.withRead r 0x28 (c.fld 0x28 8) (if proj then 2 * b.cols * b.rank else 0) fun q =>
          (s.modAnn fun a => { a with
            buckets := (a.buckets.filter fun x => x.id < b.id) ++ [{ b with q := q }] ++ a.buckets.filter fun x => b.id < x.id }).finish r 0 0 0

def execBucketDefine (r : CmdRef) (s : State) : Host.Outcome State Fault Refusal := .next (bucketDefineBody r s)

/-- The factor table's entries. -/
def factorsOf (n : Nat) (b : Bytes) : List (Nat × Nat × Nat) :=
  (seqFrom 0 n).map fun i => (fieldAt b (16 * i) 8, fieldAt b (16 * i + 8) 4, fieldAt b (16 * i + 12) 4)

/-- The first invalid entry of a factor table (R202): misplaced, of no whole number of groups, past P, or overlapping an earlier one. -/
def factorBad (p : Nat) (l : List (Nat × Nat × Nat)) : Option Nat :=
  (l.zipIdx.find? fun x =>
    let n := x.1.2.1 * x.1.2.2
    decide (x.1.1 % 32 ≠ 0 ∨ n = 0 ∨ n % 32 ≠ 0 ∨ p < x.1.1 + n) ||
      (l.take x.2).any fun y => decide (y.1 < x.1.1 + n ∧ x.1.1 < y.1 + y.2.1 * y.2.2)).map (·.2)

/-- Maps the side state of a rule that comes into force with the next update; none where it does not fit (R181, R183). -/
def State.mapRule (s : State) (u : Rule) : Option State :=
  let t := s.modAnn fun a => { a with rule := u }
  let need := t.scopePanes - s.scopePanes
  if s.jobSpace < s.jobUsed + need * paneBytes then none else State.mapPanes 0 jobOwner true true scopeBase 0 t.scopePanes s

/-- A loaded rule, in force at once or with the next update (R181); its side state is mapped. -/
def State.loadRule (s : State) (u : Rule) : Option State :=
  if s.ann.state = .running then (s.mapRule u).map fun s => s.modAnn fun a => { a with nextRule := some u }
  else some (s.modAnn fun a => { a with rule := u })

/-- RULE_LOAD (R186, R202, R203). -/
def ruleLoadBody (r : CmdRef) (s : State) : State :=
  s.runCmd r 2 0x03 [(0x10, 1), (0x12, 2), (0x14, 4), (0x18, 8), (0x20, 8), (0x28, 8)] fun c =>
    if (s.ann.state ≠ .configured ∧ s.ann.state ≠ .running) ∨ s.ann.start.isSome then s.finish r 0x90 0 0
    else
      let code := c.byte 0x10
      let len := if code = 5 then c.fld 0x12 2 else 0
      let n := if code = 4 then c.fld 0x14 4 else 0
      match firstBad
        [(0x10, decide (1 ≤ code ∧ code ≤ 5)), (0x12, code ≠ 5 || decide (1 ≤ len ∧ len ≤ 64)), (0x14, decide (n ≤ 4096))] with
      | some o => s.failAt r 0x10 o
      | none =>
        s.withRead r 0x18 (c.fld 0x18 8) 64 fun consts =>
          s.withRead r 0x20 (c.fld 0x20 8) (4 * len) fun prog =>
            s.withRead r 0x28 (c.fld 0x28 8) (16 * n) fun fac =>
              let program := (seqFrom 0 len).map fun i => fieldAt prog (4 * i) 4
              let factors := factorsOf n fac
              match programBad program, factorBad s.ann.p factors with
              | some i, _ => s.finish r 0x94 i 0
              | none, some i => s.finish r 0x91 i 0
              | none, none =>
                match s.loadRule { code := code, consts := (seqFrom 0 16).map fun i => fieldAt consts (4 * i) 4, program := program, factors := factors } with
                | none => s.finish r 0x13 0 0
                | some s => s.finish r 0 0 0

def execRuleLoad (r : CmdRef) (s : State) : Host.Outcome State Fault Refusal := .next (ruleLoadBody r s)

/-- GROUP_MAP (R185): in force at once, or with the next write-back of a running job (R181). -/
def groupMapBody (r : CmdRef) (s : State) : State :=
  s.runCmd r 2 0x05 [(0x10, 2), (0x12, 1), (0x13, 1), (0x14, 4), (0x18, 8), (0x20, 8), (0x28, 8), (0x30, 8)] fun c =>
    if (s.ann.state ≠ .configured ∧ s.ann.state ≠ .running) ∨ s.ann.start.isSome then s.finish r 0x90 0 0
    else
      let g : Group :=
        { id := c.fld 0x10 2, fmt := c.byte 0x12, flags := c.byte 0x13, mask := c.fld 0x14 4, first := c.fld 0x18 8, count := c.fld 0x20 8
          acc := c.fld 0x28 8, flagOff := c.fld 0x30 8 }
      match firstBad
        [(0x10, decide (g.id < 4096)), (0x12, fmtByteOk g.fmt && decide (2 ≤ g.code ∧ g.code ≤ 8)), (0x13, decide (g.flags < 3)),
         (0x18, decide (g.first % 32 = 0 ∧ g.first < s.ann.p)),
         (0x20, decide (32 ≤ g.count ∧ g.first + g.count ≤ s.ann.p ∧ (g.count % 32 = 0 ∨ g.first + g.count = s.ann.p))),
         (0x30, decide (g.flagOff % 8 = 0))] with
      | some o => s.failAt r 0x10 o
      | none =>
        let base := if s.ann.nextGroups = [] then s.ann.groups else s.ann.nextGroups
        if base.any fun x => decide (x.1 ≠ g.id ∧ x.2.first < g.first + g.count ∧ g.first < x.2.first + x.2.count) then s.finish r 0x91 g.id 0
        else if s.ann.state = .running then (s.modAnn fun a => { a with nextGroups := base.put g.id g }).finish r 0 0 0
        else (s.modAnn fun a => { a with groups := base.put g.id g }).finish r 0 0 0

def execGroupMap (r : CmdRef) (s : State) : Host.Outcome State Fault Refusal := .next (groupMapBody r s)

/-! ## STEP_CONTROL (R187, R188) -/

/-- Runs one action's meaning on a STEP_CONTROL command that names it; an unknown action fails at 0x10. -/
def State.stepControl (s : State) (r : CmdRef) (action : Nat) (used : List (Nat × Nat)) (f : Cmd → State) : State :=
  match s.cmd? r with
  | none => s
  | some c =>
    if (s.queue r.fn r.q).engine = 2 ∧ c.opcode = 4 ∧ ¬ s.unseenCmd r ∧ s.ann.start ≠ some r ∧ s.ann.stopping ≠ some r then
      if c.byte 0x10 = 0 ∨ 5 < c.byte 0x10 then s.failAt r 0x10 0x10
      else if c.byte 0x10 ≠ action then s
      else match rsvBad c.bytes ((0x10, 1) :: used) with
      | some i => s.rsvFail r c f i
      | none => f c
    else s

/-- Inserts a bucket by its first parameter. -/
def insertByFirst (b : Bucket) : List Bucket → List Bucket
  | [] => [b]
  | x :: r => if x.first ≤ b.first then x :: insertByFirst b r else b :: x :: r

/-- The first bucket, in parameter order, that leaves a gap or overlaps (R184). -/
def tileBad (p : Nat) : Nat → Nat → List Bucket → Option Nat
  | at_, last, [] => if at_ = p then none else some last
  | at_, _, b :: r => if b.first = at_ then tileBad p (at_ + b.count) b.id r else some b.id

/-- The first offending bucket of the job; none where they tile 0 to P − 1. -/
def Anneal.tiles (a : Anneal) : Option Nat := tileBad a.p 0 0 (a.buckets.foldr insertByFirst [])

/-- Bytes of the exchange space (R183). -/
def State.exchBytes (s : State) : Nat :=
  4 * ((s.ann.buckets.map Bucket.partials).foldl max 0) * (if s.invariantMode then 12 else 4)

/-- Maps what START needs beyond the shard; none where the job's space is too small (R183). -/
def State.mapJob (s : State) : Option State :=
  let side := s.scopePanes
  let rings := panesOf s.ann.ringBytes
  let exch := panesOf s.exchBytes
  let missing := fun (base n : Nat) => n - (s.fab.mappedIn 0 base n).length

  if s.jobSpace < s.jobUsed + (missing scopeBase side + missing intakeBase rings + missing exchBase exch) * paneBytes + s.ann.baseBytes then none
  else
    match State.mapPanes 0 jobOwner true true scopeBase 0 side s with
    | none => none
    | some s =>
      match State.mapPanes 0 jobOwner true true intakeBase 0 rings s with
      | none => none
      | some s => State.mapPanes 0 jobOwner true true exchBase 0 exch s

/-- The digest a member contributes to the start barrier (R188). -/
def State.startDigest (s : State) (seed table : Bytes) : Bytes :=
  let a := s.ann
  sha256 (seed ++ natLe a.p 8 ++ natLe (b2n s.compact) 1 ++ natLe (b2n s.invariantMode) 1 ++ natLe a.rule.code 1 ++ a.rule.block ++
    a.rule.programBytes ++ a.rule.factorBytes ++ (a.buckets.flatMap fun b => b.body ++ natLe (crc32c b.q).toNat 4) ++ table)

/-- The serial numbers of a table in rank order: the membership and its rank map. -/
def tableMembers (t : Bytes) : List Bytes := (seqFrom 0 (tableN t)).map (tableSerial t)

/-- In generation 1 every entry's origin rank is its rank (R245). -/
def originOk (t : Bytes) : Bool := (seqFrom 0 (tableN t)).all fun r => decide (fieldAt (tableEntry t r) 0x30 4 = r)

/-- A member table a START accepts (R246): generation 1, its origin ranks the ranks; after a RESTORE also a later generation, with the members and the rank map of the manifest (R235; DEDUCED, log 49: the job has no member table before its START). -/
def State.startTableOk (s : State) (t : Bytes) : Bool :=
  let rank := fieldAt s.ann.shard 0x20 4
  (!s.ann.restored || decide (tableMembers t = tableMembers s.ann.restoredTable)) && (decide (tableGen t ≠ 1) || originOk t) && tableOk t && decide (tableN t = s.ann.members) && decide (tableRecorder t = s.prof 3 0 8 0) && decide (tableStandby t = s.prof 3 0 9 1) &&
    decide (tableSerial t rank = s.tableOwn) && (s.ann.restored || decide (tableGen t = 1))

/-- The barrier has closed with every digest equal: the seed is set, the membership begins with its replica slots, and the initial weights go out (R188, R207, R225, R262). Intake restarts; a GROUP_MAP that waits takes effect with this write-back (R181). -/
def State.startAgreed (s : State) (seed : Bytes) : State :=
  let t := s.ann.table
  let rank := s.ann.rank
  let s := s.unfence
  let s := { s with
    cru := { s.cru with kJob := s.jobKey seed }
    mem := { s.mem with table := t, joined := true, rank := rank, gen := tableGen t, recorder := tableRecorder t, standby := tableStandby t
                        lost := [], restore := none } }
  let s := s.modAnn fun a =>
    { a with
      barrier := false, digests := [], seed := seed, initial := true, phase := .writeback, wrote := false, restDone := true, hold := none
      rings := (contributors a.mask).map fun c => (c, {}), timer := false, moved := false
      buckets := a.buckets.map fun b => { b with arrived := [], early := [] }
      groups := (if a.nextGroups = [] then a.groups else a.nextGroups).mapVal fun _ g => { g with sent := false, written := false, ready := false }
      nextGroups := [] }
  let s := s.ddtUpdate
  let s := if s.ann.restored then s.takeControl else s.putControl
  (s.setScope.freeSlots.modAnn fun a => { a with restored := false, restoredTable := [] }).flushAll.advance

/-- START ends without the job running. -/
def State.startFails (s : State) (st : Nat) : State :=
  let r := s.ann.start
  let s := s.closeJobQps.modAnn fun a => { a with barrier := false, digests := [], start := none }
  match r with | some r => s.finish r st 0 0 | none => s

/-- Once every member's digest is here the barrier closes (R188). -/
def State.tryBarrier (s : State) : State :=
  match s.ann.barrier, s.ann.start with
  | true, some r =>
    let ds := s.others.map fun k => s.ann.digests.find? k
    if ¬ ds.all Option.isSome then s
    else if ds.all fun d => decide (d = some s.ann.digest) then
      match s.cmd? r with | some c => s.startAgreed (slice c.bytes 0x18 16) | none => s.startFails 0x92
    else s.startFails 0x92
  | _, _ => s

/-- START (R183, R184, R187, R188). -/
def startBody (r : CmdRef) (s : State) : State :=
  s.stepControl r 1 [(0x18, 16), (0x28, 8), (0x30, 4), (0x34, 4), (0x38, 6)] fun c =>
    if s.ann.state ≠ .configured ∨ s.ann.start.isSome ∨ s.ann.rule.code = 0 then s.finish r 0x90 0 0
    else
      let ms := fun (o : Nat) => decide (10 ≤ c.fld o 4 ∧ c.fld o 4 ≤ 600000)
      match firstBad [(0x30, ms 0x30), (0x34, ms 0x34)] with
      | some o => s.failAt r 0x10 o
      | none =>
        s.withRead r 0x28 (c.fld 0x28 8) 64 fun h =>
          if tableN h = 0 ∨ 16384 < tableN h then s.failAt r 0x10 0x28
          else s.withRead r 0x28 (c.fld 0x28 8) (64 + 64 * tableN h) fun t =>
            if ¬ s.startTableOk t then s.failAt r 0x10 0x28
            else
              match s.ann.tiles with
              | some id => s.finish r 0x91 id 0
              | none =>
                let peers := ((seqFrom 0 (tableN t)).filter fun k => k ≠ fieldAt s.ann.shard 0x20 4).map (tableAddr t)
                match s.mapJob.bind fun s => s.makeReplicaSpace.closeJobQps.openJobQps peers with
                | none => s.finish r 0x13 0 0
                | some s =>
                  let d := s.startDigest (slice c.bytes 0x18 16) t
                  let s := s.modAnn fun a =>
                    { a with
                      barrier := true, lateDigests := [], start := some r, digest := d, table := t, intakeMs := c.fld 0x30 4, exchangeMs := c.fld 0x34 4
                      step := if a.restored then a.step else c.fld 0x38 6, setConst := [] }
                  (s.others.foldl (fun s k => s.sendPeer k msgDigest d) s).tryBarrier

def execStart (r : CmdRef) (s : State) : Host.Outcome State Fault Refusal := .next (startBody r s)

/-- START_BARRIER_DIGEST (R188, R262, R440): a member's digest arrives, with the certificate chain that this device fetches from it at START and keeps until the job ends. One that a barrier's timeout has won against is discarded and counted (R68). -/
def barrierDigestBody (rank : Nat) (digest chain : Bytes) (s : State) : State :=
  if s.ann.lateDigests.contains rank then (s.modAnn fun a => { a with lateDigests := a.lateDigests.filter (· ≠ rank) }).lateDiscarded
  else if (s.ann.state ≠ .configured ∧ s.resharding.isNone) ∨ (if s.resharding.isSome then s.jobN else s.ann.members) ≤ rank then s
  else ((s.modAnn fun a => { a with digests := a.digests.put rank digest }).modMem fun m => { m with certs := m.certs ++ [chain] }).tryBarrier

def execStartBarrierDigest (rank : Nat) (digest chain : Bytes) (s : State) : Host.Outcome State Fault Refusal :=
  .next (barrierDigestBody rank digest chain s)



/-- Keeps replacements in the order of their effective steps. -/
def insertConst (x : Nat × Nat × Nat) : List (Nat × Nat × Nat) → List (Nat × Nat × Nat)
  | [] => [x]
  | y :: r => if y.2.2 ≤ x.2.2 then y :: insertConst x r else x :: y :: r

/-- SET_CONST (R187). -/
def setConstBody (r : CmdRef) (s : State) : State :=
  s.stepControl r 2 [(0x11, 1), (0x14, 4), (0x18, 6)] fun c =>
    if s.ann.state ≠ .running then s.finish r 0x90 0 0
    else
      match firstBad [(0x11, decide (c.byte 0x11 < 16)), (0x18, decide (s.ann.step < c.fld 0x18 6))] with
      | some o => s.failAt r 0x10 o
      | none => (s.modAnn fun a => { a with setConst := insertConst (c.byte 0x11, c.fld 0x14 4, c.fld 0x18 6) a.setConst }).finish r 0 0 0

def execSetConst (r : CmdRef) (s : State) : Host.Outcome State Fault Refusal := .next (setConstBody r s)

/-- The step as RETRY begins it again: rings at 0, nothing arrived, nothing skipped or written back. -/
def Anneal.rerun (a : Anneal) : Anneal :=
  { a with
    hold := none, phase := .intake, timer := false, skip := false, restDone := false, own := none, scalarsUp := false, global := none, scalarsIn := [], scalarsNext := [], sums := []
    rings := (contributors a.mask).map fun c => (c, {})
    buckets := a.buckets.map fun b => { b with arrived := [], early := [], timedOut := false, summed := false, combined := false, parts := [] }
    groups := a.groups.mapVal fun _ g => { g with sent := false, written := false, ready := false, parts := [] } }

/-- RETRY (R180, R187). -/
def retryBody (r : CmdRef) (s : State) : State :=
  s.stepControl r 3 [] fun _ =>
    if s.ann.state ≠ .running ∨ s.ann.hold.isNone ∨ s.ann.wrote then s.finish r 0x90 0 0
    else
      let s := (s.modAnn Anneal.rerun).ddtUpdate
      let s := (contributors s.ann.mask).foldl (fun s c => s.toAccel c s.ann.creditOff (natLe 0 8) true) s
      (s.finish r 0 0 0).maybeAnnounce.pump

def execRetry (r : CmdRef) (s : State) : Host.Outcome State Fault Refusal := .next (retryBody r s)

/-- STOP (R181): at once while the step is held, else at the end of the write-back. -/
def stopBody (r : CmdRef) (s : State) : State :=
  s.stepControl r 4 [] fun _ =>
    if s.ann.state ≠ .running ∨ s.ann.stopping.isSome then s.finish r 0x90 0 0
    else
      let s := s.modAnn fun a => { a with stopping := some r }
      if s.ann.hold.isSome then s.stopJob else s

def execStop (r : CmdRef) (s : State) : Host.Outcome State Fault Refusal := .next (stopBody r s)

/-- Code of the job state. -/
def JobState.code : JobState → Nat
  | .unconfigured => 0 | .configured => 1 | .running => 2 | .stopped => 3

/-- Code of the phase; 4 while held. -/
def Anneal.phaseCode (a : Anneal) : Nat :=
  if a.hold.isSome then 4 else match a.phase with | .intake => 0 | .scalars => 1 | .update => 2 | .writeback => 3

/-- QUERY (R187). -/
def queryBody (r : CmdRef) (s : State) : State :=
  s.stepControl r 5 [(0x18, 8)] fun c =>
    let a := s.ann
    match s.writeC r.fn (c.fld 0x18 8) (natLe a.step 8 ++ natLe a.k 8 ++ natLe a.state.code 1 ++ natLe a.phaseCode 1 ++ natLe (a.hold.getD 0) 1 ++
        zeros 5 ++ natLe a.normSq 4 ++ natLe a.clip 4 ++ zeros 32) with
    | .error e => s.failAt r e 0x18
    | .ok (s, h) => s.finishSeen r h 0 0 0

def execQuery (r : CmdRef) (s : State) : Host.Outcome State Fault Refusal := .next (queryBody r s)

/-! ## Intake (R190, R193) -/

/-- A late arrival (R68): discarded and counted. -/
def State.lateArrival (s : State) : State := (s.annEvent 2).lateDiscarded

/-- The expected sequence of a ring moves on. -/
def State.nextToken (s : State) (c : Nat) : State :=
  s.modAnn fun a => { a with rings := a.rings.upd c {} fun r => { r with next := r.next + 1 } }

/-- The step is in WRITEBACK, of its first groups while UPDATE goes on with the others (R179). -/
def Anneal.writing (a : Anneal) : Bool := decide (a.phase = .writeback) || (decide (a.phase = .update) && a.groups.any fun g => g.2.sent)

/-- INTAKE_TOKEN (R190): the rows in order. -/
def tokenBody (c : Nat) (token : Bytes) (s : State) : State :=
  let t := leNat (token.take 16)
  let step := t % 2 ^ 48
  let id := t / 2 ^ 48 % 65536
  let q := t / 2 ^ 64 % 2 ^ 32
  let ring := s.ann.rings.getD c {}
  if s.ann.state = .unconfigured ∨ s.ann.mask / 2 ^ c % 2 = 0 then s
  else if t / 2 ^ 120 % 256 ≠ 0xA5 ∨ t / 2 ^ 96 % 256 ≠ c then s.modAnn fun a => { a with badTokens := satInc a.badTokens }
  else if q ≠ ring.next % 2 ^ 32 ∨ ring.credit + s.ann.depth ≤ ring.next then s.holdStep 0x95
  else
    let seq := ring.next
    let s := s.nextToken c
    let release := fun (s : State) => s.releaseSlot c seq
    let late := release (State.lateArrival (s.modAnn fun a => { a with lateTokens := satInc a.lateTokens }))
    let bad := release (s.modAnn fun a => { a with badTokens := satInc a.badTokens })
    let dup := release (s.modAnn fun a => { a with dupTokens := satInc a.dupTokens })
    if step < s.ann.step then late
    else
      match s.ann.bucket? id with
      | none => bad
      | some b =>
        if step = s.ann.step ∧ b.timedOut then late
        else if b.mask / 2 ^ c % 2 = 0 ∨ ¬ s.ann.live then bad
        else if step = s.ann.step then
          if b.arrived.any fun x => x.1 = c then dup
          else State.pump ((s.modBucket id fun b => { b with arrived := b.arrived ++ [(c, seq)] }).modAnn fun a => { a with timer := true })
        else if step = s.ann.step + 1 ∧ s.ann.writing ∧ ¬ s.ann.initial then
          if b.early.any fun x => x.1 = c then dup else s.modBucket id fun b => { b with early := b.early ++ [(c, seq)] }
        else bad

def execIntakeToken (contributor : Nat) (token : Bytes) (s : State) : Host.Outcome State Fault Refusal := .next (tokenBody contributor token s)

/-- Missing contributors of a bucket as a mask. -/
def Bucket.missing (b : Bucket) : Nat :=
  (((contributors b.mask).filter fun c => !(b.arrived.any fun a => a.1 = c)).map fun c => 2 ^ c).sum

/-- INTAKE_TIMEOUT (R193): the incomplete buckets and their missing contributors are logged, and the step is held with 0x20. -/
def intakeTimeoutBody (s : State) : State :=
  let open_ := s.ann.buckets.filter fun b => !b.complete
  if s.ann.state ≠ .running ∨ ¬ s.ann.timer ∨ s.ann.phase ≠ .intake ∨ s.ann.hold.isSome ∨ open_ = [] then s
  else
    let s := (s.modAnn fun a => { a with buckets := a.buckets.map fun b => { b with timedOut := !b.complete } }).timeoutWon
    let s := open_.foldl (fun s b => s.report
      { source := 0x30, severity := 2, status := 0x20, reg := 4, block := 0xD, d0 := s.ann.step, d1 := b.id, d2 := b.missing }) s
    s.holdStep 0x20

def execIntakeTimeout (s : State) : Host.Outcome State Fault Refusal := .next (intakeTimeoutBody s)

/-! ## Exchange (R195, R196) -/

/-- A late partials message. -/
def State.latePart (s : State) : State := State.lateArrival (s.modAnn fun a => { a with lateParts := satInc a.lateParts })

/-- PARTIAL_MESSAGE (R195, R196). During a re-shard one of the step it leads back to, from a member ahead of this one, is kept. -/
def partialBody (imm : Nat) (payload : Bytes) (s : State) : State :=
  let step := fieldAt payload 0 6
  let src := fieldAt payload 8 4
  match s.ann.bucket? (imm / 65536) with
  | none => s
  | some b =>
    if imm % 256 ≠ s.partKind b ∨ s.jobN ≤ src ∨ src = s.jobRank ∨ (payload.length - 16) % s.partWidth b ≠ 0 ∨ ¬ (s.ann.live ∨ s.ann.barrier ∨ s.resharding.isSome) then s
    else
      let kept := s.modBucket b.id fun b => { b with parts := addPart b.parts ⟨step, src, fieldAt payload 12 4, payload.drop 16⟩ }
      match s.resharding with
      | some e => if step = e then kept else s
      | none =>
        if s.ann.live ∧ (step < s.ann.step ∨ s.ann.hold = some 0x20) then s.latePart
        else if s.ann.hold.isSome ∨ (s.ann.live ∧ s.ann.step + 1 < step) then s
        else kept.pump

def execPartialMessage (imm : Nat) (payload : Bytes) (s : State) : Host.Outcome State Fault Refusal := .next (partialBody imm payload s)

/-- EXCHANGE_TIMEOUT (R196): of a bucket in exchange, or of the scalar all-reduce. -/
def exchangeTimeoutBody (bucket : Option Nat) (s : State) : State :=
  let open_ : Bool :=
    match bucket with
    | some id => match s.ann.bucket? id with | some b => b.summed && !b.combined | none => false
    | none => decide (s.ann.phase = .scalars)
  if s.ann.state ≠ .running ∨ s.ann.hold.isSome ∨ ¬ open_ then s else s.timeoutWon.holdStep 0x20

def execExchangeTimeout (bucket : Option Nat) (s : State) : Host.Outcome State Fault Refusal := .next (exchangeTimeoutBody bucket s)

/-! ## Scalars (R198, R202) -/

/-- Scalars from a tree child, or the global ones from the parent. -/
def State.takeScalars (s : State) (src step : Nat) (x : Scalars) : State :=
  if (treeKids 16 s.jobN s.jobRank).contains src then
    if step = s.ann.step then (s.modAnn fun a => { a with scalarsIn := a.scalarsIn.put src x }).scalarsStep
    else if step = s.ann.step + 1 then s.modAnn fun a => { a with scalarsNext := a.scalarsNext.put src x }
    else s
  else if s.jobRank ≠ 0 ∧ src = treeParent 16 s.jobRank ∧ step = s.ann.step ∧ s.ann.phase = .scalars ∧ s.ann.scalarsUp ∧ s.ann.global.isNone then
    match s.ann.own with
    | none => s
    | some own => if x.crc ≠ own.crc then s.holdStep 0x96 else (s.spreadGlobal x).beginUpdate
  else s

/-- SCALAR_MESSAGE (R198, R202): kind 0x10 scalars, 0x11 Adafactor sums. During a re-shard those of the step it leads back to are kept. -/
def scalarBody (imm : Nat) (payload : Bytes) (s : State) : State :=
  let step := fieldAt payload 0 6
  let src := fieldAt payload 8 4
  let p : Part := ⟨step, src, fieldAt payload 12 4, payload.drop 16⟩
  let i := imm / 65536
  let sums := fun (s : State) => if (s.ann.sums.any fun x => decide (x.1 = i ∧ x.2.step = step ∧ x.2.src = src ∧ x.2.off = p.off)) then s
    else s.modAnn fun a => { a with sums := a.sums ++ [(i, p)] }
  if s.jobN ≤ src then s
  else
    match s.resharding with
    | some e =>
      if step ≠ e then s
      else if imm % 256 = 0x10 then
        (if (treeKids 16 s.jobN s.jobRank).contains src then s.modAnn fun a => { a with scalarsIn := a.scalarsIn.put src (Scalars.read (payload.drop 16)) } else s)
      else if imm % 256 = 0x11 then sums s
      else s
    | none =>
      if ¬ s.ann.live then s
      else if s.ann.hold = some 0x20 then s.latePart
      else if s.ann.hold.isSome then s
      else if imm % 256 = 0x10 then s.takeScalars src step (Scalars.read (payload.drop 16))
      else if imm % 256 = 0x11 ∧ s.ann.step ≤ step then (sums s).beginUpdate
      else s

def execScalarMessage (imm : Nat) (payload : Bytes) (s : State) : Host.Outcome State Fault Refusal := .next (scalarBody imm payload s)

/-! ## Update and write-back (R200 to R209) -/

/-- GROUP_UPDATE_DONE (R207): the next unit of the update is done, or of a skipped step's write-back; an uncorrectable error of the staging SRAM fails it with 0x30, which holds the step (R93, R180). -/
def groupUpdateBody (sram : Nat) (s : State) : State :=
  if s.ann.phase ≠ .update ∨ s.ann.hold.isSome ∨ s.ann.repair ≠ [] then s
  else if 2 ≤ sram then s.holdStep 0x30
  else (s.sramRead 4 sram).updateNext

def execGroupUpdateDone (sram : Nat) (s : State) : Host.Outcome State Fault Refusal := .next (groupUpdateBody sram s)

/-- GATHER_MESSAGE (R207). During a re-shard one of the write-back it ends with, from a member ahead of this one, is kept. -/
def gatherBody (imm : Nat) (payload : Bytes) (s : State) : State :=
  let step := fieldAt payload 0 6
  let src := fieldAt payload 8 4
  if imm % 256 ≠ 0x20 ∨ s.jobN ≤ src ∨ src = s.jobRank then s
  else
    let kept := s.modGroup (imm / 65536) fun g => { g with parts := addPart g.parts ⟨step, src, fieldAt payload 12 4, payload.drop 16⟩ }
    match s.resharding with
    | some e => if step = stepBefore e then kept else s
    | none =>
      if s.ann.hold.isSome ∨ ¬ (s.ann.barrier ∨ (s.ann.live ∧ step = s.ann.stream)) then s
      else if s.ann.live then kept.deliverGroup (imm / 65536) else kept

def execGatherMessage (imm : Nat) (payload : Bytes) (s : State) : Host.Outcome State Fault Refusal := .next (gatherBody imm payload s)

/-- WEIGHTS_READY (R207, R208): the group's flags are written; the last one moves the counter. -/
def weightsReadyBody (group : Nat) (s : State) : State :=
  match s.ann.groups.find? group with
  | none => s
  | some g =>
    if ¬ s.ann.live ∨ s.ann.hold.isSome ∨ ¬ g.written ∨ g.ready then s
    else
      let v := if s.ann.initial then s.ann.step else (s.ann.step + 1) % 2 ^ 48
      let s := (contributors g.mask).foldl (fun s c => s.toAccel c g.flagOff (natLe v 8) true) s
      (s.modGroup group fun g => { g with ready := true }).advance

def execWeightsReady (group : Nat) (s : State) : Host.Outcome State Fault Refusal := .next (weightsReadyBody group s)

/-- ABORT (R180): the step is held with the member's reason; one of the next step, or during a re-shard of the step it leads back to, holds that step when it begins. -/
def abortBody (src step reason : Nat) (s : State) : State :=
  if s.jobN ≤ src ∨ src = s.jobRank then s
  else if s.resharding.isSome then (if s.resharding = some step then s.modAnn fun a => { a with abortNext := some (step, reason) } else s)
  else if ¬ s.ann.live then s
  else if step = s.ann.step then
    if s.ann.wrote then s
    else if s.ann.initial then s.modAnn fun a => { a with abortNext := some (step, reason) }
    else s.holdStep reason
  else if step = s.ann.step + 1 then s.modAnn fun a => { a with abortNext := some (step, reason) }
  else s

def execAbort (src step reason : Nat) (s : State) : Host.Outcome State Fault Refusal := .next (abortBody src step reason s)

/-! ## Registers (R213) -/

/-- Shard parameters held in a stack. -/
def State.shardIn (s : State) (e : Nat) : Nat :=
  let g := s.myGroups
  if s.ann.shard = [] then 0
  else 32 * ((seqFrom g.1 (g.2 - g.1)).filter fun i =>
    match s.scopePhys ((s.groupOff i - scopeBase) / paneBytes) with | some p => decide (p / 2 ^ 20 = e) | none => false).length

/-- Reads an ANL_ register; whether a busy engine waits on controller grants is a free value, since the model has no controller bandwidth (DESIGN CHOICE, log 45). -/
def State.anlRead (s : State) (off : Nat) : W32 :=
  let a := s.ann
  match off with
  | 0x00 => w32 (pack [(0, a.state.code), (2, a.phaseCode), (5, b2n (a.hold.isSome && a.wrote)), (8, a.hold.getD 0)])
  | 0x04 => a.events
  | 0x08 => w32 (a.step % 2 ^ 32)
  | 0x0C => w32 (a.step / 2 ^ 32)
  | 0x10 => w32 (a.k % 2 ^ 32)
  | 0x14 => w32 a.normSq
  | 0x18 => w32 a.clip
  | 0x20 => w32 a.skips
  | 0x24 => w32 a.helds
  | 0x28 => w32 a.lateTokens
  | 0x2C => w32 a.dupTokens
  | 0x30 => w32 a.badTokens
  | 0x34 => w32 a.lateParts
  | 0x38 => w32 a.ruleNonfinite
  | 0x3C => w32 a.normDrops
  | 0x40 => a.engSel
  | 0x44 => w32 (pack [(0, b2n (a.live && a.hold.isNone)), (1, if a.live ∧ a.hold.isNone then s.free % 2 else 0), (8, s.shardIn (field a.engSel 0 3) / 2 ^ 20)])
  | _ => 0

/-- Writes an ANL_ register. -/
def State.anlWrite (s : State) (off : Nat) (v : W32) : State :=
  match off with
  | 0x04 => s.modAnn fun a => { a with events := w1c a.events v }
  | 0x40 => s.modAnn fun a => { a with engSel := v &&& 7#32 }
  | _ => s

end Sys2Proof.Machine
end

