-- ==== Sys2Proof/Machine/Mover.lean ====
section
/-! DEFINITION. The MOVER engine's COPY, FILL and WRITE_IMM (spec/04 R114). -/

namespace Sys2Proof.Machine

open Sys2Proof

/-- Writes a MOVER command's bytes and completes it with the bytes written in result0. -/
def State.moverWrite (s : State) (r : CmdRef) (dst detail : Nat) (bs : Bytes) : State :=
  match s.writeC r.fn dst bs with
  | .ok (s, h) => s.finishSeen r h 0 bs.length 0
  | .error e => s.writeFails r e detail dst bs.length

/-- A length of 1 to 2^40 bytes. -/
def lengthOk (n : Nat) : Bool := decide (1 ≤ n ∧ n ≤ 2 ^ 40)

/-- COPY (R114). -/
def copyBody (r : CmdRef) (s : State) : State :=
  s.runCmd r 4 0x01 [(0x10, 8), (0x18, 8), (0x20, 8)] fun c =>
    let src := c.fld 0x10 8; let dst := c.fld 0x18 8; let n := c.fld 0x20 8
    if ¬ lengthOk n then s.failAt r 0x10 0x20
    else if src < dst + n ∧ dst < src + n then s.failAt r 0x10 0x20
    else
      s.withRead r 0x10 src n fun bs => s.moverWrite r dst 0x18 bs

def execCopy (r : CmdRef) (s : State) : Host.Outcome State Fault Refusal := .next (copyBody r s)

/-- The bytes of a fill: byte `i` is byte `i mod 8` of the pattern (R114). -/
def fillBytes (pattern n : Nat) : Bytes :=
  let p := natLe pattern 8
  (seqFrom 0 n).map fun i => p.getD (i % 8) 0

/-- FILL (R114). -/
def fillBody (r : CmdRef) (s : State) : State :=
  s.runCmd r 4 0x02 [(0x10, 8), (0x18, 8), (0x20, 8)] fun c =>
    let n := c.fld 0x18 8
    if ¬ lengthOk n then s.failAt r 0x10 0x18
    else s.moverWrite r (c.fld 0x10 8) 0x10 (fillBytes (c.fld 0x20 8) n)

def execFill (r : CmdRef) (s : State) : Host.Outcome State Fault Refusal := .next (fillBody r s)

/-- WRITE_IMM (R114): one 8-byte write. -/
def writeImmBody (r : CmdRef) (s : State) : State :=
  s.runCmd r 4 0x04 [(0x10, 8), (0x18, 8)] fun c =>
    let dst := c.fld 0x10 8
    if dst % 8 ≠ 0 then s.failAt r 0x10 0x10
    else s.moverWrite r dst 0x10 (natLe (c.fld 0x18 8) 8)

def execWriteImm (r : CmdRef) (s : State) : Host.Outcome State Fault Refusal := .next (writeImmBody r s)

end Sys2Proof.Machine
end

