-- ==== Sys2Proof/Machine/MoverTensor.lean ====
section
/-! DEFINITION. COPY_TENSOR (spec/04 R114). -/

namespace Sys2Proof.Machine

open Sys2Proof

/-! ## COPY_TENSOR (R114) -/

/-- Scale bytes move where both tensors have them. DESIGN CHOICE (log 23): R114 asks for equal formats, ranks and extents only, and says nothing of scale bytes that one side alone has; they are neither read nor written. -/
def bothMx (a b : Desc) : Bool := a.mx && b.mx

/-- The controller's part in a row that fails. -/
def State.rowFault (s : State) (r : CmdRef) (e : Nat) (x : Nat × Nat) (wr : Bool) : State :=
  if e = 0x30 then s.memFaultC r.fn x.1 x.2 wr else s

/-- Copies the rows of a tensor between contract addresses, element bits and scale bytes unchanged. -/
def copyRows (r : CmdRef) (a b : Desc) : List Nat → List Nat → State → State × Except Nat (Option (List Nat))
  | [], held, s => (s, .ok (some held))
  | i :: rest, held, s =>
    match s.readC r.owner r.fn (a.rowAt i).1 (a.rowAt i).2 with
    | .fail e => (s.rowFault r e (a.rowAt i) false, .error e)
    | .wait s' => (s', .ok none)
    | .data bs =>
      match if bothMx a b then s.readC r.owner r.fn (a.scaleAt i).1 (a.scaleAt i).2 else .data [] with
      | .fail e => (s.rowFault r e (a.scaleAt i) false, .error e)
      | .wait s' => (s', .ok none)
      | .data sc =>
        match s.writeC r.fn (b.rowAt i).1 bs with
        | .error e => (s.rowFault r e (b.rowAt i) true, .error e)
        | .ok (s, h) =>
          match if bothMx a b then s.writeC r.fn (b.scaleAt i).1 sc else .ok (s, []) with
          | .error e => (s.rowFault r e (b.scaleAt i) true, .error e)
          | .ok (s, h') => copyRows r a b rest (held ++ h ++ h') s

/-- Every row of the source has arrived or lies in device memory: none while a read is outstanding. -/
def rowsHere (r : CmdRef) (a b : Desc) : List Nat → State → Option State
  | [], _ => none
  | i :: rest, s =>
    match s.readC r.owner r.fn (a.rowAt i).1 (a.rowAt i).2 with
    | .wait s' => some s'
    | _ =>
      match if bothMx a b then s.readC r.owner r.fn (a.scaleAt i).1 (a.scaleAt i).2 else .data [] with
      | .wait s' => some s'
      | _ => rowsHere r a b rest s

/-- A descriptor lies in device or host memory (R110). -/
def descSpace (a : Nat) : Bool := decide (a / 2 ^ 60 ≤ 1)

/-- COPY_TENSOR (R114). DESIGN CHOICE (log 85): R116 gives the offset of the first offending byte of the command; where the breach lies in data that the command names, here in a descriptor or at an address a descriptor holds, the detail is the offset of the field that names the data where that field alone leads to it, and 0 where several do. -/
def copyTensorBody (r : CmdRef) (s : State) : State :=
  s.runCmd r 4 0x03 [(0x10, 8), (0x18, 8)] fun c =>
    let sa := c.fld 0x10 8; let da := c.fld 0x18 8
    if ¬ descSpace sa then s.failAt r 0x11 0x17
    else if ¬ descSpace da then s.failAt r 0x11 0x1F
    else
      s.withRead r 0x10 sa 64 fun x => s.withRead r 0x18 da 64 fun y =>
        let a := Desc.parse x; let b := Desc.parse y
        if ¬ a.ok then s.failAt r 0x10 0x10
        else if ¬ b.ok ∨ ¬ a.sameShape b then s.failAt r 0x10 0x18
        else
          match rowsHere r a b (seqFrom 0 a.rows) s with
          | some s' => s'
          | none =>
            match copyRows r a b (seqFrom 0 a.rows) [] s with
            | (s, .ok (some h)) => s.finishSeen r h 0 (b.rows * ((b.rowAt 0).2 + if bothMx a b then (b.scaleAt 0).2 else 0)) 0
            | (s, .ok none) => s
            | (s, .error e) => (if da / 2 ^ 48 = 0 then s else s.scrambleTensor r.fn b).failAt r e 0

def execCopyTensor (r : CmdRef) (s : State) : Host.Outcome State Fault Refusal := .next (copyTensorBody r s)

end Sys2Proof.Machine
end

