-- ==== Sys2Proof/Machine/HostOps.lean ====
section
/-! DEFINITION. BAR accesses at the host endpoint and the requests that wait for P0 (spec/11 R302, R303; spec/19 R506). -/

namespace Sys2Proof.Machine

open Sys2Proof

/-- Function `fn` is presented (R300). -/
def State.presented (s : State) (fn : Nat) : Bool := s.hep.released && s.tenantOn fn

/-- The function answers memory requests: presented, link up, no FLR, not D3hot, Memory Space Enable (R299, R303, R317). -/
def State.fnLive (s : State) (fn : Nat) : Bool :=
  s.presented fn && s.hep.linkUp && !(s.hostFn fn).flrActive && !(s.hostFn fn).d3 && (s.hostFn fn).mse

/-- The lead carries this member's queues (R294). -/
def State.carriedBy (s : State) : Bool := s.sup.straps.cohortId != 0 && decide (s.sup.straps.hostEn = 0)

/-- The lead tells the members whose queues it carries what its PF0 has come to, under a message code (R318, R321, R322). -/
def State.tellWindows (s : State) (code : Nat) : State :=
  [1, 2, 3].foldl (fun s m =>
    if s.sup.straps.cohortId = 0 ∧ s.apt.present.contains m ∧ (s.apt.memberInfo.getD m (0, 0)).1 = 0 then s.emit (.cohortMsg m code []) else s) s

/-- A BAR write dropped or ignored and counted (R302, R303, R310). -/
def State.barDrop (s : State) (fn : Nat) : State :=
  s.modHost fn fun h => { h with barDrops := satInc h.barDrops, events := latch h.events 4 }

/-- An uncorrectable error is logged in a function's AER (R299): the first one gives the first error pointer and its header, which the model leaves free. -/
def State.aer (s : State) (fn bit : Nat) : State :=
  let v := s.free % 2 ^ 128
  let s := if (s.hostFn fn).aerUncorr &&& ~~~(s.hostFn fn).aerMask = 0#32 ∧ ¬ bitOf (s.hostFn fn).aerMask bit then
      (s.modHost fn fun h => { h with aerFirst := bit, aerHeader := v }).tick else s
  s.modHost fn fun h => { h with aerUncorr := latch h.aerUncorr bit }

/-- An advisory non-fatal error (R303). -/
def State.aerAdvisory (s : State) (fn bit : Nat) : State :=
  (s.aer fn bit).modHost fn fun h => { h with aerCorr := latch h.aerCorr 13 }

/-- Completions of a read, split at 512 B (R303). -/
def State.completions (s : State) (fn : Nat) (bs : Bytes) : State :=
  (chunks 512 0 bs.length).foldl (fun s p => s.emit (.hostCpl fn 0 (slice bs p.1 p.2))) s

/-- A BAR4 read (R303). -/
def State.bar4Read (s : State) (fn off len : Nat) : State :=
  if ¬ s.fnLive fn ∨ len = 0 ∨ 4096 < off % 4096 + len ∨ 2 ^ 39 < off + len then s.emit (.hostCpl fn 1 [])
  else
    match s.fab.readDev (tenantOf fn) off len with
    | .ok bs => s.completions fn bs
    | .error e =>
      if e = 0x11 then s.emit (.hostCpl fn 1 [])
      else if e = 0x30 then ((s.memFault (tenantOf fn) off len false).aerAdvisory fn 15).emit (.hostCpl fn 2 [])
      else s.emit (.hostCpl fn 2 [])

/-- A BAR4 write (R303). -/
def State.bar4Write (s : State) (fn off : Nat) (bs : Bytes) : State :=
  if ¬ s.fnLive fn ∨ 2 ^ 39 < off + bs.length then s.barDrop fn
  else
    match s.fab.writeDev (tenantOf fn) off bs with
    | .ok (f, _) => { s with fab := f }
    | .error e => (if e = 0x30 then s.memFault (tenantOf fn) off bs.length true else s).barDrop fn

/-- The freeze is lifted: the records held go to their rings, in order, one whose slot is held in the fabric when that is released (R73), and queues the freeze kept in STOPPING settle (R102, R322). -/
def State.releaseHeld (s : State) (fn : Nat) : State :=
  let s' := postHeld (s.hostFn fn).held (s.modHost fn fun h => { h with held := [], frozen := false })
  let f := if fn = 0 ∧ s.carriedBy then 15 + s.sup.straps.cohortId else fn
  (s'.con.fn f).queues.foldl (fun s x => s.settleQ f x.1) s'

/-- A write of HEP_HB_CTRL (R319, R322): armed = 1 resumes a frozen function, its held records first; a quiesced tenant stays paused. -/
def State.hbCtrl (s : State) (fn : Nat) (v : W32) : State :=
  let s := s.modHost fn fun h => { h with hbArmed := bitOf v 0 }
  if bitOf v 0 ∧ (s.hostFn fn).frozen then
    let s := s.releaseHeld fn
    let s := s.ddtUpdate
    if fn = 0 then s.tellWindows 0x17 else s
  else s

/-- A host request served at P0. -/
def State.serve (s : State) : HeldReq → State
  | .bar4Read fn off len => s.bar4Read fn off len
  | .bar4Write fn off bs => s.bar4Write fn off bs
  | .doorbell fn q t => s.doorbellQ fn q t
  | .cqHead fn q h => s.cqHeadQ fn q h
  | .enable fn q c => (s.queueRsv fn q 0x10 c).enableQ fn q c
  | .disable fn q => s.disableQ fn q
  | .sync fn i v => (s.syncWrite fn i v).ringResume fn i
  | .nvSq fn q t => s.nvSqDoorbell fn q t
  | .nvCq fn q h => s.nvCqDoorbell fn q h
  | .hbCtrl fn v => s.hbCtrl fn v
  | .queueReg fn q off v => (s.queueRsv fn q off v).modQueue fn q fun u => u.regWrite off v

/-- Serves the requests that waited for P0, in order (R505 step 5, R506). -/
def State.serveHeld (s : State) : State :=
  s.hep.heldReqs.foldl State.serve { s with hep := { s.hep with heldReqs := [] } }

end Sys2Proof.Machine
end

