-- ==== Sys2Proof/Machine/Telemetry.lean ====
section
/-! DEFINITION. Tallies, sensors and telemetry of the AOD (spec/19 R513 to R522). -/

namespace Sys2Proof.Machine

open Sys2Proof

/-- Drops the oldest records of a ring until it holds at most 64 MiB (R522). -/
def trimRing (total : Nat) : List TelemRec → List TelemRec
  | [] => []
  | r :: rest => if 67108864 < total then trimRing (total - r.bytes.length) rest else r :: rest

/-- Appends a record to the ring. -/
def Telemetry.append (t : Telemetry) (b : Bytes) : Telemetry :=
  let p := padTo 8 b
  let ring := t.ring ++ [⟨t.cursor, p⟩]
  { t with ring := trimRing (ring.map fun r => r.bytes.length).sum ring, cursor := t.cursor + p.length }

/-- Makes a telemetry record: into the ring of HBM, or into retention SRAM in P2 and P3 (R521). -/
def State.telemetry (s : State) (typ src : Nat) (payload : Bytes) : State :=
  let b := s.nextRecord typ src payload
  let s := s.usedRecord src
  if s.pwr.state = .p2 ∨ s.pwr.state = .p3 then { s with tel := { s.tel with kept := s.tel.kept ++ [b] } }
  else { s with tel := s.tel.append b }

/-- A record that cannot be kept is counted, and its source's next record says so (R521). -/
def State.telemetryLost (s : State) (src : Nat) : State :=
  { s with tel := { s.tel with lost := satInc s.tel.lost, gaps := if s.tel.gaps.contains src then s.tel.gaps else s.tel.gaps ++ [src] } }

/-- Appends the records of P2 to the ring on wake (R521). -/
def State.flushTelemetry (s : State) : State :=
  { s with tel := { (s.tel.kept.foldl Telemetry.append s.tel) with kept := [] } }

/-- The oldest cursor still held. -/
def Telemetry.oldest (t : Telemetry) : Nat := match t.ring with | [] => t.cursor | r :: _ => r.cursor

/-- Whole records from a cursor, at most `n` bytes. -/
def takeRecords : Nat → List TelemRec → List TelemRec
  | _, [] => []
  | n, r :: rest => if r.bytes.length ≤ n then r :: takeRecords (n - r.bytes.length) rest else []

/-- The records a read from a cursor returns, and the next cursor (R522). -/
def Telemetry.readFrom (t : Telemetry) (cursor n : Nat) : List TelemRec × Nat :=
  let rs := takeRecords n (t.ring.filter fun r => decide (max cursor t.oldest ≤ r.cursor))
  (rs, match rs.getLast? with | some r => r.cursor + r.bytes.length | none => max cursor t.oldest)

/-- The unit tallies (R513): the sources that have one. -/
def tallySources : List Nat :=
  [0] ++ seqFrom 0x10 8 ++ seqFrom 0x20 8 ++ seqFrom 0x30 8 ++ [0x40, 0x50, 0x51, 0x52, 0x60, 0x61, 0x62]

/-- The duration of a sleep in ns: sleep-tally periods times AOD_SLEEP_CAL (R517). -/
def sleepNs (t : Tallies) (periods : Nat) : Nat := periods * t.sleepCal / 1000

/-- What a sleep adds to AOD_TALLY_BOUND: 2 % of it plus 62 µs (R517). -/
def boundAdded (d : Nat) : Nat := d * 2 / 100 + 62000

/-- Every stopped tally is advanced by the sleep and marked uncertain; the bound saturates at all ones (R517). -/
def Tallies.advance (t : Tallies) (periods : Nat) : Tallies :=
  let d := sleepNs t periods
  { t with
    ns := tallySources.map fun i => (i, (t.ns.getD i 0 + d) % 2 ^ 63)
    uncertain := true
    bound := min (2 ^ 64 - 1) (t.bound + boundAdded d)
    stopped := false }

/-- CLEAR_UNCERTAIN (R517): a write of clear_uncertain by core 0 or core 5 clears TIME_UNCERTAIN and zeroes the bound. -/
def execClearUncertain (core : Nat) (s : State) : Host.Outcome State Fault Refusal :=
  .next (if core = 0 ∨ core = 5 then { s with tal := { s.tal with uncertain := false, bound := 0 } } else s)

/-- TALLY_CALIBRATION (R514): a running tally has gone on by the elapsed time. -/
def execTallyCalibration (source elapsedNs : Nat) (s : State) : Host.Outcome State Fault Refusal :=
  .next (if tallySources.contains source ∧ ¬ s.tal.stopped then
      { s with tal := { s.tal with ns := s.tal.ns.put source ((s.tal.ns.getD source 0 + elapsedNs) % 2 ^ 63) } }
    else s)

/-- A junction sensor of R520: I/O die, compute dies and stacks. -/
def isJunction (i : Nat) : Bool := decide (i < 0x30)

/-- The rail of a sensor 0x40 to 0x4C: R18 in table order, VSERDES as two entries, 0x47 and 0x48. -/
def railOfSensor (i : Nat) : Nat := if i < 0x48 then i - 0x40 else i - 0x41

/-- The window of a rail in tenths of a percent (R18). -/
def railTol (r : Nat) : Nat := if isCoreRail r then 40 else if r = 5 ∨ r = 6 ∨ r = 7 then 30 else 50

/-- The value a rail's window lies around: its commanded value on a core rail. -/
def railTarget (r : Nat) (x : Rail) : Nat := if isCoreRail r then x.cmdMv else railMv r

/-- A value within `tol` tenths of a percent of its target. -/
def within (target tol mv : Nat) : Bool := decide (target * (1000 - tol) ≤ mv * 1000 ∧ mv * 1000 ≤ target * (1000 + tol))

/-- A rail is in its window by what it measures; of the VSERDES pair both rails (R18). -/
def Rail.window (r : Nat) (x : Rail) : Bool :=
  within (railTarget r x) (railTol r) x.mv && (decide (r ≠ 7) || within 1200 30 x.mv2)

/-- A powered rail with a new measurement: of the 1.2 V rail of VSERDES, or of the rail itself. -/
def Rail.measured (r : Nat) (second : Bool) (x : Rail) (mv : Nat) : Rail :=
  if x.on then
    let y := if second then { x with mv2 := mv } else { x with mv := mv }
    { y with inWindow := y.window r }
  else x



/-- The sensors sampled in a power state: in P3 only the input sensors and VAOD (R520). -/
def sampled (p : PState) (i : Nat) : Bool :=
  if p = .p3 then i == 0x30 || i == 0x31 || i == 0x32 || i == 0x40
  else decide (i < 0x33) || (decide (0x40 ≤ i) && decide (i ≤ 0x4C))

/-- One sample of a sensor; the time since the last one counts for the input's 1 ms (R23, R520). -/
def State.sampleOne (s : State) (x : Nat × Int) : State :=
  if ¬ sampled s.pwr.state x.1 then s
  else
    let s := { s with tel := { s.tel with sensors := s.tel.sensors.put x.1 x.2 } }
    let n := x.2.toNat
    if x.1 = 0x30 then { s with sup := s.sup.measureVin n (if s.pwr.state = .p3 then 10000 else 100) }
    else if x.1 = 0x31 then { s with sup := { s.sup with iinMa := n, ilim := s.sup.ilim && decide (s.sup.ilimA * 1000 ≤ n) } }
    else if 0x40 ≤ x.1 then
      let r := railOfSensor x.1
      { s with sup := { s.sup with rails := s.sup.rails.mapVal fun i y => if i = r then y.measured r (x.1 == 0x48) n else y } }
    else s

/-- The highest junction sensor in °C (R520). -/
def Telemetry.hottest (t : Telemetry) : Nat :=
  (t.sensors.filter fun x => isJunction x.1).foldl (fun m x => max m (x.2.toNat / 1000)) 0

/-- SENSOR_SAMPLE (R520): the sensors are sampled, hottest_c is the highest junction sensor, and the time below 80 °C goes on or starts again (R21). -/
def sampleBody (l : List (Nat × Int)) (s : State) : State :=
  if ¬ s.sup.aodUp then s
  else
    let period := if s.pwr.state = .p3 then 10000 else 100
    let s := l.foldl State.sampleOne s
    let h := s.tel.hottest
    { s with sup := { s.sup with hottestC := h, coolUs := if h < 80 then s.sup.coolUs + period else 0 } }

def execSensorSample (samples : List (Nat × Int)) (s : State) : Host.Outcome State Fault Refusal := .next (sampleBody samples s)

/-- The unit code of a sensor in a sensor record (R521): 0 m°C, 1 mV, 2 mA, 3 mW. -/
def sensorUnit (i : Nat) : Nat := if i < 0x30 then 0 else if i = 0x31 then 2 else if i = 0x32 then 3 else 1

/-- The entries of a sensor record. -/
def sensorPayload (t : Telemetry) : Bytes :=
  t.sensors.flatMap fun x => natLe x.1 2 ++ natLe (sensorUnit x.1) 1 ++ [0] ++ natLe (x.2 % 2 ^ 32).toNat 4

/-- SENSOR_RECORD (R521): core 5 writes one sensor sample of every sensor; due while core 5 restarts, it is lost and counted. -/
def execSensorRecord (s : State) : Host.Outcome State Fault Refusal :=
  .next (if s.coreRestarting 5 then s.telemetryLost 0x15 else s.telemetry 0x1001 0x15 (sensorPayload s.tel))

/-- PACE_CONTROL_TICK (R512): core 5 lowers every commanded core rail by 5 mV above 1,180 W, and raises it below 1,100 W up to the target; never below 720 mV. -/
def paceRail (mw target ceiling : Nat) (r : Rail) : Rail :=
  let c := if 1180000 < mw then max 720 (r.cmdMv - 5) else if mw < 1100000 then max r.cmdMv (min (min target ceiling) (r.cmdMv + 5)) else r.cmdMv
  { r with cmdMv := c }

/-- The rails after one pace step: the rail takes the commanded value unless throttling holds it lower (R19). -/
def Supply.pace (p : Supply) (mw target : Nat) : Supply :=
  let step := fun (i : Nat) (r : Rail) =>
    if isCoreRail i && r.on then
      let q := paceRail mw target p.vcoreMax r
      { q with mv := if p.throttling then min q.mv q.cmdMv else q.cmdMv }
    else r
  { p with rails := p.rails.mapVal step }

def execPaceControlTick (averageMw : Nat) (s : State) : Host.Outcome State Fault Refusal :=
  .next (if s.coreRestarting 5 then s else { s with sup := s.sup.pace averageMw s.pwr.paceMv })

end Sys2Proof.Machine
end

