-- ==== Sys2Proof/Machine/AodRegs.lean ====
section
/-! DEFINITION. The AOD register block: what each offset reads as and what a write does (spec/01 R27, spec/19 R523). -/

namespace Sys2Proof.Machine

open Sys2Proof

/-- The code of a power state. -/
def PState.code : PState → Nat
  | .p0 => 0
  | .p1 => 1
  | .p2 => 2
  | .p3 => 3

/-- The code of an outcome (AOD_PWR_STATUS.last_outcome). -/
def Outcome4.code : Outcome4 → Nat
  | .completed => 0
  | .abandoned => 1
  | .undone => 2
  | .refused => 3

/-- AOD_PWR_STATUS. -/
def PowerCtl.status (p : PowerCtl) : Nat :=
  pack [(0, p.state.code), (2, b2n p.transition), (3, p.target.code), (5, b2n p.committed), (6, p.outcome.code)]

/-- AOD_SUPPLY_STATUS. DEDUCED (log 66): throttle_active reads 1 from the moment throttling starts until every rail is back, while the governor raises the rails too. -/
def Supply.status (p : Supply) : Nat :=
  pack [(0, b2n p.vinOk), (1, b2n p.railsOk), (2, b2n p.inhibit), (3, b2n p.ilim), (4, b2n p.throttling), (5, b2n p.belowFloor),
        (6, b2n p.tripLatched), (8, p.hottestC % 256)]

/-- AOD_SENSOR_VALUE: the last sample of the selected sensor, signed; a sensor not yet sampled reads 0. -/
def Telemetry.selected (t : Telemetry) : Nat := (t.sensors.getD (field t.sensorSel 0 7) 0 % 2 ^ 32).toNat

/-- The value of a register of the AOD block; none where the block has no register at the offset. -/
def State.aodRead (s : State) (off : Nat) : Option Nat :=
  match off with
  | 0x100 => some s.sup.status
  | 0x104 => some s.sup.events.toNat
  | 0x108 => some s.sup.vinMv
  | 0x10C => some s.sup.iinMa
  | 0x110 => some s.sup.limitCtrl.toNat
  | 0x114 => some s.sup.sagCount
  | 0x118 => some s.sup.glitchCount
  | 0x11C => some (satAdd s.sup.nvwHeld s.sto.heldWrites)
  | 0x120 =>
    let t := s.sup.straps
    some (Config.strapWord t.cohortId t.hostEn t.sbAddr t.recover).toNat
  | 0x200 => some s.pwr.status
  | 0x204 => some s.pwr.ctrl.toNat
  | 0x208 => some s.pwr.wakeEn.toNat
  | 0x20C => some s.pwr.wakeLatch.toNat
  | 0x210 => some s.pwr.alarmMs
  | 0x214 => some s.pwr.alertEn.toNat
  | 0x218 => some s.pwr.alertLatch.toNat
  | 0x21C => some s.pwr.abortCount
  | 0x220 => some s.pwr.lastSleepMs
  | 0x224 => some s.pwr.sbErr
  | 0x300 => some (s.tally 0 % 2 ^ 32)
  | 0x304 => some (s.tally 0 / 2 ^ 32)
  | 0x308 => some (b2n s.tal.uncertain)
  | 0x30C => some (s.tal.bound % 2 ^ 32)
  | 0x310 => some (s.tal.bound / 2 ^ 32)
  | 0x314 => some s.tal.sleepCal
  | 0x400 => some s.tel.sensorSel.toNat
  | 0x404 => some s.tel.selected
  | 0x408 => some s.tel.ctrl.toNat
  | 0x40C => some s.tel.lost
  | _ => none

/-- One more sideband write ignored (AOD_SB_ERR_COUNT). -/
def State.sbError (s : State) : State := { s with pwr := { s.pwr with sbErr := satInc s.pwr.sbErr } }

/-- One more write counted in the AOD fault log (R14). -/
def State.aodRsv (s : State) (off : Nat) (v : W32) (bad : Bool) : State :=
  if bad then State.rsvNote { s with sup := { s.sup with faultCount := s.sup.faultCount + 1 } } true 3 off v else s

/-- A write of AOD_PWR_CTRL (R523). -/
def State.writePwrCtrl (s : State) (v : W32) : State :=
  let t := field v 8 8
  let w := w32 (pack [(0, field v 0 2), (8, rangeField (field s.pwr.ctrl 8 8) t 1 255)])
  let s := { s with pwr := { s.pwr with ctrl := w } }
  let s := if t = 0 then s.sbError else s
  s.aodRsv 0x204 v (decide (field v 2 6 ≠ 0 ∨ field v 16 16 ≠ 0))

/-- A write of AOD_TELEM_CTRL (R523). -/
def State.writeTelemCtrl (s : State) (v : W32) : State :=
  let a := field v 0 16
  let b := field v 16 16
  let w := w32 (pack [(0, rangeField (field s.tel.ctrl 0 16) a 10 60000), (16, rangeField (field s.tel.ctrl 16 16) b 1 3600)])
  let s := { s with tel := { s.tel with ctrl := w } }
  if (10 ≤ a ∧ a ≤ 60000) ∧ (1 ≤ b ∧ b ≤ 3600) then s else s.sbError

/-- Clears TIME_UNCERTAIN and the bound (R517). -/
def State.clearUncertain (s : State) : State := { s with tal := { s.tal with uncertain := false, bound := 0 } }

/-- A write of a register of the AOD block; a read-only register ignores it (R13, R523). -/
def State.aodWrite (s : State) (off : Nat) (v : W32) : State :=
  match off with
  | 0x104 => { s with sup := { s.sup with events := w1c s.sup.events v } }.aodRsv off v (decide (field v 8 24 ≠ 0))
  | 0x110 => s.writeLimit v
  | 0x204 => s.writePwrCtrl v
  | 0x208 => { s with pwr := { s.pwr with wakeEn := v &&& 0xF#32 } }.aodRsv off v (decide (field v 4 28 ≠ 0))
  | 0x20C => { s with pwr := { s.pwr with wakeLatch := w1c s.pwr.wakeLatch v } }.aodRsv off v (decide (field v 6 26 ≠ 0))
  | 0x210 => { s with pwr := { s.pwr with alarmMs := v.toNat } }
  | 0x214 => { s with pwr := { s.pwr with alertEn := v &&& 0x3F#32 } }.aodRsv off v (decide (field v 6 26 ≠ 0))
  | 0x218 => { s with pwr := { s.pwr with alertLatch := w1c s.pwr.alertLatch v } }.aodRsv off v (decide (field v 6 26 ≠ 0))
  | 0x308 => (if bitOf v 1 then s.clearUncertain else s).aodRsv off v (decide (field v 2 30 ≠ 0))
  | 0x400 => { s with tel := { s.tel with sensorSel := v &&& 0x7F#32 } }.aodRsv off v (decide (field v 7 25 ≠ 0))
  | 0x408 => s.writeTelemCtrl v
  | _ => s

end Sys2Proof.Machine
end

