-- ==== Sys2Proof/Machine/Aod.lean ====
section
/-! DEFINITION. Power states and wake, the AOD commands, the register window and the I3C command codes of the sideband (spec/19 R500 to R511; spec/01 R21; spec/21 R544, R552). -/

namespace Sys2Proof.Machine

open Sys2Proof

/-! ## Replies -/

/-- Code of an AOD response carried as a PCIe vendor-defined message. -/
def vdmCode : Nat := 0x7E

/-- Answers an MCTP message where it came from: a status and its payload. -/
def State.reply (s : State) (src : MsgSrc) (st : Nat) (payload : Bytes) : State :=
  match src with
  | .sideband => s.emit (.sideband st payload)
  | .vdm fn => s.emit (.hostMsg fn vdmCode (natLe st 1 ++ payload))

/-- The message reaches the AOD: the sideband while VAOD is up, a VDM of PF0 while the host link is up; VDMs of PF1 to PF15 are dropped (R511). -/
def State.heard (s : State) (src : MsgSrc) : Bool :=
  match src with
  | .sideband => s.sup.aodUp
  | .vdm fn => s.sup.aodUp && fn == 0 && s.hep.linkUp

/-! ## Transitions -/

/-- The power-state change record of R521. -/
def State.powerRecord (s : State) (from_ dst : PState) (o : Outcome4) (sleep bound : Nat) : State :=
  s.telemetry 0x1004 0 (natLe from_.code 1 ++ natLe dst.code 1 ++ natLe (field s.pwr.wakeLatch 0 8) 1 ++ natLe o.code 1 ++
    natLe sleep 8 ++ natLe bound 8)

/-- Ends a transition in a state with an outcome: the record, the state-change alert. -/
def State.settled (s : State) (from_ dst : PState) (o : Outcome4) (sleep bound : Nat) : State :=
  let s := { s with pwr := { s.pwr with state := dst, transition := false, committed := false, exiting := false, wakeSeen := false, outcome := o } }
  (s.powerRecord from_ dst o sleep bound).alert 0

/-- A SET_POWER refused for its precondition: outcome refused, its record, and the entry_refused alert. -/
def State.entryRefused (s : State) (dst : PState) : State :=
  (State.powerRecord { s with pwr := { s.pwr with outcome := .refused } } s.pwr.state dst .refused 0 0).alert 5

/-- The preconditions of R501 hold. -/
def State.mayEnter (s : State) (t : PState) : Bool :=
  match t with
  | .p0 => true
  | .p1 => !s.jobRunning
  | .p2 => !s.jobRunning && !s.epochBusy && s.boot.activation.isNone
  | .p3 => !s.jobRunning && !s.epochBusy && s.boot.activation.isNone && s.nvmeIdle

/-- The enabled wake sources among a mask of AOD_WAKE_LATCH bits: bits 0 to 3 by AOD_WAKE_EN, work and command always (R506). -/
def PowerCtl.enabled (p : PowerCtl) (mask : W32) : W32 := mask &&& (p.wakeEn ||| 0x30#32)

/-- Latches wake sources. -/
def State.latchWake (s : State) (m : W32) : State := { s with pwr := { s.pwr with wakeLatch := s.pwr.wakeLatch ||| m } }

/-- wake_mode (R507). -/
def PowerCtl.native (p : PowerCtl) : Bool := !bitOf p.ctrl 0

/-- An entry abandoned or undone: back in P0 and counted (R507). -/
def State.abortEntry (s : State) (o : Outcome4) : State :=
  let t := s.pwr.target
  State.settled { s with pwr := { s.pwr with abortCount := satInc s.pwr.abortCount } } t .p0 o 0 0

/-- A port in P2: its link is down, and a root port's accelerator is in reset (R290, R291). -/
def Port.asleep (p : Port) : Port :=
  { p with dl := false, speed := 0, width := 0, flit := false, enabled := false, perstLow := !p.cohort || p.perstLow
           events := if p.dl then latch p.events 1 else p.events }

/-- A link in L1: that of an idle port in P1 (R273, R290). -/
def State.linkL1 (s : State) (n : Nat) : Bool := decide (s.pwr.state = .p1) && (s.port n).dl && decide ((s.port n).reads = [])

/-- Takes what P2 loses: compute rails, tile and bench SRAM, network, accelerator and cohort links; quadrants are in self-refresh (R504). -/
def State.enterP2 (s : State) : State :=
  let s := { s with sup := s.sup.cmpDown }
  State.p2Lose { s with
    fab := { s.fab with ctrls := s.fab.ctrls.mapVal fun _ c => { c with quadrantSr := c.quadrantUp } }
    apt := { s.apt with ports := s.apt.ports.mapVal fun _ p => p.asleep } }

/-- Returns what P2 took: compute rails, quadrants out of self-refresh, then the held commands (R505). -/
def State.leaveP2 (s : State) : State :=
  let s := { s with sup := s.sup.cmpUp }
  State.p2Exit { s with
    fab := { s.fab with ctrls := s.fab.ctrls.mapVal fun _ c => { c with quadrantSr := 0 } }
    apt := { s.apt with ports := s.apt.ports.mapVal fun _ p => if p.slot = .on then { p with perstLow := false } else p } }

/-- Advances the tallies by a sleep and keeps its duration (R517). -/
def State.advanceTallies (s : State) (periods : Nat) : State :=
  { s with tal := s.tal.advance periods, pwr := { s.pwr with lastSleepMs := sleepNs s.tal periods / 1000000 % 2 ^ 32 } }

/-- HEP_WAKE_N is driven low by a wake other than host activity until the host link reaches L0 (R506). -/
def State.driveWake (s : State) (host : Bool) : State :=
  if host ∨ s.hep.linkUp then s else { s with pwr := { s.pwr with hepWakeLow := true } }

/-- The exit from P2 (R505): tallies advanced, telemetry of P2 appended, held requests served at P0. -/
def State.exitP2 (s : State) (periods : Nat) : State :=
  let d := sleepNs s.tal periods
  let s := (s.advanceTallies periods).leaveP2
  let s := (s.settled .p2 .p0 .completed d (boundAdded d)).flushTelemetry
  s.serveHeld

/-- The exit from P3 (R505): a cold reset whose tallies are advanced; the wake latch and the records of P3 stay. -/
def State.exitP3 (s : State) (periods : Nat) : State :=
  let d := sleepNs s.tal periods
  let s0 := s.advanceTallies periods
  let s := s0.coldReset 6
  let s := { s with tal := s0.tal,
                    pwr := { s.pwr with wakeLatch := s0.pwr.wakeLatch, lastSleepMs := s0.pwr.lastSleepMs, outcome := s0.pwr.outcome
                                        wakeEn := s0.pwr.wakeEn, ctrl := s0.pwr.ctrl, alertEn := s0.pwr.alertEn, alertLatch := s0.pwr.alertLatch }
                    tel := { s.tel with kept := s0.tel.kept } }
  (s.settled .p3 .p0 .completed d (boundAdded d)).flushTelemetry

/-- Leaves a sleep state or P1 for P0. -/
def State.leave (s : State) (periods : Nat) : State :=
  match s.pwr.state with
  | .p0 => s
  | .p1 => s.settled .p1 .p0 .completed 0 0
  | .p2 => s.exitP2 periods
  | .p3 => s.exitP3 periods

/-- A wake granted while an entry is in progress (R507): native abandons it before commit and undoes it after; forerunner-compatible completes it and exits at once. -/
def State.wakeInEntry (s : State) : State :=
  if ¬ s.pwr.native then { s with pwr := { s.pwr with wakeSeen := true } }
  else if s.pwr.committed then (s.leaveP2.abortEntry .undone).serveHeld
  else s.abortEntry .abandoned

/-- One wake source (R506): ignored in P0 and where disabled; latched and granted otherwise. -/
def State.wake (s : State) (source periods : Nat) : State :=
  let m := s.pwr.enabled (1#32 <<< source)
  if ¬ s.sup.aodUp ∨ m = 0#32 ∨ (s.pwr.state = .p0 ∧ ¬ s.pwr.transition) then s
  else
    let s := (s.latchWake m).driveWake (source == 2)
    if s.pwr.transition then s.wakeInEntry else s.leave periods

/-! ## SET_POWER -/

/-- The entry to P1: no commit point (R503). -/
def State.enterP1 (s : State) : State := s.settled s.pwr.state .p1 .completed 0 0

/-- The P2 entry up to its commit point and past it (R504): `early` are the wake sources granted before the check. -/
def State.beginP2 (s : State) (early : W32) : State :=
  let s := { s with pwr := { s.pwr with transition := true, target := .p2, committed := false, wakeSeen := false } }
  let m := s.pwr.enabled early
  let s := s.latchWake m
  if m ≠ 0#32 ∧ s.pwr.native then s.abortEntry .abandoned
  else State.enterP2 { s with pwr := { s.pwr with committed := true, wakeSeen := decide (m ≠ 0#32) } }

/-- The P3 entry up to its sleep calibration: Crucible zeroizes at level 1 (R505). -/
def State.beginP3 (s : State) : State :=
  State.zeroizeVolatile { s with pwr := { s.pwr with transition := true, target := .p3, committed := false, wakeSeen := false } }

/-- SET_POWER 1, 2 or 3 from P0 or P1: the precondition, then the entry. -/
def State.enter (s : State) (src : MsgSrc) (t : PState) (early : W32) : State :=
  if ¬ s.mayEnter t ∨ ¬ s.sup.pwrgd then (s.entryRefused t).reply src 0x90 []
  else
    let s := s.reply src 0 []
    match t with
    | .p2 => s.beginP2 early
    | .p3 => s.beginP3
    | .p1 => s.enterP1
    | .p0 => s

/-- The power state of a SET_POWER target. -/
def pstateOf : Nat → PState
  | 1 => .p1
  | 2 => .p2
  | 3 => .p3
  | _ => .p0

/-- SET_POWER (R501, R502): `early` names the wakes granted between acceptance and the commit point; `periods` is what the sleep tally counted where the command ends a sleep. -/
def setPowerBody (src : MsgSrc) (target confirm early periods : Nat) (s : State) : State :=
  let t := pstateOf target
  if ¬ s.heard src then s
  else if 3 < target ∨ (target = 3 ∧ confirm ≠ 0x444F524D) then s.reply src 0x10 []
  else if s.pwr.transition ∧ t ≠ .p0 then s.reply src 0x91 []
  else if t = s.pwr.state ∧ ¬ s.pwr.transition then s.reply src 0 []
  else if t = .p0 then (s.wake 5 periods).reply src 0 []
  else if s.pwr.state = .p3 then s.reply src 0x90 []
  else if s.pwr.state = .p2 then (s.exitP2 periods).enter src t (w32 early)
  else s.enter src t (w32 early)

def execSetPower (src : MsgSrc) (target confirm early periods : Nat) (s : State) : Host.Outcome State Fault Refusal :=
  .next (setPowerBody src target confirm early periods s)

/-- SLEEP_CALIBRATION_DONE (R504 step 7, R516): the sleep tally's period is stored; P2 is reached, or a P3 entry commits and powers down; a wake seen on the way is acted on at once. -/
def calibrationBody (periodPs late : Nat) (s : State) : State :=
  if ¬ s.pwr.transition then s
  else
    let from_ := PState.p0
    let s := { s with tal := { s.tal with sleepCal := periodPs % 2 ^ 32, stopped := true } }
    let m := s.pwr.enabled (w32 late)
    let again := s.pwr.wakeSeen || decide (m ≠ 0#32)
    let s := s.latchWake m
    match s.pwr.target with
    | .p2 =>
      let s := s.settled from_ .p2 .completed 0 0
      if again then s.leave 0 else s
    | .p3 =>
      let tal := s.tal
      let p := s.pwr
      let kept := s.tel.kept
      let s := s.powerDown
      let s := { s with tal := tal, pwr := { p with committed := true }, tel := { s.tel with kept := kept } }
      let s := State.settled { s with pwr := { s.pwr with state := .p3 } } from_ .p3 .completed 0 0
      if again then s.leave 0 else s
    | _ => s

def execSleepCalibrationDone (periodPs late : Nat) (s : State) : Host.Outcome State Fault Refusal := .next (calibrationBody periodPs late s)

/-- No command of any engine is running (R501). -/
def State.noneRunning (s : State) : Bool := s.con.fns.all fun f => f.2.queues.all fun q => q.2.running.isEmpty

/-- AUTO_TRIM (R501): core 5 requests P1 after trim_idle_ms of idleness. -/
def execAutoTrim (s : State) : Host.Outcome State Fault Refusal :=
  .next (if s.pwr.state = .p0 ∧ ¬ s.pwr.transition ∧ s.sup.pwrgd ∧ s.boot.supervisor ∧ bitOf s.pwr.ctrl 1 ∧ ¬ s.jobRunning ∧ s.noneRunning ∧
      ¬ s.coreRestarting 5 then s.enterP1
    else s)

/-- Work for a gated unit returns the device from P1 to P0 (R501). -/
def State.workWake (s : State) : State := if s.pwr.state = .p1 then s.wake 4 0 else s

/-- P1_WORK_WAKE (R501). -/
def execP1WorkWake (s : State) : Host.Outcome State Fault Refusal := .next s.workWake

/-- WAKE_N_LOW (R506): WAKE_N low for 10 µs. -/
def execWakeNLow (periods : Nat) (s : State) : Host.Outcome State Fault Refusal := .next (s.wake 1 periods)

/-- SIDEBAND_ADDRESS_MATCH (R509): the watch core wakes; on I3C a match while it sleeps is NACKed; the device wakes only with sb_match. -/
def execSidebandAddressMatch (asleep : Bool) (periods : Nat) (s : State) : Host.Outcome State Fault Refusal :=
  .next (
    let s' := if s.sup.aodUp ∧ asleep ∧ s.sb.protocol = 1 then s.emit .nack else s
    s'.wake 0 periods)

/-- HOST_ACTIVITY_WAKE (R506): a host access in P1 or P2; in P3 the link is unpowered. -/
def execHostActivityWake (periods : Nat) (s : State) : Host.Outcome State Fault Refusal :=
  .next (if s.pwr.state = .p3 ∨ (s.pwr.transition ∧ s.pwr.target = .p3 ∧ s.pwr.committed) then s else s.wake 2 periods)

/-- SLEEP_ALARM (R506): an armed alarm falls due and is disarmed. -/
def execSleepAlarm (periods : Nat) (s : State) : Host.Outcome State Fault Refusal :=
  .next (if s.pwr.alarmMs = 0 then s else State.wake { s with pwr := { s.pwr with alarmMs := 0 } } 3 periods)

/-! ## AOD commands (R511) -/

/-- GET_POWER. -/
def execGetPower (src : MsgSrc) (s : State) : Host.Outcome State Fault Refusal :=
  .next (if s.heard src then s.reply src 0 (natLe s.pwr.status 4 ++ natLe s.pwr.wakeLatch.toNat 4 ++ natLe s.pwr.lastSleepMs 4) else s)

/-- SET_ALARM: 0 disarms. -/
def execSetAlarm (src : MsgSrc) (ms : Nat) (s : State) : Host.Outcome State Fault Refusal :=
  .next (if s.heard src then State.reply { s with pwr := { s.pwr with alarmMs := ms % 2 ^ 32 } } src 0 [] else s)

/-- RESET_WARM (R61 to R63): answered before the reset acts; in P3, where no main rail is up, it starts the device as a cold reset does. -/
def execResetWarm (src : MsgSrc) (s : State) : Host.Outcome State Fault Refusal :=
  .next (if s.heard src then
      let s := s.reply src 0 []
      if s.pwr.state = .p3 then s.coldReset 3 else s.orderlyReset 1
    else s)

/-- RESET_COLD (R61, R63): at once, with no orderly phase. -/
def execResetCold (src : MsgSrc) (s : State) : Host.Outcome State Fault Refusal :=
  .next (if s.heard src then (s.reply src 0 []).coldReset 3 else s)

/-- TRIP_CLEAR (R21): only after 1 s below 80 °C; then the latch clears and a cold reset starts. -/
def execTripClear (src : MsgSrc) (s : State) : Host.Outcome State Fault Refusal :=
  .next (if ¬ s.heard src then s
    else if s.sup.coolUs < 1000000 then s.reply src 0x92 []
    else
      let s := s.reply src 0 []
      State.coldReset { s with sup := { s.sup with tripLatched := false, thermTripLow := false } } 2)

/-- Entry slot `i` of the fault log as R544 lays it out: the newest entry whose number is `i` modulo 2,048, zeros where none was appended. -/
def FaultLog.slot (l : FaultLog) (i : Nat) : Bytes :=
  let oldest := l.count - l.entries.length
  l.entries.getD ((i + 2048 - oldest % 2048) % 2048) (zeros 64)

/-- The fault log by byte offset (R544): its header, then the ring. -/
def FaultLog.byteAt (l : FaultLog) (i : Nat) : Byte :=
  if i < 64 then
    (ascii "RFLT" ++ natLe 1 2 ++ natLe 64 2 ++ natLe 2048 4 ++ natLe (l.count % 2 ^ 32) 4).getD i 0
  else (l.slot ((i - 64) / 64)).getD (i % 64) 0

/-- Bytes of the fault log. -/
def faultLogSize : Nat := 64 + 64 * 2048

/-- FAULT_LOG_READ (R511, R544, R547): up to 256 bytes from the offset; an offset past the log is out of range. -/
def faultLogReadBody (src : MsgSrc) (offset : Nat) (s : State) : State :=
  if ¬ s.heard src then s
  else if faultLogSize ≤ offset then s.reply src 0x10 []
  else s.reply src 0 ((seqFrom offset (min 256 (faultLogSize - offset))).map s.log.byteAt)

def execFaultLogRead (src : MsgSrc) (offset : Nat) (s : State) : Host.Outcome State Fault Refusal :=
  .next (faultLogReadBody src offset s)

/-- TELEMETRY_READ (R522): next cursor, oldest cursor, whole records; 0x93 with records from the oldest for an overwritten cursor; 0x90 in P2 and P3. -/
def telemetryReadBody (src : MsgSrc) (cursor maxBytes : Nat) (s : State) : State :=
  if ¬ s.heard src then s
  else if maxBytes < 64 ∨ 1024 < maxBytes then s.reply src 0x10 []
  else if s.pwr.state = .p2 ∨ s.pwr.state = .p3 then s.reply src 0x90 []
  else
    let (rs, next) := s.tel.readFrom cursor maxBytes
    s.reply src (if cursor < s.tel.oldest then 0x93 else 0) (natLe next 8 ++ natLe s.tel.oldest 8 ++ rs.flatMap (·.bytes))

def execTelemetryRead (src : MsgSrc) (cursor maxBytes : Nat) (s : State) : Host.Outcome State Fault Refusal :=
  .next (telemetryReadBody src cursor maxBytes s)

/-! ## Register window (R510) -/

/-- REGISTER_WINDOW_READ: 4 bytes of the AOD block; an offset without a register answers a free value. -/
def execRegisterWindowRead (offset : Nat) (s : State) : Host.Outcome State Fault Refusal :=
  .next (if ¬ s.sup.aodUp then s
    else match s.aodRead offset with
      | some v => s.emit (.sideband 0 (natLe v 4))
      | none => s.tick.emit (.sideband 0 (natLe s.free 4)))

/-- The registers a window write reaches (R510). -/
def windowWritable : List Nat := [0x104, 0x110, 0x208, 0x20C, 0x210, 0x214, 0x218]

/-- REGISTER_WINDOW_WRITE: other writes, and on SMBus a bad PEC, are ignored and counted. -/
def execRegisterWindowWrite (offset : Nat) (value : W32) (pecOk : Bool) (s : State) : Host.Outcome State Fault Refusal :=
  .next (if ¬ s.sup.aodUp then s
    else if (s.sb.protocol = 0 ∧ ¬ pecOk) ∨ ¬ windowWritable.contains offset then s.sbError
    else s.aodWrite offset value)

/-! ## I3C command codes and the alert response (R508) -/

/-- The target answers I3C command codes. -/
def State.onI3c (s : State) : Bool := s.sup.aodUp && s.sb.protocol == 1

/-- ENTDAA: a dynamic address is assigned. -/
def execEntdaa (addr : Nat) (s : State) : Host.Outcome State Fault Refusal :=
  .next (if s.onI3c ∧ s.sb.dynAddr = none then { s with sb := { s.sb with dynAddr := some (addr % 128) } } else s)

/-- SETDASA: the dynamic address is set from the static one. -/
def execSetdasa (addr : Nat) (s : State) : Host.Outcome State Fault Refusal :=
  .next (if s.onI3c ∧ s.sb.dynAddr = none then { s with sb := { s.sb with dynAddr := some (addr % 128) } } else s)

/-- RSTDAA: the dynamic address is dropped. -/
def execRstdaa (s : State) : Host.Outcome State Fault Refusal :=
  .next (if s.onI3c then { s with sb := { s.sb with dynAddr := none } } else s)

/-- ENEC: in-band interrupts are enabled. -/
def execEnec (s : State) : Host.Outcome State Fault Refusal :=
  .next (if s.onI3c then { s with sb := { s.sb with ibiEn := true } } else s)

/-- DISEC: in-band interrupts are disabled. -/
def execDisec (s : State) : Host.Outcome State Fault Refusal :=
  .next (if s.onI3c then { s with sb := { s.sb with ibiEn := false } } else s)

/-- Answers `n` bytes whose value the spec does not give. -/
def State.freeAnswer (s : State) (n : Nat) : State := s.tick.emit (.sideband 0 (natLe s.free n))

/-- GETPID: the 48-bit provisioned ID; its value is free. -/
def execGetpid (s : State) : Host.Outcome State Fault Refusal := .next (if s.onI3c then s.freeAnswer 6 else s)

/-- GETBCR: its value is free. -/
def execGetbcr (s : State) : Host.Outcome State Fault Refusal := .next (if s.onI3c then s.freeAnswer 1 else s)

/-- GETDCR: its value is free. -/
def execGetdcr (s : State) : Host.Outcome State Fault Refusal := .next (if s.onI3c then s.freeAnswer 1 else s)

/-- GETSTATUS: its value is free. -/
def execGetstatus (s : State) : Host.Outcome State Fault Refusal := .next (if s.onI3c then s.freeAnswer 2 else s)

/-- SETMWL. -/
def execSetmwl (len : Nat) (s : State) : Host.Outcome State Fault Refusal :=
  .next (if s.onI3c then { s with sb := { s.sb with mwl := len % 65536 } } else s)

/-- GETMWL: two bytes, most significant first. -/
def execGetmwl (s : State) : Host.Outcome State Fault Refusal := .next (if s.onI3c then s.emit (.sideband 0 (natBe s.sb.mwl 2)) else s)

/-- SETMRL. -/
def execSetmrl (len : Nat) (s : State) : Host.Outcome State Fault Refusal :=
  .next (if s.onI3c then { s with sb := { s.sb with mrl := len % 65536 } } else s)

/-- GETMRL: two bytes, most significant first. -/
def execGetmrl (s : State) : Host.Outcome State Fault Refusal := .next (if s.onI3c then s.emit (.sideband 0 (natBe s.sb.mrl 2)) else s)

/-- ALERT_RESPONSE_ADDRESS: an asserted ALERT_N answers with the device's address (R37, R508). -/
def execAlertResponseAddress (s : State) : Host.Outcome State Fault Refusal :=
  .next (if s.sup.aodUp ∧ s.sb.protocol = 0 ∧ s.pwr.alertLow then s.emit (.sideband 0 (natLe (2 * (0x58 + s.sup.straps.sbAddr)) 1)) else s)

/-- AOD_WATCHDOG_EXPIRY (R552): the watch core restarts from its ROM; everything latched is kept, and a sideband transaction in progress is NACKed. -/
def execAodWatchdogExpiry (inTransaction : Bool) (s : State) : Host.Outcome State Fault Refusal :=
  .next (if s.sup.aodUp ∧ inTransaction then s.emit .nack else s)

end Sys2Proof.Machine
end

