-- ==== Sys2Proof/Machine/Queues.lean ====
section
/-! DEFINITION. Queue commands: enable, disable, doorbell, completion head, fetch, start and sync counters (spec/04 R102 to R109; spec/11 R302, R309; spec/19 R506). -/

namespace Sys2Proof.Machine

open Sys2Proof

/-- The device is in P2, or committed to it: a host request waits for P0 (R506). -/
def State.asleep (s : State) : Bool :=
  decide (s.pwr.state = .p2) || (s.pwr.transition && s.pwr.committed && decide (s.pwr.target = .p2))

/-- Member m's queue window, 15 + m, on the lead: it carries the queues of a present member without an endpoint of its own (R309). -/
def State.windowOpen (s : State) (fn : Nat) : Bool :=
  decide (s.sup.straps.cohortId = 0) && decide (16 ≤ fn ∧ fn ≤ 18) && s.apt.present.contains (fn - 15) &&
    decide ((s.apt.memberInfo.getD (fn - 15) (0, 0)).1 = 0)

/-- An open member window that PF0 answers. -/
def State.windowLive (s : State) (fn : Nat) : Bool := s.fnLive 0 && s.windowOpen fn

/-- The BAR2 of a function answers (R303); on a member without an endpoint of its own its queues answer what the lead forwards (R294, R309). -/
def State.bar2Live (s : State) (fn : Nat) : Bool :=
  if fn < 16 then s.fnLive fn
  else
    decide (fn = 15 + s.sup.straps.cohortId) && s.carriedBy && s.leadThere

/-- An access to a member queue window as the lead forwards it (R309): the access, its queue and its value. -/
def HeldReq.forward : HeldReq → Bytes
  | .doorbell _ q v => natLe 1 1 ++ natLe q 1 ++ natLe v 4
  | .cqHead _ q v => natLe 2 1 ++ natLe q 1 ++ natLe v 4
  | .enable _ q c => natLe 3 1 ++ natLe q 1 ++ natLe c.toNat 4
  | .disable _ q => natLe 4 1 ++ natLe q 1 ++ zeros 4
  | .sync _ i v => natLe 5 1 ++ natLe i 2 ++ natLe v.toNat 4
  | .queueReg _ q off v => natLe 6 1 ++ natLe q 1 ++ natLe off 1 ++ natLe v.toNat 4
  | _ => []

/-- A BAR2 access acts, waits for P0, goes to the member whose window it names, or is dropped and counted. -/
def State.bar2 (s : State) (fn : Nat) (h : HeldReq) : State :=
  if s.windowLive fn then s.emit (.cohortMsg (fn - 15) 0x13 h.forward)
  else if ¬ s.bar2Live fn then (if fn < 16 then s.barDrop fn else s)
  else if s.asleep then { s with hep := { s.hep with heldReqs := s.hep.heldReqs ++ [h] } }
  else s.workWake.serve h

/-- QUEUE_ENABLE (R102): HEP_QCTRL written with enable = 1. -/
def execQueueEnable (fn q : Nat) (ctrl : W32) (s : State) : Host.Outcome State Fault Refusal :=
  .next (if q < 256 ∧ bitOf ctrl 0 then s.bar2 fn (.enable fn q ctrl) else s)

/-- QUEUE_DISABLE (R102): HEP_QCTRL written with enable = 0. -/
def execQueueDisable (fn q : Nat) (s : State) : Host.Outcome State Fault Refusal :=
  .next (if q < 256 then s.bar2 fn (.disable fn q) else s)

/-- QUEUE_DOORBELL (R103, R104). -/
def execQueueDoorbell (fn q tail : Nat) (s : State) : Host.Outcome State Fault Refusal :=
  .next (if q < 256 then s.bar2 fn (.doorbell fn q tail) else s)

/-- CQ_HEAD_WRITE (R104, R119). -/
def execCqHeadWrite (fn q head : Nat) (s : State) : Host.Outcome State Fault Refusal :=
  .next (if q < 256 then s.bar2 fn (.cqHead fn q head) else s)

/-- SYNC_COUNTER_WRITE (R108): the counter takes the value; a packet ring it counts for resumes (R374). -/
def execSyncCounterWrite (fn index : Nat) (value : W32) (s : State) : Host.Outcome State Fault Refusal :=
  .next (if index < 4096 then s.bar2 fn (.sync fn index value) else s)

/-- COMMAND_FETCH (R105, R106). -/
def execCommandFetch (fn q : Nat) (s : State) : Host.Outcome State Fault Refusal :=
  .next (if s.ioRuns ∧ ¬ s.asleep then s.fetchQ fn q else s)

/-- COMMAND_START (R108, R109). -/
def execCommandStart (fn q : Nat) (s : State) : Host.Outcome State Fault Refusal :=
  .next (if s.ioRuns ∧ ¬ s.asleep then s.workWake.startQ fn q else s)

/-- TENANT_QUIESCE and TENANT_RESUME name a tenant from 1 to 15; one that is not enabled is refused at its field (R111). -/
def State.tenantCmd (s : State) (r : CmdRef) (opcode : Nat) (f : Nat → State) : State :=
  s.runCmd r 5 opcode [(0x10, 1)] fun c =>
    let n := c.byte 0x10
    if n = 0 ∨ 16 ≤ n ∨ ¬ s.tenantOn n then s.failAt r 0x10 0x10 else f n

/-- TENANT_QUIESCE (R111): every queue of the tenant's function goes to PAUSED; the descriptor table follows (R307). -/
def tenantQuiesceBody (r : CmdRef) (s : State) : State :=
  s.tenantCmd r 0x11 fun n => (s.quiesce n).ddtUpdate.finish r 0 0 0

def execTenantQuiesce (r : CmdRef) (s : State) : Host.Outcome State Fault Refusal := .next (tenantQuiesceBody r s)

/-- TENANT_RESUME (R111). -/
def tenantResumeBody (r : CmdRef) (s : State) : State :=
  s.tenantCmd r 0x12 fun n => (s.ddtUpdate.resumeFn n).finish r 0 0 0

def execTenantResume (r : CmdRef) (s : State) : Host.Outcome State Fault Refusal := .next (tenantResumeBody r s)

end Sys2Proof.Machine
end

