-- ==== Sys2Proof/Machine/Host.lean ====
section
/-! DEFINITION. The host link: the DMA gate, Interrupt Disable, BAR4, read completions and timeouts, and driver loss (spec/11 R299, R303, R311, R314, R315, R319 to R322). -/

namespace Sys2Proof.Machine

open Sys2Proof

/-! ## Configuration writes (R299, R311, R315) -/

/-- A function answers configuration requests: it is presented and the link is up (R300, R316). -/
def State.cfgLive (s : State) (fn : Nat) : Bool := decide (fn < 16) && s.presented fn && s.hep.linkUp

/-- Reads outstanding of a function. -/
def HostEndpoint.outstanding (h : HostEndpoint) (fn : Nat) : List ExtRead := h.reads.filter fun r => r.fn = fn

/-- What is outstanding when the gate closes is discarded as it arrives (R315). -/
def State.gateReads (s : State) (fn : Nat) : State :=
  { s with hep := { s.hep with reads := s.hep.reads.map fun r => if r.fn = fn then { r with discard := true } else r } }

/-- The DMA gate closes (R315). -/
def State.closeGate (s : State) (fn : Nat) : State :=
  let busy := s.hep.outstanding fn ≠ []
  (s.gateReads fn).modHost fn fun h => { h with bme := false, events := if busy then latch h.events 1 else h.events }

/-- Bus Master Enable as configuration software leaves it (R315). -/
def State.setBme (s : State) (fn : Nat) (on : Bool) : State :=
  if on then s.modHost fn fun h => { h with bme := true }
  else if (s.hostFn fn).bme then s.closeGate fn else s

/-- BME_CLEAR (R315). -/
def execBmeClear (fn : Nat) (s : State) : Host.Outcome State Fault Refusal := .next (if s.cfgLive fn then s.setBme fn false else s)

/-- BME_SET (R315). -/
def execBmeSet (fn : Nat) (s : State) : Host.Outcome State Fault Refusal := .next (if s.cfgLive fn then s.setBme fn true else s)

/-- PM_STATE_WRITE (R299): in D3hot the function's DMA is gated as for a cleared Bus Master Enable; queues and tenant state are kept. -/
def execPmStateWrite (fn : Nat) (d3 : Bool) (s : State) : Host.Outcome State Fault Refusal :=
  .next (
    if ¬ s.cfgLive fn then s
    else
      let s' := if d3 then s.gateReads fn else s
      s'.modHost fn fun h => { h with d3 := d3 })

/-- Interrupt Disable as configuration software leaves it (R311). -/
def State.setIntDisable (s : State) (fn : Nat) (on : Bool) : State := (s.modHost fn fun h => { h with intDisable := on }).evalIntx fn

/-- INTERRUPT_DISABLE_WRITE (R311). -/
def execInterruptDisableWrite (fn : Nat) (disable : Bool) (s : State) : Host.Outcome State Fault Refusal :=
  .next (if s.cfgLive fn then s.setIntDisable fn disable else s)

/-! ## BAR4 (R303) -/

/-- A BAR4 access acts, or waits for P0 (R506). -/
def State.bar4 (s : State) (fn : Nat) (h : HeldReq) : State :=
  if s.fnLive fn ∧ s.asleep then { s with hep := { s.hep with heldReqs := s.hep.heldReqs ++ [h] } } else s.serve h

/-- BAR4_READ (R303). -/
def execBar4Read (fn off len : Nat) (s : State) : Host.Outcome State Fault Refusal :=
  .next (if fn < 16 ∧ s.hep.linkUp then s.bar4 fn (.bar4Read fn off len) else s)

/-- BAR4_WRITE (R303). -/
def execBar4Write (fn off : Nat) (bytes : Bytes) (s : State) : Host.Outcome State Fault Refusal :=
  .next (if fn < 16 ∧ s.hep.linkUp then s.bar4 fn (.bar4Write fn off bytes) else s)

/-! ## Completions of the device's own reads (R314, R315) -/

/-- The address field of a command that a read at `a` on the host link or a port was made for (R116): of those that name the space, the one nearest below; 0x10 where none does. -/
def Cmd.readField (c : Cmd) (a : Nat) (port : Bool) : Nat :=
  let low := fun (off : Nat) => let v := c.fld off 8; if 2 ^ 60 ≤ a then v else if port then v % 2 ^ 56 else v % 2 ^ 57
  let mine := [0x10, 0x18, 0x20, 0x28].filter fun off =>
    decide (low off ≤ a) && (if port then c.fld off 8 / 2 ^ 60 == 2 || c.fld off 8 / 2 ^ 60 == 3 else c.fld off 8 / 2 ^ 60 == 1)
  mine.foldl (fun b off => if low b ≤ a ∧ low off ≤ low b then b else off) (mine.headD 0x10)

/-- A read of a started command failed: the command ends with the status; the destination of a MOVER command is undefined (R114). -/
def State.cmdReadFail (s : State) (r : CmdRef) (st detail : Nat) : State :=
  match s.cmd? r with
  | none => s
  | some c =>
    if (s.queue r.fn r.q).engine = 4 ∧ c.opcode = 0x03 ∧ c.fld 0x18 8 / 2 ^ 48 ≠ 0 then
      match s.readC r.owner r.fn (c.fld 0x18 8) 64 with
      | .data b => (s.scrambleTensor r.fn (Desc.parse b)).failAt r st detail
      | _ => s.failAt r st detail
    else s.failAt r st detail

/-- A read ended without data: a command ends, a fetch fails, a unit finds the status. -/
def State.readFailed (s : State) (x : ExtRead) (st : Nat) (port : Bool) : State :=
  match x.owner with
  | .cmd fn q h =>
    let r : CmdRef := ⟨fn, q, h⟩
    s.cmdReadFail r st (if st = 0x11 then ((s.cmd? r).map fun c => c.readField x.addr port).getD 0 else 0)
  | .fetch fn q => if (s.queue fn q).state = .running ∨ (s.queue fn q).state = .paused then (s.dropArrived x.owner).fetchFail fn q st else s
  | .unit 0 => s
  | .unit _ =>
    let a : Arrived := { owner := x.owner, addr := x.addr, bytes := [], status := st }
    if port then { s with apt := { s.apt with arrived := s.apt.arrived ++ [a] } } else { s with hep := { s.hep with arrived := s.hep.arrived ++ [a] } }



/-- The owner of a read still waits for it. -/
def State.awaits (s : State) : Owner → Bool
  | .cmd fn q h => (s.cmd? ⟨fn, q, h⟩).isSome
  | .fetch _ _ => true
  | .unit u => u != 0

/-- The data of a read goes to its owner. -/
def State.readArrived (s : State) (x : ExtRead) (bytes : Bytes) (port : Bool) : State :=
  let a : Arrived := { owner := x.owner, addr := x.addr, bytes := bytes }
  if ¬ s.awaits x.owner then s
  else if port then { s with apt := { s.apt with arrived := s.apt.arrived ++ [a] } } else { s with hep := { s.hep with arrived := s.hep.arrived ++ [a] } }

/-- The owner code of a host read that the lead makes for a member (R294). -/
def carriedOwner (x : CarriedRead) : Nat := 0x1000000 + 1024 * x.member + x.tag

/-- A host read that the lead makes for a member: it goes out on PF0, and its answer, status and data, goes back over the cohort link (R294). -/
def State.carry (s : State) (x : CarriedRead) : State :=
  let o := Owner.unit (carriedOwner x)
  let answer := fun (st : Nat) (b : Bytes) =>
    (State.dropArrived { s with apt := { s.apt with carried := s.apt.carried.filter (· ≠ x) } } o).emit (.cohortMsg x.member 0x18 (natLe x.tag 2 ++ natLe st 1 ++ b))
  match s.hostRead 0 o x.addr x.len with
  | .data b => answer 0 b
  | .fail st => answer st []
  | .wait s' => s'

/-- The lead takes up a host read of a member; one that names no data, or more than a read may, is none. -/
def State.carriedRead (s : State) (x : CarriedRead) : State :=
  if x.len = 0 ∨ 4096 < x.len ∨ (s.apt.carried.any fun y => decide (y.member = x.member ∧ y.tag = x.tag)) then s
  else State.carry { s with apt := { s.apt with carried := s.apt.carried ++ [x] } } x

/-- Reads made for members go on once one of them has ended. -/
def State.settleCarried (s : State) (o : Owner) : State :=
  match o with
  | .unit u => if 0x1000000 ≤ u then s.apt.carried.foldl State.carry s else s
  | _ => s

/-- A completion of a function is discarded and counted (R314, R315). -/
def State.discardCpl (s : State) (fn : Nat) : State :=
  s.modHost fn fun h => { h with discards := satInc h.discards, events := latch h.events 3 }

/-- The read outstanding under a tag. -/
def HostEndpoint.read? (h : HostEndpoint) (fn tag : Nat) : Option ExtRead := h.reads.find? fun r => decide (r.fn = fn ∧ r.tag = tag)

/-- A tag of a function is no longer outstanding. -/
def State.freeTag (s : State) (fn tag : Nat) : State :=
  { s with hep := { s.hep with reads := s.hep.reads.filter fun r => !(decide (r.fn = fn ∧ r.tag = tag)) } }

/-- HOST_READ_COMPLETION (R314, R315): `status` 0 brings every byte the read asked for; another status is an unsuccessful completion. -/
def hostCompletionBody (fn tag status : Nat) (bytes : Bytes) (s : State) : State :=
  if ¬ s.cfgLive fn then s
  else
    match s.hep.read? fn tag with
    | none => if s.hep.quarantine.contains (tag, fn) then (s.discardCpl fn).lateDiscarded else s.aer fn 16
    | some x =>
      if x.discard then (((s.freeTag fn tag).discardCpl fn).readFailed x 0x12 false).settleCarried x.owner
      else if status ≠ 0 then ((s.freeTag fn tag).readFailed x 0x11 false).settleCarried x.owner
      else if bytes.length ≠ x.len then s
      else ((s.freeTag fn tag).readArrived x bytes false).settleCarried x.owner

def execHostReadCompletion (fn tag status : Nat) (bytes : Bytes) (s : State) : Host.Outcome State Fault Refusal :=
  .next (hostCompletionBody fn tag status bytes s)

/-- HOST_READ_TIMEOUT (R314, R315). -/
def hostTimeoutBody (fn tag : Nat) (s : State) : State :=
  match s.hep.read? fn tag with
  | none => s
  | some x =>
    let s := s.freeTag fn tag
    let s := State.timeoutWon { s with hep := { s.hep with quarantine := s.hep.quarantine ++ [(tag, fn)] } }
    let s := (s.modHost fn fun h => { h with cplTimeouts := satInc h.cplTimeouts, events := latch h.events 2 }).aer fn 14
    (s.readFailed x (if x.discard then 0x12 else 0x20) false).settleCarried x.owner

def execHostReadTimeout (fn tag : Nat) (s : State) : Host.Outcome State Fault Refusal := .next (hostTimeoutBody fn tag s)

/-- HOST_TAG_QUARANTINE_END (R314). -/
def execHostTagQuarantineEnd (fn tag : Nat) (s : State) : Host.Outcome State Fault Refusal :=
  .next { s with hep := { s.hep with quarantine := s.hep.quarantine.filter (· ≠ (tag, fn)) } }

/-! ## Driver loss (R319 to R322) -/

/-- HB_CTRL_WRITE (R319, R322); on a member whose queues the lead carries, what the lead tells it of PF0. -/
def execHbCtrlWrite (fn : Nat) (value : W32) (s : State) : Host.Outcome State Fault Refusal :=
  .next (
    if 16 ≤ fn then (if s.bar2Live fn then s.hbCtrl 0 value else s)
    else if ¬ s.fnLive fn then s.barDrop fn
    else if s.asleep then { s with hep := { s.hep with heldReqs := s.hep.heldReqs ++ [.hbCtrl fn value] } }
    else s.hbCtrl fn value)

/-- HEP_HEARTBEAT (R320): the loss timer restarts; time is not state of the model. -/
def execHepHeartbeat (fn : Nat) (s : State) : Host.Outcome State Fault Refusal :=
  .next (if fn < 16 ∧ ¬ s.fnLive fn then s.barDrop fn else s)

/-- DRIVER_LOSS_EXPIRY (R320, R321): the driver is declared lost and its function frozen, the queues that a lead carries for members with PF0; `met` says a heartbeat write lost to the expiry. -/
def driverLossBody (fn : Nat) (met : Bool) (s : State) : State :=
  if 16 ≤ fn then (if s.bar2Live fn then s.modHost 0 fun h => { h with frozen := true } else s)
  else if ¬ (fn < 16 ∧ s.presented fn) ∨ ¬ (s.hostFn fn).hbArmed ∨ (s.hostFn fn).frozen then s
  else
    let s := if met then s.lateDiscarded else s
    let s := (s.timeoutWon.modHost fn fun h => { h with frozen := true, events := latch h.events 0 }).report
      { source := 0x60, severity := 2, bit := 0, reg := 4, d0 := fn }
    let s := s.ddtUpdate
    if fn = 0 then s.tellWindows 0x16 else if s.prof 4 fn 4 0 = 1 then s.quiesce fn else s

def execDriverLossExpiry (fn : Nat) (met : Bool) (s : State) : Host.Outcome State Fault Refusal := .next (driverLossBody fn met s)

/-! ## The link (R30, R316) -/

/-- HOST_LINK_UP (R299, R316, R506): the link trains once the endpoint is released and HEP_PERST_N is high, at a rate and width that both ends agree; HEP_WAKE_N is released. DESIGN CHOICE (log 91): rate and width are free values. -/
def execHostLinkUp (s : State) : Host.Outcome State Fault Refusal :=
  .next (if s.hep.released ∧ ¬ s.hep.perstLow then
      State.tick { s with
        hep := { s.hep with linkUp := true, speed := 1 + s.free % 6, width := [1, 2, 4, 8, 16].getD (s.free / 6 % 5) 1 }
        pwr := { s.pwr with hepWakeLow := false } }
    else s)

/-- HEP_PERST_N_RELEASE (R30). -/
def execHepPerstNRelease (s : State) : Host.Outcome State Fault Refusal := .next { s with hep := { s.hep with perstLow := false } }

end Sys2Proof.Machine
end

