-- ==== Sys2Proof/Machine/Firmware.lean ====
section
/-! DEFINITION. Firmware images: transfers into a bank, verification, activation live or at the next start, confirmation and the purge of settings (spec/20 R524 to R540; spec/02 R46). -/

namespace Sys2Proof.Machine

open Sys2Proof



/-- Bytes of a bank. -/
def bankBytes : Nat := 0x2800000

/-- The largest image: the manifest region and 10,224 blocks. -/
def imageMax : Nat := 0x10000 + 4096 * 10224

/-- The supervisor serves the image commands, or the boot ROM in recovery mode (R46). -/
def State.imageHost (s : State) : Bool := s.sup.pwrgd && (s.boot.supervisor || s.boot.recovery) && !s.coreRestarting 0

/-- The bank a transfer may not name: the running one, or in recovery mode the active one (R46, R528). -/
def State.lockedBank (s : State) : Nat := if s.boot.recovery then s.boot.dir.activeBank else s.boot.bank

/-! ## Transfers (R527, R528) -/

/-- A transfer begins: the bank is written EMPTY and erased. -/
def State.beginTransfer (s : State) (bank path : Nat) (total : Option Nat) : State :=
  let s := s.setDir fun d => d.setBank bank .empty
  (s.modBoot fun b => { b with
    transfer := some { bank := bank, next := 0, total := total, manifestOk := false, path := path, image := [] }, phase := 1 }).flashSubmit
    (eraseRange (bankBase bank) bankBytes)

/-- A transfer ends without a verified image; its bank stays EMPTY. -/
def State.failTransfer (s : State) (st : Nat) : State :=
  s.modBoot fun b => { b with transfer := none, phase := 0, lastStatus := st }

/-- The blocks a piece completes: those whose last byte lies in it. -/
def completed (lo hi : Nat) : List Nat :=
  let a := (max lo 0x10000 - 0x10000) / 4096
  seqFrom a ((max hi 0x10000 - 0x10000) / 4096 - a)

/-- The next in-order piece of a transfer: the manifest is checked once its region is complete, each block at its last byte; what passes is programmed, a block that fails may be sent again. -/
def State.transferPiece (s : State) (t : Transfer) (bs : Bytes) : State × Nat :=
  let img := t.image ++ bs
  let hi := t.next + bs.length
  let put := fun (t : Transfer) => s.modBoot fun b => { b with transfer := some t }
  if ¬ t.manifestOk ∧ hi < 0x10000 then (put { t with next := hi, image := img }, 0)
  else
    let st := if t.manifestOk then 0 else Image.manifestStatus s.vendorHash s.fwArb img
    if st ≠ 0 then (s.failTransfer st, st)
    else
      let head := if t.manifestOk then [] else programOps (bankBase t.bank) (img.take 0x10000)
      let done := completed t.next hi
      let prog := fun (l : List Nat) => l.flatMap fun i => programOps (bankBase t.bank + 0x10000 + 4096 * i) (Image.block img i)
      match done.find? fun i => !(Image.blockOk img i) with
      | some i =>
        ((put { t with manifestOk := true, next := 0x10000 + 4096 * i, image := img.take (0x10000 + 4096 * i) }).flashSubmit
          (head ++ prog (done.filter (· < i))), 0x31)
      | none => ((put { t with manifestOk := true, next := hi, image := img }).flashSubmit (head ++ prog done), 0)

/-- The flash has nothing left to write. -/
def Flash.idle (f : Flash) : Bool := f.queue.isEmpty && !f.busy

/-- The end of a transfer (R527 step 3): the bank is read back and verified; it becomes TRIAL with three boots, in recovery mode also active. -/
def State.endTransfer (s : State) (t : Transfer) : State × Nat :=
  let b := s.fl.view.image t.bank
  let st := if t.manifestOk ∧ t.next = 0x10000 + 4096 * Image.blockCount t.image then Image.status s.vendorHash s.fwArb b else 0x10
  let s := s.failTransfer st
  if st ≠ 0 then (s, st)
  else
    (s.setDir fun d =>
      let d := { d.setBank t.bank .trial with trialLeft := 3 }
      if s.boot.recovery then { d with activeBank := t.bank } else d, 0)

/-! ## Checks before activation (R533, R534) -/

/-- Some core is halted or restarting. -/
def State.coreDown (s : State) : Bool := (seqFrom 0 8).any s.coreRestarting

/-- A PROFILE_STAGE is running. -/
def State.staging (s : State) : Bool :=
  s.con.fns.any fun f => f.2.queues.any fun q => q.2.engine == 5 && q.2.running.any fun c => c.opcode == 0x42

/-- An enabled queue speaks a major the new contract value does not serve. -/
def State.majorLost (s : State) (contract : Nat) : Bool :=
  s.con.fns.any fun f => f.2.queues.any fun q =>
    decide (q.2.state ≠ .disabled) &&
      !({ s.con with fnContract := w32 contract }.servesMajor (field q.2.ctrl 16 4))

/-- A component is unchanged: its epoch and blocks equal the running one's. -/
def State.sameComponent (s : State) (img : Bytes) (c : Nat) : Bool :=
  decide ((Image.component img c).epoch = (s.boot.components.getD c ⟨0, [], 0, 0⟩).epoch) &&
    decide (Image.componentDigest img c = s.boot.digests.getD c [])

/-- The components an activation replaces, in order. -/
def State.replaced (s : State) (img : Bytes) : List Nat := handoverOrder.filter fun c => !(s.sameComponent img c)

/-- The first condition of R533 that refuses: its status and, for 0xA2, the component and its peer. `recent` says that a core restarted less than 1 s ago. -/
def State.refusal (s : State) (bank : Nat) (recent : Bool) : Option (Nat × Nat × Nat) :=
  let img := s.fl.view.image bank
  let st := s.boot.dir.bank bank
  if st ≠ .trial ∧ st ≠ .valid then some (0xA0, 0, 0)
  else
    match epochRule (Image.component img) (s.replaced img) (fun j => s.boot.components.getD j ⟨0, [], 0, 0⟩) with
    | some (c, j) => some (0xA2, c, j)
    | none =>
      if ¬ s.boot.safe ∧ ¬ s.boot.unowned ∧
          Profile.refusal (s.profEnv (Image.version img) (w32 (Image.contract img))) s.boot.profile ≠ 0 then some (0xA3, 0, 0)
      else if s.majorLost (Image.contract img) then some (0xA4, 0, 0)
      else if s.coreDown ∨ recent then some (0xA5, 0, 0)
      else if ¬ (s.pwr.state = .p0 ∨ s.pwr.state = .p1) ∨ s.pwr.transition then some (0xA6, 0, 0)
      else if s.boot.transfer.isSome ∨ s.boot.activation.isSome ∨ s.staging then some (0xA7, 0, 0)
      else if Image.security img < s.fwArb then some (0xA8, 0, 0)
      else none

/-! ## Activation (R535 to R539) -/

/-- The new code of a component stands in its core's SRAM: cores 0 to 5 start from it, the open-core kernel is replaced with the programs' SRAM kept. -/
def State.handover (s : State) (bank : Nat) (k : Component) (c : Nat) : State :=
  if c < 6 then s.startCoreFrom bank k c
  else [6, 7].foldl (fun s i => let (a, b) := s.coreCode bank k i; s.modCore i fun x => x.poke a b) s

/-- Records of another settings_format are deleted, logged and counted; the values in force stay until the next start (R539). -/
def State.purgeSettings (s : State) : State :=
  s.deleteFormats.modBoot fun b => { b with settings := b.settings.filter fun y => y.format = b.settingsFormat }

/-- The firmware of a bank is the running one: components, versions, contract and settings. -/
def State.takeFirmware (s : State) (bank : Nat) : State :=
  let img := s.fl.view.image bank
  { s with
    con := { s.con with fnContract := w32 (Image.contract img) }
    hep := { s.hep with ddtGen := s.hep.ddtGen + 2 }
    boot := { s.boot with
      bank := bank, version := Image.version img, security := Image.security img, settingsFormat := Image.settingsFormat img
      components := (seqFrom 0 7).map fun c => (c, Image.component img c)
      digests := (seqFrom 0 7).map fun c => (c, Image.componentDigest img c)
      trialBroken := false } }

/-- The handover of the first component still to be handed over begins: its queues enter PAUSED (R535 step 1). -/
def State.beginHandover (s : State) (a : Activation) : State :=
  let c := a.todo.headD 0
  (s.pauseEngines (pausedBy c)).modBoot fun b => { b with activation := some a, phase := 3, component := c }

/-- An activation is over: nothing is paused any longer. -/
def State.endActivation (s : State) (st : Nat) : State :=
  (s.pauseEngines []).modBoot fun b => { b with activation := none, phase := 0, component := 0, lastStatus := st }

/-- A live activation that is reversed (R536, R537): every component already replaced runs its old code again, in the reverse order. -/
def State.reversed (s : State) (a : Activation) (st : Nat) (bad : Bool) : State :=
  let s := a.done.reverse.foldl (fun s c => s.handover s.boot.bank (s.boot.coreComponent c) c) s
  let s := if bad then s.setDir fun d => d.setBank a.bank .bad else s
  (s.endActivation st).modBoot fun b => { b with events := latch b.events 2 }

/-- A live activation is complete: the bank is active, in TRIAL with three boots (R535). -/
def State.activationDone (s : State) (bank : Nat) : State :=
  let s := s.takeFirmware bank
  let s := s.setDir fun d => { d.setBank bank .trial with activeBank := bank, trialLeft := 3 }
  (s.purgeSettings.endActivation 0).modBoot fun b => { b with events := latch b.events 0 }

/-- A restart of core `k` during a live activation (R537): before the handover of component 0 is complete it is reversed, with 0xAA where the core ran new code, else with 0x22; after it, nothing. -/
def Activation.cut (a : Activation) (k : Nat) : Option (Nat × Bool) :=
  if a.done.contains 0 then none
  else if a.done.contains (min k 6) then some (0xAA, true)
  else some (0x22, false)

/-- Ends the FW_ACTIVATE that waits for an activation. -/
def State.answerActivation (s : State) (a : Activation) (st c : Nat) : State :=
  match a.ref with
  | some r => s.finish r st (Image.version (s.fl.view.image a.bank)) c
  | none => s

/-- The handover in progress ends (R535, R536): `fail` names a component that fails its steps or bound, `restart` a core that restarts after so many handovers. The status and the component named, once the activation is over. -/
def State.advanceLive (s : State) (a : Activation) (fail : Option Nat) (restart : Option (Nat × Nat)) : State × Option (Nat × Nat) :=
  let cut : Option (Nat × Bool × Nat) := (restart.filter fun x => x.2 = a.done.length).bind fun x =>
    (a.cut x.1).map fun y => (y.1, y.2, min x.1 6)
  match a.todo, cut with
  | _, some (st, bad, c) => (s.reversed a st bad, some (st, c))
  | [], none => (s.activationDone a.bank, some (0, 0))
  | c :: rest, none =>
    if fail = some c then (s.reversed a 0xAA true, some (0xAA, c))
    else
      let s := s.handover a.bank (Image.component (s.fl.view.image a.bank) c) c
      let b := { a with done := a.done ++ [c], todo := rest }
      if rest = [] then (s.activationDone a.bank, some (0, 0)) else (s.beginHandover b, none)

/-- A live activation after its checks: it begins the handover of its first component, and is complete where none is to be replaced. -/
def State.activateLive (s : State) (bank path : Nat) (ref : Option CmdRef) : State × Option (Nat × Nat) :=
  match s.replaced (s.fl.view.image bank) with
  | [] => (s.activationDone bank, some (0, 0))
  | l => (s.beginHandover { bank := bank, ref := ref, path := path, done := [], todo := l }, none)

/-- A component's handover in an activation of the sideband or of a command ends. -/
def State.handoverEnds (s : State) (a : Activation) (fail : Option Nat) (restart : Option (Nat × Nat)) : State :=
  match s.advanceLive a fail restart with
  | (s, none) => s
  | (s, some (st, c)) => s.answerActivation a st c

/-- Activation of a bank by mode 1 live, 2 at the next start (R530, R532): nothing while a live one goes on, else status, component and peer. -/
def State.activate (s : State) (bank mode : Nat) (recent : Bool) (path : Nat) (ref : Option CmdRef) : State × Option (Nat × Nat × Nat) :=
  if mode = 2 then
    if s.boot.dir.bank bank ≠ .trial ∧ s.boot.dir.bank bank ≠ .valid then
      (s.modBoot fun b => { b with events := latch b.events 1, lastStatus := 0xA0 }, some (0xA0, 0, 0))
    else (s.setDir fun d => { d.setBank bank .trial with activeBank := bank, trialLeft := 3 }, some (0, 0, 0))
  else
    match s.refusal bank recent with
    | some (st, c, j) =>
      ((s.modBoot fun b => { b with events := latch b.events 1, lastStatus := st }).report
        { source := 0x10, severity := 2, status := st, bit := 1, reg := 0x24, block := 1, d0 := c, d1 := j }, some (st, c, j))
    | none =>
      match s.activateLive bank path ref with
      | (s, none) => (s, none)
      | (s, some (st, c)) => (s, some (st, c, 0))

/-! ## FW_ACTIVATE (R532) -/

/-- An activation that FW_ACTIVATE asks for: its result words, or its wait for the handovers. -/
def State.activated (s : State) (r : CmdRef) (bank mode : Nat) (recent : Bool) : State :=
  let v := Image.version (s.fl.view.image bank)
  match s.activate bank mode recent 2 (some r) with
  | (s, none) => s.setProg r [2]
  | (s, some (st, c, j)) => s.finish r st v (c + 256 * j)

/-- A FW_ACTIVATE that starts, or whose image has been written: the image, if one is given, is written into the bank and verified first; then the bank is activated. -/
def fwStartBody (r : CmdRef) (recent : Bool) (s : State) : State :=
  s.runCmd r 5 0x41 [(0x10, 1), (0x11, 1), (0x14, 4), (0x18, 8)] fun c =>
    let bank := c.byte 0x10; let mode := c.byte 0x11; let n := c.fld 0x14 4; let src := c.fld 0x18 8
    if 2 ≤ bank then s.failAt r 0x10 0x10
    else if mode ≠ 1 ∧ mode ≠ 2 then s.failAt r 0x10 0x11
    else if (src = 0 ∧ n ≠ 0) ∨ (src ≠ 0 ∧ (n = 0 ∨ imageMax < n)) then s.failAt r 0x10 0x14
    else if c.prog = [2] then s
    else if c.prog = [1] then
      if ¬ s.fl.idle then s
      else
        match s.boot.transfer with
        | none => s.finish r 0x22 0 0
        | some t =>
          let (s, st) := s.endTransfer t
          if st ≠ 0 then s.finish r st 0 0 else s.activated r bank mode recent
    else if src = 0 then (s.accept r).activated r bank mode recent
    else if bank = s.boot.bank then s.failAt r 0xA1 0
    else if s.boot.transfer.isSome then s.failAt r 0xA7 0
    else
      (s.accept r).withRead r 0x18 src n fun bs =>
        let s := (s.accept r).beginTransfer bank 2 (some n)
        match s.boot.transfer with
        | none => s
        | some t =>
          match s.transferPiece t bs with
          | (s, 0) => s.setProg r [1]
          | (s, st) => (s.failTransfer st).finish r st 0 0

/-- FW_ACTIVATE: its start, or, while its live activation goes on, the end of the handover in progress. An activation asked for on the sideband has no command: the row then names one that is not running (DESIGN CHOICE, log 35). -/
def fwActivateBody (r : CmdRef) (recent : Bool) (fail : Option Nat) (restart : Option (Nat × Nat)) (s : State) : State :=
  match s.boot.activation with
  | some a => if a.ref = some r ∨ (a.path = 1 ∧ (s.cmd? r).isNone) then s.handoverEnds a fail restart else fwStartBody r recent s
  | none => fwStartBody r recent s

def execFwActivate (r : CmdRef) (recent : Bool) (fail : Option Nat) (restart : Option (Nat × Nat)) (s : State) :
    Host.Outcome State Fault Refusal := .next (fwActivateBody r recent fail restart s)

/-- TRIAL_CONFIRM (R529): 600 s of the running bank in TRIAL; a core restart in them starts them again. -/
def trialConfirmBody (s : State) : State :=
  if ¬ s.boot.supervisor ∨ s.boot.dir.bank s.boot.bank ≠ .trial then s
  else if s.boot.trialBroken then s.modBoot fun b => { b with trialBroken := false }
  else
    let s := s.setDir fun d => d.setBank s.boot.bank .valid
    (State.setFwArb s.boot.security s).modBoot fun b => { b with events := latch b.events 3 }

def execTrialConfirm (s : State) : Host.Outcome State Fault Refusal := .next (trialConfirmBody s)

/-! ## The sideband image commands (R532) -/

/-- An image command reaches its server: VDMs of PF0 only while the supervisor runs (R46). -/
def State.imageHeard (s : State) (src : MsgSrc) : Bool := s.heard src && (s.boot.supervisor || decide (src = .sideband))

/-- IMAGE_BEGIN. -/
def imageBeginBody (src : MsgSrc) (bank total : Nat) (s : State) : State :=
  if ¬ s.imageHeard src then s
  else if ¬ s.imageHost then s.reply src 0x90 []
  else if 2 ≤ bank ∨ total = 0 ∨ imageMax < total then s.reply src 0x10 []
  else if bank = s.lockedBank then s.reply src 0xA1 []
  else if s.boot.transfer.any (fun t => t.path ≠ 1 ∧ t.path ≠ 3) ∨ s.boot.activation.isSome then s.reply src 0xA7 []
  else (s.beginTransfer bank (if s.boot.recovery then 3 else 1) (some total)).reply src 0 []

def execImageBegin (src : MsgSrc) (bank total : Nat) (s : State) : Host.Outcome State Fault Refusal := .next (imageBeginBody src bank total s)

/-- The transfer of the sideband path. -/
def State.sbTransfer (s : State) : Option Transfer := s.boot.transfer.filter fun t => t.path = 1 ∨ t.path = 3

/-- The function a message source stands for in a held response. -/
def vdmOf : MsgSrc → Option Nat
  | .sideband => none
  | .vdm f => some f

/-- IMAGE_DATA: the response follows the writing of the data. -/
def imageDataBody (src : MsgSrc) (offset : Nat) (bytes : Bytes) (s : State) : State :=
  if ¬ s.imageHeard src then s
  else if ¬ s.imageHost then s.reply src 0x90 []
  else
    match s.sbTransfer with
    | none => s.reply src 0x10 []
    | some t =>
      if offset ≠ t.next ∨ bytes.length < 4 ∨ 1024 < bytes.length ∨ bytes.length % 4 ≠ 0 ∨ t.total.getD 0 < offset + bytes.length then
        s.reply src 0x10 []
      else
        match s.transferPiece t bytes with
        | (s, 0) => s.flashSubmit [.note (.piece (vdmOf src))]
        | (s, st) => s.reply src st []

def execImageData (src : MsgSrc) (offset : Nat) (bytes : Bytes) (s : State) : Host.Outcome State Fault Refusal :=
  .next (imageDataBody src offset bytes s)

/-- IMAGE_END: the status of verification, once the flash has written everything. -/
def imageEndBody (src : MsgSrc) (s : State) : State :=
  if ¬ s.imageHeard src then s
  else if ¬ s.imageHost then s.reply src 0x90 []
  else
    match s.sbTransfer with
    | none => s.reply src 0x10 []
    | some t =>
      if ¬ s.fl.idle then s
      else let (s, st) := s.endTransfer t; s.reply src st []

def execImageEnd (src : MsgSrc) (s : State) : Host.Outcome State Fault Refusal := .next (imageEndBody src s)

/-- IMAGE_ACTIVATE: 0x01 when accepted, else the refusal. -/
def imageActivateBody (src : MsgSrc) (bank mode : Nat) (recent : Bool) (s : State) : State :=
  if ¬ s.imageHeard src then s
  else if ¬ s.imageHost ∨ s.boot.recovery then s.reply src 0x90 []
  else if 2 ≤ bank ∨ (mode ≠ 1 ∧ mode ≠ 2) then s.reply src 0x10 []
  else
    match s.activate bank mode recent 1 none with
    | (t, none) => t.reply src 1 []
    | (t, some (st, _)) => t.reply src (if st = 0 then 1 else st) []

def execImageActivate (src : MsgSrc) (bank mode : Nat) (recent : Bool) (s : State) :
    Host.Outcome State Fault Refusal := .next (imageActivateBody src bank mode recent s)

/-- FW_STATUS. -/
def fwStatusBody (src : MsgSrc) (s : State) : State :=
  if ¬ s.imageHeard src then s
  else if ¬ s.imageHost then s.reply src 0x90 []
  else s.reply src 0 (natLe s.boot.fwStatus 4)

def execFwStatus (src : MsgSrc) (s : State) : Host.Outcome State Fault Refusal := .next (fwStatusBody src s)

/-! ## FAULT_ENTRY (R541) -/

/-- The oldest report on its way reaches the AOD's fault log; one that core 0 forms also reaches the flight log. -/
def faultEntryBody (s : State) : State :=
  match s.log.reports with
  | [] => s
  | r :: rest =>
    if ¬ s.boot.supervisor ∨ s.coreRestarting 0 then s
    else State.logBoth { s with log := { s.log with reports := rest } } r

def execFaultEntry (s : State) : Host.Outcome State Fault Refusal := .next (faultEntryBody s)

end Sys2Proof.Machine
end

