-- ==== Sys2Proof/Machine/Storage.lean ====
section
/-! DEFINITION. The commands of the storage controller: doorbells, controller enable and shutdown, I/O commands, drives, replicas and the SERVICE namespace commands, and the STO_ registers (spec/12). -/

namespace Sys2Proof.Machine

open Sys2Proof

/-! ## Doorbells and controller registers (R325, R326, R329, R344, R346) -/

/-- A storage command arrives during an entry to a power state: in native wake mode the entry is abandoned and counted (R346). -/
def State.stoWake (s : State) : State :=
  let entry := s.pwr.transition
  let s := if s.pwr.transition then s.wakeInEntry else s.workWake
  if entry ∧ ¬ s.pwr.transition then (s.modSto fun t => { t with entryAborts := satInc t.entryAborts }).stoEvent 3 else s

/-- A BAR0 access of an NVMe controller acts, waits for P0, or is dropped and counted (R302, R303, R506). -/
def State.bar0 (s : State) (fn : Nat) (held : Option HeldReq) (f : State → State) : State :=
  if ¬ (decide (fn < 16) && s.fnLive fn) then (if fn < 16 then s.barDrop fn else s)
  else
    match s.asleep, held with
    | true, some h => { s with hep := { s.hep with heldReqs := s.hep.heldReqs ++ [h] } }
    | _, _ => f s

/-- NVME_SQ_TAIL_DOORBELL (R325, R335). -/
def execNvmeSqTailDoorbell (fn q tail : Nat) (s : State) : Host.Outcome State Fault Refusal :=
  .next (s.bar0 fn (some (.nvSq fn q tail)) fun s => s.stoWake.nvSqDoorbell fn q tail)

/-- NVME_CQ_HEAD_DOORBELL (R326). -/
def execNvmeCqHeadDoorbell (fn q head : Nat) (s : State) : Host.Outcome State Fault Refusal :=
  .next (s.bar0 fn (some (.nvCq fn q head)) fun s => s.nvCqDoorbell fn q head)

/-- A write in the storage doorbell window of a port (R278, R329). -/
def State.pairDoorbell (s : State) (port off : Nat) (bytes : Bytes) : State :=
  let k := off / 8
  if bytes.length ≠ 4 ∨ off % 4 ≠ 0 ∨ ((s.nvCtrl (256 + port)).sqs.find? (k + 1)).isNone then
    s.unclaimed
  else if off % 8 = 0 then s.stoWake.nvSqDoorbell (256 + port) (k + 1) (leNat bytes)
  else s.nvCqDoorbell (256 + port) (k + 1) (leNat bytes)

/-- ACCEL_PAIR_DOORBELL (R329). -/
def execAccelPairDoorbell (port off : Nat) (bytes : Bytes) (s : State) : Host.Outcome State Fault Refusal :=
  .next (if port < 8 ∧ (s.port port).linked then s.pairDoorbell port off bytes else s)

/-- INTMS_WRITE (R326). -/
def execIntmsWrite (fn : Nat) (value : W32) (s : State) : Host.Outcome State Fault Refusal :=
  .next (s.bar0 fn none fun s => if bitOf value 0 then (s.modNv fn fun k => { k with masked := true }).evalIntx fn else s)

/-- INTMC_WRITE (R326). -/
def execIntmcWrite (fn : Nat) (value : W32) (s : State) : Host.Outcome State Fault Refusal :=
  .next (s.bar0 fn none fun s => if bitOf value 0 then (s.modNv fn fun k => { k with masked := false }).evalIntx fn else s)

/-- The capabilities of a controller (R325): CAP in two halves. -/
def nvCapLow : Nat := pack [(0, 4095), (16, 1), (24, 40)]
def nvCapHigh : Nat := pack [(5, 1)]

/-- Reads an NVMe controller register (R325, R326, R344); what is not listed there is not supported and reads 0. -/
def State.nvRegRead (s : State) (fn off : Nat) : Nat :=
  let k := s.nvCtrl fn
  match off with
  | 0x00 => nvCapLow
  | 0x04 => nvCapHigh
  | 0x08 => 0x20000
  | 0x0C | 0x10 => b2n k.masked
  | 0x14 => k.cc.toNat
  | 0x1C => pack [(0, b2n k.rdy), (2, k.shst)]
  | 0x24 => k.aqa.toNat
  | 0x28 => k.asq % 2 ^ 32
  | 0x2C => k.asq / 2 ^ 32 % 2 ^ 32
  | 0x30 => k.acq % 2 ^ 32
  | 0x34 => k.acq / 2 ^ 32 % 2 ^ 32
  | _ => 0

/-- CC.EN set on a disabled controller: the admin queues stand at ASQ and ACQ with the sizes of AQA, and CSTS.RDY sets (R325). -/
def State.nvEnable (s : State) (fn : Nat) (cc : W32) : State :=
  s.modNv fn fun k =>
    if k.rdy then { k with cc := cc }
    else
      { k with
        cc := setBit cc 0, rdy := true, shst := 0
        sqs := [(0, { base := k.asq, size := field k.aqa 0 12 + 1, cq := 0 })]
        cqs := [(0, { base := k.acq, size := field k.aqa 16 12 + 1, ien := true })] }

/-- CC_EN_SET (R325, R344). -/
def execCcEnSet (fn : Nat) (cc : W32) (s : State) : Host.Outcome State Fault Refusal :=
  .next (s.bar0 fn none fun s => s.nvEnable fn cc)

/-- CC_EN_CLEAR (R344). -/
def execCcEnClear (fn : Nat) (s : State) : Host.Outcome State Fault Refusal :=
  .next (s.bar0 fn none fun s => if (s.nvCtrl fn).rdy then s.nvStop fn else s)

/-- CC_SHN_SET (R344): fetching stops; once the admitted commands are complete each drive is flushed. -/
def execCcShnSet (fn shn : Nat) (s : State) : Host.Outcome State Fault Refusal :=
  .next (s.bar0 fn none fun s =>
    if shn = 0 ∨ ¬ (s.nvCtrl fn).rdy ∨ (s.nvCtrl fn).shst ≠ 0 then s
    else (s.modNv fn fun k => { k with shst := 1, cc := w32 (k.cc.toNat - field k.cc 14 2 * 2 ^ 14 + shn % 4 * 2 ^ 14) }).stepShutdown fn)

/-! ## Fetching (R327, R335) -/

/-- The next command of a queue: the one fetched already, or the next of the ring, read once; its read may be outstanding. -/
def State.nvNext (s : State) (c q : Nat) : State × Option Bytes :=
  let k := s.nvCtrl c
  match k.fetched.find? q with
  | some b => (s, some b)
  | none =>
    match k.sqs.find? q with
    | none => (s, none)
    | some x =>
      if ¬ (k.rdy ∨ 256 ≤ c) ∨ k.shst ≠ 0 ∨ x.dead ∨ x.head = x.tail ∨ ¬ s.ioRuns ∨ s.asleep ∨ s.boot.orderly ∨ s.coreRestarting 1 ∨ s.handing 1 then (s, none)
      else
        match s.nvRead c q (x.base + 64 * x.head) 64 with
        | .wait s => (s, none)
        | .fail _ => (s.dropArrived (nvOwner c q), none)
        | .data b =>
          ((s.dropArrived (nvOwner c q)).modNv c fun k =>
            { k with sqs := k.sqs.put q { x with head := (x.head + 1) % x.size }, fetched := k.fetched.put q b }, some b)

/-- Opcodes of the I/O set and of the admin set (R330). -/
def ioOps : List Nat := [0, 1, 2, 8, 9]
def adminOps : List Nat := [0, 1, 2, 4, 5, 6, 8, 9, 0xA, 0xC, 0x10, 0x11, 0xC1, 0xC2]

/-- Takes the next command of a queue where its opcode is `op`; an opcode of no command ends with Invalid Command Opcode, whichever row finds it. -/
def State.nvTake (s : State) (c q op : Nat) (ops : List Nat) (f : State → Bytes → State) : State :=
  match s.nvNext c q with
  | (s, none) => s
  | (s, some b) =>
    let o := fieldAt b 0 1
    if o = op then f s b else if ops.contains o then s else s.nvEnd c q (fieldAt b 2 2) (nv 0 0x01)

/-- Takes the next I/O command of a queue; queue 0 is the admin queue, which holds none. -/
def State.nvIoTake (s : State) (c q op : Nat) (f : State → Bytes → State) : State := if q = 0 then s else s.nvTake c q op ioOps f

/-- Command fields. -/
def sqeCid (b : Bytes) : Nat := fieldAt b 2 2
def sqeNsid (b : Bytes) : Nat := fieldAt b 4 4
def sqeDw (b : Bytes) (i : Nat) : Nat := fieldAt b (4 * i) 4

/-! ## Data pointers (R325, R327, R328) -/

/-- Reads `n` entries of a PRP list, following its chain at page ends. -/
def prpWalk (c q : Nat) : Nat → Nat → Nat → State → Rd
  | 0, _, _, _ => .fail 0x10
  | k + 1, a, n, s =>
    let cap := (4096 - a % 4096) / 8
    if n ≤ cap then s.nvRead c q a (8 * n)
    else
      match s.nvRead c q a (8 * cap) with
      | .data b =>
        match prpWalk c q k (fieldAt b (8 * (cap - 1)) 8) (n - (cap - 1)) s with
        | .data r => .data (b.take (8 * (cap - 1)) ++ r)
        | x => x
      | x => x

/-- Addresses and lengths of a transfer. -/
inductive Prps where
  | segs (l : List (Nat × Nat))
  | fail (st : Nat)
  | wait (s : State)

/-- Page pieces of a transfer after its first. -/
def pageSegs : List Nat → Nat → List (Nat × Nat)
  | [], _ => []
  | a :: r, n => if n = 0 then [] else (a, min n 4096) :: pageSegs r (n - min n 4096)

/-- The pieces that PRP1 and PRP2 name for `n` bytes. -/
def State.prps (s : State) (c q : Nat) (b : Bytes) (n : Nat) : Prps :=
  let p1 := fieldAt b 24 8
  let p2 := fieldAt b 32 8
  let n1 := min n (4096 - p1 % 4096)
  let rest := n - n1
  let pages := (rest + 4095) / 4096
  if p1 % 4 ≠ 0 then .fail 0x10
  else if pages = 0 then .segs [(p1, n1)]
  else if pages = 1 then (if p2 % 4096 ≠ 0 then .fail 0x10 else .segs [(p1, n1), (p2, rest)])
  else
    match prpWalk c q 8 p2 pages s with
    | .wait s => .wait s
    | .fail e => .fail e
    | .data l =>
      let as := (seqFrom 0 pages).map fun i => fieldAt l (8 * i) 8
      if as.any fun a => a % 4096 ≠ 0 then .fail 0x10 else .segs ((p1, n1) :: pageSegs as rest)

/-- Reads the pieces of a transfer. -/
def State.readSegs (s : State) (c q : Nat) : List (Nat × Nat) → Rd
  | [] => .data []
  | (a, n) :: r =>
    match s.nvRead c q a n with
    | .data b => (match s.readSegs c q r with | .data d => .data (b ++ d) | x => x)
    | x => x

/-- The host data of a command goes to its continuation; a failed transfer ends it (R327). -/
def State.nvData (s : State) (c q : Nat) (b : Bytes) (n : Nat) (f : State → Bytes → State) : State :=
  match s.prps c q b n with
  | .wait s => s
  | .fail e => s.nvEnd c q (sqeCid b) (nvOf e false)
  | .segs l =>
    match s.readSegs c q l with
    | .wait s => s
    | .fail e => s.nvEnd c q (sqeCid b) (nvOf e false)
    | .data d => f s d

/-- Data of an admin command goes to the host and its entry follows. -/
def State.nvAnswer (s : State) (c : Nat) (b data : Bytes) : State :=
  match s.prps c 0 b data.length with
  | .wait s => s
  | .fail e => s.nvEnd c 0 (sqeCid b) (nvOf e true)
  | .segs l =>
    match s.deliverRead c l data with
    | (s, e) => s.nvEnd c 0 (sqeCid b) (nvOf e true)

/-! ## I/O commands (R330 to R339) -/

/-- The tenant a controller's commands act for. -/
def nvTenant (c : Nat) : Nat := if c < 16 then c else 0

/-- The namespace of a command, or the status that ends it (R332, R342, R347). -/
def State.nvSpace (s : State) (c : Nat) (b : Bytes) (read : Bool) : Except Nat Namespace :=
  match s.space (nvTenant c) (sqeNsid b) with
  | none => .error (nv 0 0x0B)
  | some n =>
    if n.deleting.isSome ∨ n.nsid = replicaNsid then .error (nv 0 0x0B)
    else if s.nsReady n then .ok n
    else if s.fromReplica n then (if read then .ok n else .error (nv 2 0x80))
    else .error nvNotReady

/-- Runs an I/O command on its namespace with its first LBA and count, inside the namespace and the size limit. -/
def State.nvIo (s : State) (c q : Nat) (b : Bytes) (read mdts : Bool) (f : Namespace → Nat → Nat → State) : State :=
  match s.nvSpace c b read with
  | .error e => s.nvEnd c q (sqeCid b) e
  | .ok n =>
    let lba := fieldAt b 40 8
    let k := sqeDw b 12 % 65536 + 1
    if mdts ∧ mib < k * n.lba then s.nvEnd c q (sqeCid b) (nv 0 0x02)
    else if n.size < (lba + k) * n.lba then s.nvEnd c q (sqeCid b) (nv 0 0x80)
    else f n (lba * n.lba) (k * n.lba)

/-- The record of an admitted command of a queue. -/
def nvCommand (c q : Nat) (b : Bytes) (nsids : List Nat) (ranges : List (Nat × Nat)) : NvCmd :=
  { id := 0, ctrl := c, sq := q, cid := sqeCid b, op := fieldAt b 0 1, tenant := nvTenant c, nsids := nsids, ranges := ranges }

def nvmeReadBody (c q : Nat) (s : State) : State :=
  s.nvIoTake c q 2 fun s b =>
    s.nvIo c q b true true fun n off len =>
      match s.prps c q b len with
      | .wait s => s
      | .fail e => s.nvEnd c q (sqeCid b) (nvOf e true)
      | .segs l => s.admitNv { nvCommand c q b [n.nsid] [(off, len)] with prps := l, data := zeros len, fua := decide (sqeDw b 12 / 2 ^ 30 % 2 = 1) }

/-- NVME_READ (R330, R334 to R336). DEDUCED (log 81): with FUA the drives it reads are flushed before it completes, so that what it returns is durable. -/
def execNvmeRead (c q : Nat) (s : State) : Host.Outcome State Fault Refusal := .next (nvmeReadBody c q s)

def nvmeWriteBody (c q : Nat) (s : State) : State :=
  s.nvIoTake c q 1 fun s b =>
    s.nvIo c q b false true fun n off len =>
      s.nvData c q b len fun s d =>
        s.admitNv { nvCommand c q b [n.nsid] [(off, len)] with data := d, fua := decide (sqeDw b 12 / 2 ^ 30 % 2 = 1) }

/-- NVME_WRITE (R335 to R338, R343). -/
def execNvmeWrite (c q : Nat) (s : State) : Host.Outcome State Fault Refusal := .next (nvmeWriteBody c q s)

def writeZeroesBody (c q : Nat) (s : State) : State :=
  s.nvIoTake c q 8 fun s b =>
    s.nvIo c q b false false fun n off len =>
      s.admitNv { nvCommand c q b [n.nsid] [(off, len)] with fua := decide (sqeDw b 12 / 2 ^ 30 % 2 = 1), deac := decide (sqeDw b 12 / 2 ^ 25 % 2 = 1) }

/-- WRITE_ZEROES (R334). -/
def execWriteZeroes (c q : Nat) (s : State) : Host.Outcome State Fault Refusal := .next (writeZeroesBody c q s)

def nvmeFlushBody (c q : Nat) (s : State) : State :=
  s.nvIoTake c q 0 fun s b =>
    if sqeNsid b = 0xFFFFFFFF then
      let ns := (s.sto.spaces.filter fun n => decide (n.tenant = nvTenant c ∧ n.nsid ≠ replicaNsid ∧ n.deleting = none) && s.nsReady n).map (·.nsid)
      s.admitNv (nvCommand c q b ns [])
    else
      match s.nvSpace c b false with
      | .error e => s.nvEnd c q (sqeCid b) (if e = nv 2 0x80 then nvNotReady else e)
      | .ok n => s.admitNv (nvCommand c q b [n.nsid] [])

/-- NVME_FLUSH (R339). -/
def execNvmeFlush (c q : Nat) (s : State) : Host.Outcome State Fault Refusal := .next (nvmeFlushBody c q s)

/-- The ranges of a Dataset Management command: first byte and bytes. -/
def dsmRanges (lba : Nat) (d : Bytes) : List (Nat × Nat) :=
  (seqFrom 0 (d.length / 16)).map fun i => (fieldAt d (16 * i + 8) 8 * lba, fieldAt d (16 * i + 4) 4 * lba)

def datasetManagementBody (c q : Nat) (s : State) : State :=
  s.nvIoTake c q 9 fun s b =>
    match s.nvSpace c b false with
    | .error e => s.nvEnd c q (sqeCid b) e
    | .ok n =>
      s.nvData c q b (16 * (sqeDw b 10 % 256 + 1)) fun s d =>
        let l := dsmRanges n.lba d
        if l.any fun r => n.size < r.1 + r.2 then s.nvEnd c q (sqeCid b) (nv 0 0x80)
        else if sqeDw b 11 / 4 % 2 = 0 ∨ l.all fun r => decide (r.2 = 0) then s.nvEnd c q (sqeCid b) 0
        else s.admitNv (nvCommand c q b [n.nsid] (l.filter fun r => r.2 ≠ 0))

/-- DATASET_MANAGEMENT (R334). -/
def execDatasetManagement (c q : Nat) (s : State) : Host.Outcome State Fault Refusal := .next (datasetManagementBody c q s)

/-- OVERLAP_RELEASE (R336): the oldest admitted command that may go now is handed over. -/
def overlapReleaseBody (s : State) : State :=
  match s.sto.cmds.find? fun c => s.mayHand c with
  | none => s
  | some c => (s.hand c).checkCmd c.id

def execOverlapRelease (s : State) : Host.Outcome State Fault Refusal := .next (overlapReleaseBody s)

/-! ## Drives (R337, R340 to R342) -/

/-- The data of a read part: decrypted and put in its place. -/
def State.readPart (s : State) (c : NvCmd) (p : NvPart) (bytes : Bytes) : Bytes :=
  match c.nsids.head?.bind (s.space c.tenant), c.ranges with
  | some n, (off, _) :: _ =>
    let pt := if p.drive < 256 then xtsData false ((s.nsKeys n).getD ([], [])) (p.off / n.lba) n.lba (slice bytes 0 p.len) else slice bytes 0 p.len
    c.data.take (p.off - off) ++ pt ++ c.data.drop (p.off - off + p.len)
  | _, _ => c.data

/-- A part of a command is done: its data, its failure, and what follows. -/
def State.partDone (s : State) (c : NvCmd) (p : NvPart) (failed : Nat) (bytes : Bytes) : State :=
  let d := if c.op = 2 ∧ failed = 0 then s.readPart c p bytes else c.data
  (s.modCmd c.id fun c =>
    { c with
      data := d, failed := if c.failed = 0 then failed else c.failed
      parts := c.parts.map fun x => if x.drive = p.drive ∧ x.tag = p.tag then { x with done := true } else x }).checkCmd c.id

/-- The outstanding part at a drive or target with a tag. -/
def State.partAt (s : State) (drive tag : Nat) : Option (NvCmd × NvPart) :=
  s.sto.cmds.findSome? fun c => (c.parts.find? fun p => decide (p.drive = drive ∧ p.tag = tag) && !p.done).map fun p => (c, p)

/-- DRIVE_COMPLETION (R337, R341): a completion no part waits for is discarded and counted; a failed one, and one that an uncorrectable error of the controller's SRAM meets (R93), ends its command with 0x30's status. -/
def driveCompletionBody (drive tag : Nat) (ok : Bool) (sram : Nat) (bytes : Bytes) (s : State) : State :=
  match s.partAt drive tag with
  | none =>
    if (s.sdrive drive).ready then
      (State.stoEvent { s with sto := { s.sto with lateCpl := satInc s.sto.lateCpl } } 2).lateDiscarded
    else s
  | some (c, p) =>
    if 256 ≤ drive then s
    else
      let s := (if ok then s else s.driveEvent drive 5).sramRead 6 sram
      s.partDone c p (if ok ∧ sram < 2 then 0 else nvOf 0x30 (c.op == 2)) bytes

def execDriveCompletion (drive tag : Nat) (ok : Bool) (sram : Nat) (bytes : Bytes) (s : State) : Host.Outcome State Fault Refusal :=
  .next (driveCompletionBody drive tag ok sram bytes s)

/-- DRIVE_TIMEOUT (R341): drive_timeout_ms wins over a command at a drive. -/
def driveTimeoutBody (drive tag : Nat) (s : State) : State :=
  match s.partAt drive tag with
  | none => s
  | some _ =>
    if 256 ≤ drive ∨ (s.sdrive drive).resetting then s
    else s.timeoutWon.driveTimeout drive

def execDriveTimeout (drive tag : Nat) (s : State) : Host.Outcome State Fault Refusal := .next (driveTimeoutBody drive tag s)

/-- DRIVE_RESET_DONE (R341). -/
def execDriveResetDone (drive : Nat) (s : State) : Host.Outcome State Fault Refusal :=
  .next (if (s.sdrive drive).resetting then s.driveBack drive else s)

/-- DRIVE_RESET_TIMEOUT (R341): the drive is lost. -/
def execDriveResetTimeout (drive : Nat) (s : State) : Host.Outcome State Fault Refusal :=
  .next (if (s.sdrive drive).resetting then s.loseDrive drive else s)

/-- DRIVE_LOST (R342): presence lost, or a link down for 100 ms. -/
def driveLostBody (drive : Nat) (presence : Bool) (s : State) : State :=
  if 4 ≤ drive then s
  else
    let s := if presence ∧ (s.sdrive drive).present then ((s.modDrive drive fun x => { x with present := false }).driveEvent drive 2).ddtUpdate else s
    if (s.sdrive drive).ready then s.loseDrive drive else s

def execDriveLost (drive : Nat) (presence : Bool) (s : State) : Host.Outcome State Fault Refusal := .next (driveLostBody drive presence s)

/-- A drive may be trained and enumerated. -/
def State.mayTrain (s : State) (drive : Nat) : Bool :=
  decide (drive < 4) && s.ioRuns && !s.asleep && s.boot.supervisor && !(s.sdrive drive).ready && !s.coreRestarting 1

/-- DRIVE_REINSERT (R340, R342): a drive is present and enumerated. -/
def driveReinsertBody (drive : Nat) (info : DriveInfo) (s : State) : State :=
  if ¬ s.mayTrain drive then s
  else
    let s := if (s.sdrive drive).present then s else (s.modDrive drive fun x => { x with present := true }).driveEvent drive 2
    s.enumerate drive info

def execDriveReinsert (drive : Nat) (info : DriveInfo) (s : State) : Host.Outcome State Fault Refusal := .next (driveReinsertBody drive info s)

/-- DRIVE_TRAIN_RETRY (R340): a training attempt that fails is counted; one that succeeds enumerates the drive. -/
def driveTrainRetryBody (drive : Nat) (info : Option DriveInfo) (s : State) : State :=
  if ¬ s.mayTrain drive ∨ ¬ (s.sdrive drive).present then s
  else
    match info with
    | some i => s.enumerate drive i
    | none => (s.modDrive drive fun x => { x with trainFails := satInc x.trainFails }).driveEvent drive 4

def execDriveTrainRetry (drive : Nat) (info : Option DriveInfo) (s : State) : Host.Outcome State Fault Refusal := .next (driveTrainRetryBody drive info s)

/-! ## Replicas (R343, R419) -/

/-- REPLICA_ACK (R343, R419): the answer of a remote replica; one that failed drops the replica, one whose timeout has won is discarded and counted (R68). -/
def replicaAckBody (target tag status : Nat) (bytes : Bytes) (s : State) : State :=
  match s.partAt (256 + target) tag with
  | none =>
    if s.sto.lateTags.contains (target, tag) then
      (State.stoEvent { s with sto := { s.sto with lateCpl := satInc s.sto.lateCpl, lateTags := s.sto.lateTags.filter (· ≠ (target, tag)) } } 2).lateDiscarded
    else s
  | some (c, p) => if status = 0 then s.partDone c p 0 bytes else s.dropReplica target

def execReplicaAck (target tag status : Nat) (bytes : Bytes) (s : State) : Host.Outcome State Fault Refusal := .next (replicaAckBody target tag status bytes s)

/-- REPLICA_TIMEOUT (R419): no answer within drive_timeout_ms counts as a failed replica. -/
def replicaTimeoutBody (target tag : Nat) (s : State) : State :=
  match s.partAt (256 + target) tag with
  | none => s
  | some _ => (s.timeoutWon.modSto fun t => { t with lateTags := t.lateTags ++ [(target, tag)] }).dropReplica target

def execReplicaTimeout (target tag : Nat) (s : State) : Host.Outcome State Fault Refusal := .next (replicaTimeoutBody target tag s)

/-- The answer to a peer that is not admitted. -/
def State.peerAnswer (s : State) (target tag status : Nat) : State := s.emit (.replica target (natLe tag 4 ++ natLe (status % 2048) 2))

/-- REPLICA_WRITE (R418, R419, R343): a peer's message over a kind 3 target: a write or a flush of the namespace it serves. -/
def replicaWriteBody (target : Nat) (message : Bytes) (s : State) : State :=
  match s.target target with
  | none => s
  | some e =>
    let op := fieldAt message 0 1
    let nsid := fieldAt message 4 4
    let tag := fieldAt message 20 4
    if fieldAt e 0 1 ≠ 3 ∨ ¬ s.rme.targets.contains target ∨ ¬ s.ioRuns then s
    else if nsid ≠ fieldAt e 4 4 then s.peerAnswer target tag (nv 0 0x0B)
    else
      match s.space (fieldAt e 1 1) nsid with
      | none => s.peerAnswer target tag (nv 0 0x0B)
      | some n =>
        let off := fieldAt message 8 8 * n.lba
        let len := fieldAt message 16 4 * n.lba
        if n.deleting.isSome then s.peerAnswer target tag (nv 0 0x0B)
        else if ¬ s.nsReady n then s.peerAnswer target tag nvNotReady
        else if op ≠ 1 ∧ op ≠ 2 then s.peerAnswer target tag (nv 0 0x02)
        else if op = 1 ∧ (n.size < off + len ∨ mib < len ∨ message.length ≠ 32 + len) then s.peerAnswer target tag (nv 0 0x80)
        else
          s.admitNv
            { id := 0, ctrl := 0, sq := 0, cid := 0, op := if op = 1 then 1 else 0, tenant := n.tenant, nsids := [nsid]
              ranges := if op = 1 then [(off, len)] else [], data := message.drop 32, peer := some (target, tag) }

def execReplicaWrite (target : Nat) (message : Bytes) (s : State) : Host.Outcome State Fault Refusal := .next (replicaWriteBody target message s)

/-- REPLICA_REBUILD_DONE (R343): the full copy of a dropped replica is complete. -/
def replicaRebuildDoneBody (tenant nsid target : Nat) (s : State) : State :=
  match s.space tenant nsid with
  | none => s
  | some n =>
    if n.dropped.contains target ∧ s.rme.targets.contains target ∧ s.drivesUp n then
      (s.modSpace tenant nsid fun n => { n with dropped := n.dropped.filter (· ≠ target), replicas := n.replicas ++ [target] }).stoEvent 1
    else s

def execReplicaRebuildDone (tenant nsid target : Nat) (s : State) : Host.Outcome State Fault Refusal := .next (replicaRebuildDoneBody tenant nsid target s)

/-! ## SERVICE namespace commands (R331, R332) -/

/-- Capacity of a tenant's namespaces that is in use; the replica namespace counts for none (R331). -/
def State.nsUse (s : State) (tenant : Nat) : Nat :=
  ((s.sto.spaces.filter fun n => decide (n.tenant = tenant ∧ n.nsid ≠ replicaNsid)).map (·.size)).sum

/-- ns_count_max of a tenant. -/
def State.nsMax (s : State) (tenant : Nat) : Nat := s.stoKey (0x120 + tenant) 16

/-- A remote target a tenant may name for a namespace (R418). -/
def State.targetFor (s : State) (tenant i : Nat) : Bool :=
  match s.target i with
  | some e => decide (fieldAt e 0 1 = 1 ∧ fieldAt e 1 1 = tenant)
  | none => false

/-- NS_CREATE (R331, R332). -/
def nsCreateBody (r : CmdRef) (s : State) : State :=
  s.runCmd r 5 0x30 [(0x10, 1), (0x11, 1), (0x12, 1), (0x13, 1), (0x18, 8), (0x20, 4), (0x24, 4)] fun c =>
    match s.tenantArg r.fn 0x10 c with
    | .error e => s.failAt r e.1 e.2
    | .ok t =>
      let size := c.fld 0x18 8
      let ts := ([c.fld 0x20 4, c.fld 0x24 4]).take (c.byte 0x13)
      if 1 < c.byte 0x11 then s.failAt r 0x10 0x11
      else if 1 < c.byte 0x12 then s.failAt r 0x10 0x12
      else if 2 < c.byte 0x13 then s.failAt r 0x10 0x13
      else if size = 0 ∨ size % mib ≠ 0 then s.failAt r 0x10 0x18
      else if s.sup.inhibit ∨ s.coreRestarting 1 then s
      else if ¬ (ts.all fun i => s.targetFor t i) then s.failAt r 0x11 0x20
      else
        match lowestFree ((s.sto.spaces.filter fun n => n.tenant = t).map (·.nsid)) 1 (s.nsMax t), s.layOut (c.byte 0x12 = 1) size with
        | some i, some at_ =>
          if s.stoKey (0x100 + t) 0 * 2 ^ 30 < s.nsUse t + size then s.finish r 0x13 0 0
          else ((s.addSpace t i (c.byte 0x11 = 0) (c.byte 0x12 = 1) size ts at_).nsChanged t i).finish r 0 i 0
        | _, _ => s.finish r 0x13 0 0

def execNsCreate (r : CmdRef) (s : State) : Host.Outcome State Fault Refusal := .next (nsCreateBody r s)

/-- The namespace a SERVICE command names (R332): one whose deletion has begun exists no more; while a format of it runs the command waits, a long one accepted (R5, R115). `bad` is what else is wrong in the body before the nsid. -/
def State.nsArg (s : State) (r : CmdRef) (c : Cmd) (long : Bool) (bad : Option (Nat × Nat)) (f : Namespace → State) : State :=
  let waits := if long then s.accept r else s
  match s.tenantArg r.fn 0x10 c, bad with
  | .error e, _ => s.failAt r e.1 e.2
  | .ok _, some e => s.failAt r e.1 e.2
  | .ok t, none =>
    match s.space t (c.fld 0x14 4) with
    | none => s.failAt r 0x11 0x14
    | some n =>
      if n.nsid = replicaNsid then s.failAt r 0x11 0x14
      else if n.deleting = some r ∨ n.format = some r then s
      else if n.deleting.isSome then s.failAt r 0x11 0x14
      else if n.format.isSome ∨ (s.sto.cmds.any fun x => decide (x.op = 0x80 ∧ x.tenant = t) && x.nsids.contains n.nsid) then waits
      else if s.sup.inhibit ∨ s.coreRestarting 1 then waits
      else f n

/-- NS_DELETE (R332). -/
def nsDeleteBody (r : CmdRef) (s : State) : State :=
  s.runCmd r 5 0x31 [(0x10, 1), (0x14, 4)] fun c =>
    s.nsArg r c false none fun n =>
      if n.tenant = 0 ∧ s.leh.policy.1 ≠ 0 ∧ s.leh.policy.2.2.1 = n.nsid then s.finish r 0x12 0 0
      else
        let s := s.modSpace n.tenant n.nsid fun n => { n with deleting := some r }
        s.stepSpace { n with deleting := some r }

def execNsDelete (r : CmdRef) (s : State) : Host.Outcome State Fault Refusal := .next (nsDeleteBody r s)

/-- NS_FORMAT (R332): accepted, then run once the admitted commands have finished. -/
def nsFormatBody (r : CmdRef) (s : State) : State :=
  s.runCmd r 5 0x32 [(0x10, 1), (0x11, 1), (0x14, 4)] fun c =>
    s.nsArg r c true (if 1 < c.byte 0x11 then some (0x10, 0x11) else none) fun n =>
      let g := fun (m : Namespace) => { m with formatting := true, format := some r, rekeyed := false, small := decide (c.byte 0x11 = 0) }
      ((s.accept r).modSpace n.tenant n.nsid g).stepSpace (g n)

def execNsFormat (r : CmdRef) (s : State) : Host.Outcome State Fault Refusal := .next (nsFormatBody r s)

/-! ## Registers (R349) -/

/-- Commands outstanding on a drive. -/
def Storage.inflight (t : Storage) (d : Nat) : Nat := (t.cmds.map fun c => (c.parts.filter fun p => p.drive = d && !p.done).length).sum

/-- Reads a register of the STO_ block. -/
def State.stoRead (s : State) (off : Nat) : Option Nat :=
  let t := s.sto
  if off < 0x1000 then
    match off with
    | 0x00 =>
      some (((seqFrom 0 4).map fun d => b2n (s.sdrive d).ready * 2 ^ d).sum +
        (t.spaces.filter fun n => !s.nsReady n).length * 16 + (t.spaces.filter fun n => n.dropped ≠ []).length * 65536)
    | 0x04 => some t.events.toNat
    | 0x08 => some t.overlapWaits
    | 0x0C => some t.lateCpl
    | 0x10 => some t.entryAborts
    | _ => none
  else if off / 0x1000 - 1 < 4 then
    let d := off / 0x1000 - 1
    let x := s.sdrive d
    match off % 0x1000 with
    | 0x00 => some (pack [(0, x.speed), (3, x.width), (6, b2n x.present), (7, b2n x.lost), (8, b2n x.resetting), (9, b2n x.dlfeat)])
    | 0x04 => some x.events.toNat
    | 0x08 => some (x.capacity % 2 ^ 32)
    | 0x0C => some (x.capacity / 2 ^ 32 % 2 ^ 32)
    | 0x10 => some x.timeouts
    | 0x14 => some x.trainFails
    | 0x18 => some (t.inflight d)
    | _ => none
  else none

/-- Writes a register of the STO_ block. -/
def State.stoWrite (s : State) (off : Nat) (v : W32) : State :=
  if off = 4 then s.modSto fun t => { t with events := w1c t.events v }
  else if off % 0x1000 = 4 ∧ off / 0x1000 - 1 < 4 then s.modDrive (off / 0x1000 - 1) fun x => { x with events := w1c x.events v }
  else s

end Sys2Proof.Machine
end

