-- ==== Sys2Proof/Machine/Accel.lean ====
section
/-! DEFINITION. The accelerator ports, their slots and the cohort links, and the APT_ registers (spec/10). -/

namespace Sys2Proof.Machine

open Sys2Proof

/-- A port event (APT_PORT_EVENTS). -/
def State.portEvent (s : State) (n i : Nat) : State := s.modPort n fun p => { p with events := latch p.events i }

/-- An event of the whole block (APT_EVENTS). -/
def State.aptEvent (s : State) (i : Nat) : State := { s with apt := { s.apt with events := latch s.apt.events i } }



/-- A root port (R272). -/
def State.rootPort (s : State) (n : Nat) : Bool := decide (n < 8) && !(s.port n).cohort

/-- A fault of a port, as an entry (R541, R556). -/
def State.portReport (s : State) (n bit severity status : Nat) : State :=
  s.report { source := 0x61, severity := severity, status := status, bit := bit, reg := 0x1000 * (n + 1) + 4, block := 6, d0 := (s.port n).events.toNat }

/-- An uncorrectable error in a root port's AER, which goes to the fault log too (R273). -/
def State.portAer (s : State) (n bit : Nat) : State :=
  let v := s.free % 2 ^ 128
  let p := s.port n
  let s := if p.aerUncorr &&& ~~~p.aerMask = 0#32 ∧ ¬ bitOf p.aerMask bit then
      (s.modPort n fun p => { p with aerFirst := bit, aerHeader := v }).tick else s
  (s.modPort n fun p => { p with aerUncorr := latch p.aerUncorr bit }).report
    { source := 0x61, severity := if bit = 14 then 2 else 0, block := 6, d0 := 2 ^ bit, d1 := n }

/-! ## Power of a slot (R281 to R283) -/

/-- Step 1 of R282. -/
def Port.powerOn (p : Port) : Port :=
  { p with slot := .powering, pwren := true, pwrLed := 2, ctrl := clrBit p.ctrl 0, pwrFault := false, poweringDown := false }

/-- A slot without power: reset asserted, clock and supply off. -/
def Port.powerOff (p : Port) : Port :=
  { p with
    slot := .off, pwren := false, perstLow := true, refclk := false, pwrLed := 3, ctrl := setBit p.ctrl 0, poweringDown := false, busy := false
    dl := false, speed := 0, width := 0, flit := false, aperture := 0, bars := [], enabled := false, window := false
    events := if p.dl then latch p.events 1 else p.events }

/-- The orderly power-down ends once no read of the port is outstanding (R283). -/
def State.offDone (s : State) (n : Nat) : State :=
  if (s.port n).poweringDown ∧ (s.port n).reads = [] then (s.modPort n Port.powerOff).ddtUpdate else s

/-- The orderly power-down begins: requests are refused from now on (R283). -/
def State.slotOff (s : State) (n : Nat) : State :=
  if (s.port n).slot = .off then s
  else
    (s.modPort n fun p => { p with poweringDown := true, busy := true, pwrLed := 2, ctrl := setBit p.ctrl 0 }).offDone n

/-- A write of a slot control field: ignored under the automatic policy, and in cohort link mode (R284, R298). -/
def State.slotWrite (s : State) (n : Nat) (f : State → State) : State :=
  if 8 ≤ n then s else if s.rootPort n ∧ bitOf (s.port n).ctrl 5 then f s else s.portEvent n 9

/-- Slots stay unpowered in a safe and in an unowned start (R52). -/
def State.slotsServed (s : State) : Bool := !s.boot.safe && !s.boot.unowned

/-- A slot that is off powers up: pwr_off written 0 under the manual policy, or core 1's own power-on (R282, R284). -/
def State.slotOnWrite (s : State) (n : Nat) : State :=
  if s.slotsServed ∧ (s.port n).slot = .off then (s.modPort n Port.powerOn).ddtUpdate else s

/-- pwr_off written 1 under the manual policy (R283, R285): a slot in FAULT leaves it. -/
def State.slotOffWrite (s : State) (n : Nat) : State :=
  if (s.port n).slot = .fault then (s.modPort n fun p => { p.powerOff with pwrFault := false }).ddtUpdate else s.slotOff n

/-- SLOT_POWER_ON (R282): pwr_off written 0, or `auto` core 1's power-on of a present slot (R284). -/
def execSlotPowerOn (port : Nat) (auto : Bool) (s : State) : Host.Outcome State Fault Refusal :=
  .next (
    if auto then
      if s.rootPort port ∧ (s.port port).present ∧ ¬ bitOf (s.port port).ctrl 5 ∧ s.boot.supervisor then s.slotOnWrite port else s
    else s.slotWrite port fun s => s.slotOnWrite port)

/-- SLOT_REFCLK_START (R282 step 3). -/
def execSlotRefclkStart (port : Nat) (s : State) : Host.Outcome State Fault Refusal :=
  .next (if s.rootPort port ∧ (s.port port).slot = .powering ∧ (s.port port).pwren then s.modPort port fun p => { p with refclk := true } else s)

/-- SLOT_PERST_RELEASE (R282 step 4). -/
def execSlotPerstRelease (port : Nat) (s : State) : Host.Outcome State Fault Refusal :=
  .next (if s.rootPort port ∧ (s.port port).slot = .powering ∧ (s.port port).refclk then s.modPort port fun p => { p with perstLow := false } else s)

/-- SLOT_POWER_OFF (R283): pwr_off written 1. -/
def execSlotPowerOff (port : Nat) (s : State) : Host.Outcome State Fault Refusal := .next (s.slotWrite port fun s => s.slotOffWrite port)

/-- atn_ind as a write sets it: 0 leaves it unchanged. -/
def State.attention (s : State) (n v : Nat) : State :=
  if v % 4 = 0 then s
  else s.modPort n fun p => { p with atnLed := v % 4, refusing := false, ctrl := w32 (p.ctrl.toNat - field p.ctrl 1 2 * 2 + v % 4 * 2) }

/-- pwr_ind as a write sets it. -/
def State.powerLed (s : State) (n v : Nat) : State :=
  if v % 4 = 0 then s
  else s.modPort n fun p => { p with pwrLed := v % 4, ctrl := w32 (p.ctrl.toNat - field p.ctrl 3 2 * 8 + v % 4 * 8) }

/-- ATTENTION_INDICATOR_SET (R281, R284). -/
def execAttentionIndicatorSet (port value : Nat) (s : State) : Host.Outcome State Fault Refusal :=
  .next (s.slotWrite port fun s => s.attention port value)

/-- POWER_INDICATOR_SET (R281, R284). -/
def execPowerIndicatorSet (port value : Nat) (s : State) : Host.Outcome State Fault Refusal :=
  .next (s.slotWrite port fun s => s.powerLed port value)

/-! ## Links (R274, R286, R289, R291) -/

/-- The aperture: the largest 64-bit prefetchable BAR of function 0, or none (R274). -/
def apertureOf (bars : List BarInfo) : Nat := bars.foldl (fun a b => if b.wide && b.prefetchable then max a b.size else a) 0

/-- DL_ACTIVE (R274, R282, R291): a root port's accelerator is enumerated, its BARs assigned and memory space and bus mastering enabled, and its slot is ON; a cohort link below 32 GT/s x4 stays down and is logged, and one whose ends report the same COHORT_ID stays down (R60). -/
def dlActiveBody (port speed width : Nat) (flit : Bool) (aperture : List BarInfo) (s : State) : State :=
  let p := s.port port
  if 8 ≤ port ∨ ¬ s.ioRuns ∨ ¬ s.boot.supervisor ∨ p.dl ∨ s.boot.conflicts.contains port then s
  else if p.cohort then
    if speed < 5 ∨ width < 4 then (s.modPort port fun p => { p with trainFails := satInc p.trainFails }).portEvent port 6 |>.portReport port 6 2 0
    else ((s.modPort port fun p => { p with dl := true, speed := speed, width := width, flit := true }).portEvent port 0).ddtUpdate
  else if (p.slot = .powering ∨ p.slot = .on) ∧ ¬ p.perstLow then
    ((s.modPort port fun p =>
      { p with dl := true, speed := speed, width := width, flit := flit || decide (speed = 6), slot := .on, pwrLed := 1, aperture := apertureOf aperture, bars := aperture, enabled := true }).portEvent port 0).ddtUpdate
  else s

def execDlActive (port speed width : Nat) (flit : Bool) (aperture : List BarInfo) (s : State) : Host.Outcome State Fault Refusal :=
  .next (dlActiveBody port speed width flit aperture s)

/-- LINK_TRAIN_RETRY (R289): an attempt that failed is counted; one that succeeds is the link becoming active. -/
def execLinkTrainRetry (port : Nat) (failed : Bool) (s : State) : Host.Outcome State Fault Refusal :=
  .next (
    let p := s.port port
    let due := (p.cohort || ((decide (p.slot = .on) || decide (p.slot = .powering)) && p.present)) && !p.dl && decide (port < 8) && s.boot.supervisor
    if due ∧ failed then ((s.modPort port fun p => { p with trainFails := satInc p.trainFails }).portEvent port 6).ddtUpdate else s)

/-- Ends every read outstanding on a port with a status; tags of a root port go to quarantine (R286, R293). -/
def endReads (n st : Nat) : List ExtRead → State → State
  | [], s => s
  | x :: r, s => endReads n st r (s.readFailed x st true)

/-- The port loses its link: requests are refused, outstanding reads end, writes not yet sent are discarded, its storage pairs are deleted, and a device whose job it serves withdraws (R286, R287). -/
def State.portLost (s : State) (n : Nat) : State :=
  let rs := (s.port n).reads
  let served := s.servesJob n
  let s := s.modMem fun m => { m with stalled := m.stalled.filter fun w => w.1 ≠ 8 * s.sup.straps.cohortId + n }
  let s := s.modPort n fun p =>
    { p with dl := false, speed := 0, width := 0, flit := false, enabled := false, reads := [], quarantine := p.quarantine ++ rs.map (·.tag)
             events := if p.dl then latch p.events 1 else p.events }
  let s := (endReads n 0x11 rs s).dropPairs n
  (if served then s.withdraw else s).ddtUpdate

/-- A surprise down (R286): counted and reported; once presence has fallen the slot powers down with its attention indicator lit. -/
def State.surprise (s : State) (n : Nat) : State :=
  let s := ((s.modPort n fun p => { p with surprises := satInc p.surprises }).portEvent n 7).portLost n
  let s := s.portReport n 7 2 0
  if (s.port n).present then s else s.modPort n fun p => { p.powerOff with atnLed := 1 }

/-- A slot that is ON and not powering down. -/
def Port.live (p : Port) : Bool := decide (p.slot = .on) && !p.poweringDown

/-- SURPRISE_DOWN (R286): Data Link Layer active is lost. -/
def execSurpriseDown (port : Nat) (s : State) : Host.Outcome State Fault Refusal :=
  .next (if s.rootPort port ∧ (s.port port).live ∧ (s.port port).dl then s.surprise port else s)

/-- PRESENCE_CHANGE (R281, R284 to R286). -/
def presenceBody (port : Nat) (present : Bool) (s : State) : State :=
  if 8 ≤ port ∨ (s.port port).present = present then s
  else
    let s := ((s.modPort port fun p => { p with present := present }).portEvent port 2).ddtUpdate
    let p := s.port port
    if p.cohort then s
    else if ¬ present ∧ p.live then s.surprise port
    else
      let auto := !bitOf p.ctrl 5
      let s := if p.slot = .fault ∧ auto then s.modPort port fun p => { p.powerOff with pwrFault := false } else s
      if present ∧ auto ∧ s.boot.supervisor then s.slotOnWrite port else s

def execPresenceChange (port : Nat) (present : Bool) (s : State) : Host.Outcome State Fault Refusal := .next (presenceBody port present s)

/-- POWER_FAULT (R285): APT_PWRFLT_N is low. PRESUMED (log 78): no command tells of its rise, and the pin is released once the slot leaves FAULT or powers up. -/
def powerFaultBody (port : Nat) (s : State) : State :=
  let p := s.port port
  if ¬ s.rootPort port then s
  else if p.slot ≠ .on ∧ p.slot ≠ .powering then s.modPort port fun p => { p with pwrFault := true }
  else
    let s := if p.live then ((s.modPort port fun p => { p with surprises := satInc p.surprises }).portEvent port 7).portLost port else s.portLost port
    ((s.modPort port fun p => { p.powerOff with slot := .fault, atnLed := 1, pwrFault := true }).portEvent port 3).portReport port 3 2 0

def execPowerFault (port : Nat) (s : State) : Host.Outcome State Fault Refusal := .next (powerFaultBody port s)

/-! ## The attention button (R284) -/

/-- ATTENTION_BUTTON (R284): the window starts or is cancelled; a press on a port that serves a RUNNING job is refused. -/
def buttonBody (port : Nat) (s : State) : State :=
  if ¬ s.rootPort port then s
  else
    let s := s.portEvent port 4
    let p := s.port port
    if bitOf p.ctrl 5 then s
    else if p.window then s.modPort port fun p => { p with window := false, pwrLed := if p.slot = .on then 1 else if p.slot = .powering then 2 else 3 }
    else if s.servesJob port then (s.modPort port fun p => { p with atnLed := 2, refusing := true }).portEvent port 8
    else s.modPort port fun p => { p with window := true, pwrLed := 2 }

def execAttentionButton (port : Nat) (s : State) : Host.Outcome State Fault Refusal := .next (buttonBody port s)

/-- BUTTON_WINDOW_END (R284): 5 s after a press; the blinking of a refused press ends too. -/
def windowEndBody (port : Nat) (s : State) : State :=
  let p := s.port port
  if p.refusing then s.modPort port fun p => { p with refusing := false, atnLed := field p.ctrl 1 2 }
  else if ¬ p.window then s
  else
    let s := s.modPort port fun p => { p with window := false, pwrLed := if p.slot = .fault then 3 else p.pwrLed }
    if p.slot = .on then s.slotOff port else if p.slot = .off then s.slotOnWrite port else s

def execButtonWindowEnd (port : Nat) (s : State) : Host.Outcome State Fault Refusal := .next (windowEndBody port s)

/-! ## Completions (R277) -/

/-- A tag of a port is no longer outstanding. -/
def State.freePortTag (s : State) (n tag : Nat) : State := s.modPort n fun p => { p with reads := p.reads.filter fun r => r.tag ≠ tag }

/-- PEER_COMPLETION (R277): it completes its read, is discarded as late, or, matching none, is unexpected. An unsuccessful one from an accelerator ends the read with 0x11; DEDUCED (log 79): from another member, whose memory R82 and R88 check, with the status that member found. -/
def peerCompletionBody (port tag status : Nat) (bytes : Bytes) (s : State) : State :=
  let p := s.port port
  if 8 ≤ port ∨ ¬ p.dl then s
  else
    match p.reads.find? fun r => r.tag = tag with
    | none =>
      if p.quarantine.contains tag then (State.aptEvent { s with apt := { s.apt with lateCpl := satInc s.apt.lateCpl } } 0).lateDiscarded
      else s.portAer port 16
    | some x =>
      if status ≠ 0 then
        ((s.freePortTag port tag).readFailed x (if p.cohort ∧ (status = 0x12 ∨ status = 0x30) then status else 0x11) true).offDone port
      else if bytes.length ≠ x.len then s.portAer port 16
      else ((s.freePortTag port tag).readArrived x bytes true).offDone port

def execPeerCompletion (port tag status : Nat) (bytes : Bytes) (s : State) : Host.Outcome State Fault Refusal :=
  .next (peerCompletionBody port tag status bytes s)

/-- PEER_COMPLETION_TIMEOUT (R277). -/
def peerTimeoutBody (port tag : Nat) (s : State) : State :=
  match (s.port port).reads.find? fun r => r.tag = tag with
  | none => s
  | some x =>
    let s := (s.freePortTag port tag).timeoutWon
    let s := (s.modPort port fun p => { p with quarantine := p.quarantine ++ [tag], cplTimeouts := satInc p.cplTimeouts }).portEvent port 5
    ((s.portAer port 14).readFailed x 0x20 true).offDone port

def execPeerCompletionTimeout (port tag : Nat) (s : State) : Host.Outcome State Fault Refusal := .next (peerTimeoutBody port tag s)

/-- PEER_TAG_QUARANTINE_END (R277). -/
def execPeerTagQuarantineEnd (port tag : Nat) (s : State) : Host.Outcome State Fault Refusal :=
  .next (if (s.port port).quarantine.contains tag then s.modPort port fun p => { p with quarantine := p.quarantine.filter (· ≠ tag) } else s)

/-! ## Inbound requests (R278 to R280) -/

/-- The intake window begins here (R278). -/
def intakeWindow : Nat := 0x700000000000
/-- The storage doorbell window begins here (R278). -/
def doorbellWindow : Nat := 0x710000000000



/-- A write into this member's region by contributor `c` (R279): a ring write, a token, or nothing. -/
def State.intakeWrite (s : State) (c off : Nat) (bytes : Bytes) : State :=
  if s.ann.state = .unconfigured ∨ s.ann.mask / 2 ^ c % 2 = 0 then s.unclaimed
  else if off < 2 ^ 37 then
    if s.ann.depth * s.ann.slot < off + bytes.length then s.unclaimed
    else
      match s.fab.writeDev 0 (s.ann.ringAt c + off) bytes with
      | .ok (f, _) => { s with fab := f }
      | .error _ => s.unclaimed
  else if off = 2 ^ 37 ∧ bytes.length = 16 then tokenBody c bytes s
  else s.unclaimed



/-- A fault entry of a member enters the lead's log with its member field set (R541 stage 5). -/
def State.memberFault (s : State) (m : Nat) (b : Bytes) : State :=
  s.appendEntry (recordBytes (fieldAt b 2 2) (fieldAt b 4 2) (fieldAt b 6 2) (fieldAt b 8 4) (fieldAt b 16 8)
    (setNth (b.drop 24) 1 (BitVec.ofNat 8 m))) (fieldAt b 24 1)

/-- Another member's access to a tenant's device memory (R82, R88, R292): a write is posted, and a read is answered with a status and its data. -/
def State.memberAccess (s : State) (m tenant tag off : Nat) (read : Bool) (bytes : Bytes) : State :=
  if read then
    let n := min (fieldAt bytes 0 4) 4096
    match s.fab.readDev tenant off n with
    | .ok b => s.emit (.cohortMsg m 0x18 (natLe tag 2 ++ natLe 0 1 ++ b))
    | .error e => (if e = 0x30 then s.memFault tenant off n false else s).emit (.cohortMsg m 0x18 (natLe tag 2 ++ natLe e 1))
  else
    match s.fab.writeDev tenant off bytes with
    | .ok (f, _) => { s with fab := f }
    | .error e => if e = 0x30 then s.memFault tenant off bytes.length true else s

/-- INBOUND_WRITE (R278 to R280, R292, R294, R296): a request of the accelerator on a port, or one that arrives over a cohort link. DESIGN CHOICE (log 92): the spec gives the cohort protocol no encodings; the message codes and layouts are the model's. -/
def inboundBody (origin : Inbound) (port addr : Nat) (read : Bool) (bytes : Bytes) (s : State) : State :=
  let own := s.sup.straps.cohortId
  match origin with
  | .forwarded m =>
    if m = own ∨ 4 ≤ m ∨ 8 ≤ port ∨ ¬ s.apt.present.contains m ∨ read then s
    else s.workWake.intakeWrite (8 * m + port) ((addr - intakeWindow) % 2 ^ 38) bytes
  | .transit m dest code =>
    if own ≠ 0 ∨ m = 0 ∨ dest = 0 ∨ m = dest ∨ ¬ s.apt.present.contains m then s
    else if ¬ s.apt.present.contains dest ∨ (s.route dest).isNone then s.forwardLost
    else s.emit (.cohortMsg dest code bytes)
  | .group m reports =>
    if m = own ∨ 8 ≤ port ∨ ¬ s.apt.present.contains m ∨ read then s else s.workWake.toAccel (8 * own + port) addr bytes reports
  | .hostAccess m reports tag =>
    if ¬ s.windowOpen (15 + m) then s
    else if read then s.carriedRead ⟨m, tag, addr % 2 ^ 57, fieldAt bytes 0 4⟩
    else if (s.hostFn 0).bme ∧ ¬ (s.hostFn 0).d3 then s.hostWrites 0 (addr % 2 ^ 57) bytes reports
    else s
  | .fault m => if own ≠ 0 ∨ m = 0 ∨ read ∨ bytes.length ≠ 64 ∨ ¬ s.apt.present.contains m then s else s.memberFault m bytes
  | .memory m tenant tag =>
    if m = own ∨ 16 ≤ tenant ∨ ¬ s.apt.present.contains m then s else s.workWake.memberAccess m tenant tag (addr % 2 ^ 48) read bytes
  | .accelerator =>
    if ¬ (s.rootPort port ∧ (s.port port).linked) then s
    else if read then s.emit (.accelCpl port 1 [])
    else if intakeWindow ≤ addr ∧ addr < intakeWindow + 2 ^ 40 then
      let t := (addr - intakeWindow) / 2 ^ 38
      if t = own then s.workWake.intakeWrite (8 * own + port) ((addr - intakeWindow) % 2 ^ 38) bytes
      else if ¬ s.apt.present.contains t then s.unclaimed
      else if (s.route t).isNone then s.forwardLost
      else s.emit (.cohortMsg t 0x11 (natLe port 1 ++ natLe addr 8 ++ bytes))
    else if doorbellWindow ≤ addr ∧ addr < doorbellWindow + 0x10000 then s.pairDoorbell port (addr - doorbellWindow) bytes
    else s.unclaimed

def execInboundWrite (origin : Inbound) (port addr : Nat) (read : Bool) (bytes : Bytes) (s : State) : Host.Outcome State Fault Refusal :=
  .next (inboundBody origin port addr read bytes s)

/-! ## Cohort links (R292, R293, R297) -/

/-- Members with no route left are no longer reachable. -/
def State.unreachable (s : State) : State :=
  let keep := s.apt.present.filter fun m => (s.route m).isSome
  if keep.length = s.apt.present.length then s else (State.aptEvent { s with apt := { s.apt with present := keep } } 3).ddtUpdate

/-- COHORT_LINK_DOWN (R293): what was outstanding on the link is lost and its commands end with 0x40, routes move, and the partner becomes suspect. -/
def cohortDownBody (port : Nat) (s : State) : State :=
  let p := s.port port
  if 8 ≤ port ∨ ¬ p.cohort ∨ ¬ p.dl then s
  else
    let s := (s.modPort port fun p => { p with dl := false, speed := 0, width := 0, flit := false, reads := [] }).portEvent port 1
    let s := p.reads.foldl (fun s _ => s.forwardLost) s
    let s := (endReads port 0x40 p.reads s).ddtUpdate
    let s := s.portReport port 1 2 0
    match p.partner with
    | some m => (s.suspectMember m).unreachable
    | none => s.unreachable

def execCohortLinkDown (port : Nat) (s : State) : Host.Outcome State Fault Refusal := .next (cohortDownBody port s)

/-! ## Registers (R298) -/

/-- APT_PORT_STATUS.slot_state. -/
def SlotState.code : SlotState → Nat
  | .off => 0
  | .powering => 1
  | .on => 2
  | .fault => 3

/-- Reads an APT_ register. -/
def State.aptRead (s : State) (off : Nat) : Option Nat :=
  let all := fun (f : Port → Bool) => ((seqFrom 0 8).map fun n => b2n (f (s.port n)) * 2 ^ n).sum
  if off < 0x1000 then
    match off with
    | 0x00 => some (pack [(0, all (·.dl)), (8, all (·.cohort)), (16, all fun p => decide (p.slot = .on))])
    | 0x04 => some s.apt.events.toNat
    | 0x08 =>
      let own := s.sup.straps.cohortId
      some (pack [(0, own), (2, b2n (own == 0)), (3, b2n s.apt.formed), (4, (s.apt.present.map fun m => 2 ^ m).sum),
        (8, all fun p => p.cohort && p.dl)])
    | 0x0C => some s.apt.lateCpl
    | 0x10 => some s.apt.unclaimed
    | 0x14 => some s.apt.forwardLost
    | _ => none
  else
    let n := off / 0x1000 - 1
    let p := s.port n
    if 8 ≤ n then none
    else
      match off % 0x1000 with
      | 0x00 => some (pack [(0, p.speed), (3, p.width), (8, b2n p.dl), (9, b2n p.flit), (10, b2n p.cohort), (11, b2n (s.servesJob n)), (12, p.slot.code)])
      | 0x04 => some p.events.toNat
      | 0x08 => some p.ctrl.toNat
      | 0x0C => some (pack [(0, b2n p.present), (1, b2n p.pwrFault), (2, b2n p.window), (3, b2n p.busy)])
      | 0x10 => some (p.aperture % 2 ^ 32)
      | 0x14 => some (p.aperture / 2 ^ 32 % 2 ^ 32)
      | 0x18 => some (pack [(0, p.reads.length), (16, p.quarantine.length)])
      | 0x1C => some p.trainFails
      | 0x20 => some p.cplTimeouts
      | 0x24 => some p.surprises
      | _ => none

/-- A write of APT_SLOT_CTRL (R281, R284): the policy bit is taken first, then the fields under it, which the automatic policy ignores. DEDUCED (log 93): a write of the register writes all its fields, so each one under the automatic policy sets ctrl_ignored. -/
def State.slotCtrlWrite (s : State) (n : Nat) (v : W32) : State :=
  if ¬ s.rootPort n then s.portEvent n 9
  else
    let s := s.modPort n fun p => { p with ctrl := if bitOf v 5 then setBit p.ctrl 5 else clrBit p.ctrl 5 }
    if ¬ bitOf v 5 then s.portEvent n 9
    else
      let s := (s.attention n (field v 1 2)).powerLed n (field v 3 2)
      if bitOf v 0 then s.slotOffWrite n else s.slotOnWrite n

/-- Writes an APT_ register; the answer says whether the offset takes writes (R298, R310). -/
def State.aptWrite (s : State) (off : Nat) (v : W32) : State × Bool :=
  let n := off / 0x1000 - 1
  if off = 4 then ({ s with apt := { s.apt with events := w1c s.apt.events v } }, true)
  else if off < 0x1000 ∨ 8 ≤ n then (s, false)
  else if off % 0x1000 = 4 then (s.modPort n fun p => { p with events := w1c p.events v }, true)
  else if off % 0x1000 = 8 then (s.slotCtrlWrite n v, true)
  else (s, false)

end Sys2Proof.Machine
end

