-- ==== Sys2Proof/Machine/Lehr.lean ====
section
/-! DEFINITION. Lehr's commands and events: epochs, copies, segments, commit and onward legs (spec/08 R214 to R234, R239, R240), and the LHR_ registers of R244. -/

namespace Sys2Proof.Machine

open Sys2Proof

/-! ## Announcing (R216, R217) -/

/-- A timer or command cause is due: its epoch step is the present step plus 2. -/
def State.causeDue (s : State) : State :=
  s.modLeh fun l => { l with dueAt := if s.ann.state = .running ∧ l.dueAt.isNone then some (s.ann.step + 2) else l.dueAt }

/-- EPOCH_TIMER_DUE (R216). -/
def timerDueBody (s : State) : State :=
  if ¬ s.isRecorder ∨ s.epochTimer = 0 then s
  else (s.causeDue.modLeh fun l => { l with timerDue := true }).maybeAnnounce

def execEpochTimerDue (s : State) : Host.Outcome State Fault Refusal := .next (timerDueBody s)

/-- EPOCH_ANNOUNCE (R217); one that comes before the epoch before has ended here waits, with the TAKEs it attaches. -/
def announceBody (num step : Nat) (nonce : Bytes) (s : State) : State :=
  if ¬ s.mem.joined ∨ s.isRecorder ∨ num ≤ s.leh.lastEpoch then s
  else if s.leh.cur.isSome then (s.attached num).modLeh fun l => { l with nextAnn := some (s.leh.announced num step nonce) }
  else s.takeAnnouncement num step nonce

/-- ANNOUNCE_ACK (R217): of a tree child, or of rank 0 for the whole membership at the recorder. -/
def announceAckBody (src num : Nat) (s : State) : State :=
  match s.leh.cur with
  | some e =>
    if e.num ≠ num then s.modLeh fun l => { l with earlyAcks := l.earlyAcks ++ [(num, src)] }
    else
      let s :=
        if (treeKids 16 s.jobN s.jobRank).contains src then (s.modEpoch fun e => { e with acks := e.acks ++ [src] }).ackProgress
        else if src = 0 ∧ s.isRecorder then s.modEpoch fun e => { e with ackAll := true }
        else s
      s.scalarsStep
  | none => if s.leh.lastEpoch < num then s.modLeh fun l => { l with earlyAcks := l.earlyAcks ++ [(num, src)] } else s

/-! ## Copies (R91, R219 to R221) -/

/-- Panes of the scope as the epoch in flight froze it (R222). -/
def State.frozenPanes (s : State) : Nat := match s.leh.cur with | some e => e.panes | none => s.scopePanes

/-- Scope panes in the order Lehr copies them (R219): the control pane, the panes of layer groups in ascending id, the rest. -/
def State.copyOrder (s : State) : List Nat :=
  let ofGroup := fun (g : Group) => (s.unitGroups g).flatMap s.panesOfGroup
  ([0] ++ s.ann.groups.flatMap (fun (g : Nat × Group) => ofGroup g.2) ++ seqFrom 0 s.frozenPanes).eraseDups

/-- The pane its controller's copy serves next: the oldest priority request, else the first armed pane in copy order. -/
def State.nextCopy (s : State) (ctrl : Nat) : Option Nat :=
  match s.fab.copyReq.find? fun p => decide (p / 2 ^ 20 = ctrl) && s.fab.armed p with
  | some p => some p
  | none => (s.copyOrder.filterMap s.scopePhys).find? fun p => decide (p / 2 ^ 20 = ctrl) && s.fab.armed p

/-- Maps a parison pane where it is not mapped yet. -/
def State.parisonSlot (s : State) (j : Nat) : Option State := State.mapPanes 0 parisonOwner true false (parisonAt j) 0 1 s

/-- A copy read of a pane meets an uncorrectable error, which its controller counts (R88). -/
def State.paneFault (s : State) (p : Nat) : State :=
  match (seqFrom 0 s.frozenPanes).find? fun i => s.scopePhys i = some p with
  | some i => s.memFault 0 (scopeBase + i * paneBytes) paneBytes false
  | none => s

/-- A read of the parison copies of scope panes meets an uncorrectable error, which its controller counts (R88). -/
def State.parisonFault (s : State) (l : List Nat) : State :=
  match s.leh.cur with
  | none => s
  | some e =>
    match (e.copies.filter fun c => l.contains c.1).find? fun c => match s.fab.readDev 0 (parisonAt c.2) paneBytes with | .ok _ => false | .error _ => true with
    | some c => s.memFault 0 (parisonAt c.2) paneBytes false
    | none => s

/-- No parison pane is free: the copy of a pane waits, and with it every write held on the pane, now or until it is copied (R221). -/
def Fabric.starve (f : Fabric) (p : Nat) : Fabric :=
  if f.starved.contains p then f
  else { f with starved := f.starved ++ [p], parisonWaits := satAdd f.parisonWaits (f.heldAt p), parisonFull := f.parisonFull || decide (f.heldAt p ≠ 0) }

/-- No parison pane is free: the copy of pane `p` waits, and so do the priority copies already asked for and those that held writes ask for until a pane is freed (R221). -/
def State.parisonFull (s : State) (p : Nat) : State :=
  { s with fab := { (p :: s.fab.copyReq).foldl Fabric.starve s.fab with parisonShort := true } }

/-- PANE_COPY_DONE (R91, R219 to R221): the pane is read, written to the parison area with the exempt tag, and released. `stallNs` is the longest stall of a write on it, `waitUs` the sum of the waits of its writes on the parison area. An uncorrectable error of the bitmaps' SRAM fails the epoch (R93). -/
def copyDoneBody (p stallNs waitUs sram : Nat) (s : State) : State :=
  match s.leh.cur with
  | none => s
  | some e =>
    if (e.state ≠ 2 ∧ e.state ≠ 3) ∨ s.nextCopy (p / 2 ^ 20) ≠ some p then s
    else if 2 ≤ sram then (s.cause 0x30).nextEpoch
    else if s.fab.badIn (p * paneBytes) paneBytes then ((s.paneFault p).cause 0x30).nextEpoch
    else
      let s := s.sramRead 5 sram
      match (seqFrom 0 e.panes).find? fun i => s.scopePhys i = some p, lowestFree s.leh.slotsUsed 0 s.parisonPanes with
      | some i, some j =>
        match s.parisonSlot j with
        | none => s.parisonFull p
        | some t =>
          match t.fab.pane? 0 (parisonAt j) with
          | none => s
          | some q =>
            let t := { t with fab := t.fab.writeNow (q.phys * paneBytes) (Mem.read 0 t.fab.hbm (p * paneBytes) paneBytes) }
            let t := t.modLeh fun l =>
              { l with
                stallMax := if t.fab.stalls p then max l.stallMax (min stallNs 4294967295) else l.stallMax
                parisonUs := if t.fab.starved.contains p ∧ t.fab.heldAt p ≠ 0 then satAdd l.parisonUs waitUs else l.parisonUs }
            ((t.modEpoch fun e => { e with copies := e.copies ++ [(i, j)] }).releasePane p).rmePump
      | _, _ => s.parisonFull p

def execPaneCopyDone (pane stallNs waitUs sram : Nat) (s : State) : Host.Outcome State Fault Refusal := .next (copyDoneBody pane stallNs waitUs sram s)

/-! ## Segments (R222 to R227) -/

/-- The segment of the epoch in flight from its parison copies; none while a copy is missing. -/
def State.stageSegment (s : State) (e : Epoch) (i : Nat) : Except Nat (Option (Bytes × Bytes)) :=
  match s.parisonPanesOf (segPanes e.panes i), s.epochKey e.nonce with
  | .error st, _ => .error st
  | .ok (some bs), some key => .ok (some (bs, sealSegment key e.num s.jobRank i (segCount e.panes) bs))
  | _, _ => .ok none

/-- SEGMENT_STAGE (R230): the next segment in index order is staged, digested, encrypted and sent to every buddy and onward leg; one that an uncorrectable error of the staging SRAM fails is drained again (R93). -/
def stageBody (sram : Nat) (s : State) : State :=
  match s.leh.cur with
  | none => s
  | some e =>
    let i := e.digests.length
    if (e.state ≠ 2 ∧ e.state ≠ 3) ∨ segCount e.panes ≤ i ∨ 2 ≤ sram then s
    else
      let s := s.sramRead 5 sram
      match s.stageSegment e i with
      | .error st => ((s.parisonFault (segPanes e.panes i)).cause st).nextEpoch
      | .ok none => s
      | .ok (some (bs, seg)) =>
        let s := s.modEpoch fun e => { e with state := 3, digests := e.digests.put i (sha256 bs) }
        let s := s.buddies.foldl (fun s b => s.tell b msgSegment seg) s
        e.legs.foldl (fun s g =>
          let s := if i = 0 ∧ g.kind = 3 then s.writeLeg e.num 0 (areaHeader e.num 1 0 0) .header else s
          s.legWrite e.num g (segOffset i) seg (.seg i)) s

def execSegmentStage (sram : Nat) (s : State) : Host.Outcome State Fault Refusal := .next (stageBody sram s)

/-- A failed check is counted (R226, R236). -/
def State.integrityFail (s : State) : State := (s.modLeh fun l => { l with integrity := satInc l.integrity }).lehEvent 4

/-- A segment of the epoch in flight from a rank this buddy serves: checked, stored and acknowledged, or refused. -/
def State.takeSegment (s : State) (src : Nat) (bytes : Bytes) : State :=
  let num := fieldAt bytes 8 8
  let i := fieldAt bytes 0x14 4
  match s.leh.cur with
  | none => s
  | some e =>
    if e.num ≠ num ∨ ¬ s.servedRanks.contains src then s
    else
      let good : Bool := match s.epochKey e.nonce with
        | some key => decide (fieldAt bytes 0x10 4 = src) && (openSegment key bytes).isSome
        | none => false
      let s := s.integrityOf src good
      if good then
        match s.storeSegment src num i bytes with
        | none => (s.cause 0x92).nextEpoch
        | some s => s
      else s.integrityFail.tell src msgSegmentRefused (natLe num 8 ++ natLe i 4)

/-- A segment's epoch has not been taken up here: its announcement is still to come, or waits (R217). -/
def Lehr.early (l : Lehr) (num : Nat) : Bool := decide (l.lastEpoch < num) || l.nextAnn.any fun e => decide (e.num = num)

/-- The segments that waited for the epoch now in flight are taken; what waits for no epoch any more goes. -/
def State.takeEarly (s : State) : State :=
  let l := s.leh.earlySegs
  if l = [] then s
  else
    let due := l.filter fun x => s.leh.cur.any fun e => decide (e.num = fieldAt x.2 8 8)
    let s := s.modLeh fun l => { l with earlySegs := l.earlySegs.filter fun x => l.early (fieldAt x.2 8 8) }
    due.foldl (fun s x => s.takeSegment x.1 x.2) s

/-- SEGMENT_RECEIVE (R226): a segment of the epoch in flight is taken; one that comes before its epoch is taken up here, as when a stopped job flips on acknowledging, waits for it. -/
def receiveBody (src : Nat) (bytes : Bytes) (s : State) : State :=
  let s := s.takeEarly
  if s.servedRanks.contains src ∧ s.leh.early (fieldAt bytes 8 8) then s.modLeh fun l => { l with earlySegs := l.earlySegs ++ [(src, bytes)] }
  else s.takeSegment src bytes

def execSegmentReceive (gen src : Nat) (bytes : Bytes) (s : State) : Host.Outcome State Fault Refusal := .next (s.memberHeard gen (receiveBody src bytes))

/-- EPOCH_ANNOUNCE (R217). -/
def execEpochAnnounce (gen epoch step : Nat) (nonce : Bytes) (s : State) : Host.Outcome State Fault Refusal :=
  .next (s.memberHeard gen fun s => (announceBody epoch step nonce s).takeEarly)

/-- ANNOUNCE_ACK (R217). -/
def execAnnounceAck (gen src epoch : Nat) (s : State) : Host.Outcome State Fault Refusal :=
  .next (s.memberHeard gen fun s => (announceAckBody src epoch s).takeEarly)

/-! ## Reports and commit (R229 to R234) -/

/-- The recorder has every report: the manifest is built, signed, stored as PENDING and sent to the standby (R230). -/
def State.tryCommit (s : State) : State :=
  match s.leh.cur with
  | none => s
  | some e =>
    if e.pending.isSome ∨ e.state < 2 ∨ ¬ (seqFrom 0 (tableN e.table)).all fun r => (e.reports.find? r).isSome then s
    else
      let m := s.buildManifest e
      (s.modEpoch fun e => { e with pending := some m }).tell s.mem.standby msgManifest m

/-- A shard report reaches the recorder's epoch record (R231). -/
def State.takeReport (s : State) (epoch rank : Nat) (r : ShardReport) : State :=
  match s.leh.cur with
  | none => s
  | some e =>
    if ¬ s.isRecorder ∨ e.num ≠ epoch ∨ e.pending.isSome ∨ s.jobN ≤ rank then s
    else (s.modEpoch fun e => { e with reports := e.reports.put rank r }).tryCommit

/-- Every segment is acknowledged by every buddy: the shard report goes to the recorder (R229). -/
def State.reportShard (s : State) : State :=
  match s.leh.cur with
  | none => s
  | some e =>
    let n := segCount e.panes
    if e.state ≠ 3 ∨ ¬ (seqFrom 0 n).all fun i => s.buddies.all fun b => e.acked.contains (i, b) then s
    else
      let rep : ShardReport :=
        { segments := n, scope := e.panes * paneBytes, first := s.myRange.1, count := s.myRange.2 - s.myRange.1, digest := shardDigest e.digests
          buddies := s.buddies.map fun b => (b, e.kinds.getD b 1), legs := e.started }
      let s := s.modEpoch fun e => { e with state := 4 }
      if s.isRecorder then s.takeReport e.num s.jobRank rep else s.tell s.mem.recorder msgReport (rep.bytes e.num s.jobRank)

/-- SEGMENT_ACK (R226, R229). -/
def segAckBody (buddy epoch seg kind : Nat) (s : State) : State :=
  match s.leh.cur with
  | none => s
  | some e =>
    if e.num ≠ epoch ∨ e.state ≠ 3 ∨ ¬ s.buddies.contains buddy ∨ (e.digests.find? seg).isNone ∨ e.acked.contains (seg, buddy) then s
    else
      (s.modEpoch fun e =>
        { e with acked := e.acked ++ [(seg, buddy)], kinds := e.kinds.put buddy (if kind = 2 then 2 else 1) }).freeParison.reportShard

def execSegmentAck (gen buddy epoch seg kind : Nat) (s : State) : Host.Outcome State Fault Refusal :=
  .next (s.memberHeard gen (segAckBody buddy epoch seg kind))

/-- SEGMENT_REFUSED (R226): sent again up to three times; the fourth refusal is a discard cause, 0x31. -/
def refusedBody (buddy epoch seg : Nat) (s : State) : State :=
  match s.leh.cur with
  | none => s
  | some e =>
    if e.num ≠ epoch ∨ e.state ≠ 3 ∨ ¬ s.buddies.contains buddy ∨ (e.digests.find? seg).isNone ∨ e.acked.contains (seg, buddy) then s
    else if 3 ≤ (e.refusals.filter fun x => x = (seg, buddy)).length then (s.cause 0x31).nextEpoch
    else
      match s.stageSegment e seg with
      | .error st => ((s.parisonFault (segPanes e.panes seg)).cause st).nextEpoch
      | .ok none => s
      | .ok (some (_, b)) => (s.modEpoch fun e => { e with refusals := e.refusals ++ [(seg, buddy)] }).tell buddy msgSegment b

def execSegmentRefused (gen buddy epoch seg : Nat) (s : State) : Host.Outcome State Fault Refusal := .next (s.memberHeard gen (refusedBody buddy epoch seg))

/-- SHARD_REPORT (R231). -/
def execShardReport (gen epoch rank segments scope first count : Nat) (digest : Bytes) (buddies legs : List (Nat × Nat)) (s : State) :
    Host.Outcome State Fault Refusal :=
  .next (s.memberHeard gen fun s => s.takeReport epoch rank ⟨segments, scope, first, count, digest, buddies, legs⟩)

/-- MANIFEST_STORE (R230, R440): the standby checks the signature under a signer key that the certificates it keeps vouch for, stores the manifest as COMMITTED and acknowledges: the commit point. Storing it again changes nothing (R231). -/
def manifestStoreBody (manifest : Bytes) (s : State) : State :=
  let num := Manifest.epoch manifest
  if ¬ s.isStandby ∨ ¬ s.vouched s.mem.certs manifest then s
  else
    let s :=
      if s.leh.held.any fun c => c.num = num then s
      else (s.modLeh fun l => { l with held := ({ num := num, step := Manifest.step manifest, manifest := manifest } :: l.held).take 3 }).ddtUpdate
    s.tell s.mem.recorder msgManifestAck (natLe num 8)

def execManifestStore (gen : Nat) (manifest : Bytes) (s : State) : Host.Outcome State Fault Refusal := .next (s.memberHeard gen (manifestStoreBody manifest))

/-- DISCARD (R231, R232): at the recorder a member's cause, elsewhere the recorder's order, also for an announced epoch that still waits to be taken up. -/
def discardBody (epoch cause : Nat) (s : State) : State :=
  match s.leh.cur, s.leh.nextAnn with
  | some e, a =>
    if e.num = epoch then (if s.isRecorder then s.cause cause else s.discardLocal cause).nextEpoch
    else match a with
      | some x => if x.num = epoch then (s.modLeh fun l => { l with nextAnn := none }).noteDiscard x cause else s
      | none => s
  | none, _ => s

def execDiscard (gen epoch cause : Nat) (s : State) : Host.Outcome State Fault Refusal :=
  .next (s.memberHeard gen fun s => (discardBody epoch cause s).takeEarly)

/-! ## Onward legs (R227) -/

/-- ONWARD_LEG_DONE (R221, R227): a remote leg has written segment `seg`; without one, all its segments and, after the commit, the manifest; or a leg has failed. What a drive leg has written the drives' completions say (log 72). -/
def legDoneBody (epoch kind : Nat) (seg : Option Nat) (ok : Bool) (s : State) : State :=
  match s.leh.leg? epoch kind with
  | none => s
  | some g =>
    if ¬ ok then s.legFails epoch g
    else if kind = 3 then s
    else
      match seg with
      | some i => if i < g.segs ∧ ¬ g.written.contains i then s.modLegs epoch kind fun g => some { g with written := g.written ++ [i] } else s
      | none =>
        if s.leh.cur.any fun e => e.num = epoch then s.modLegs epoch kind fun g => some { g with written := seqFrom 0 g.segs }
        else s.modLegs epoch kind fun _ => none

def execOnwardLegDone (epoch kind : Nat) (seg : Option Nat) (ok : Bool) (s : State) : Host.Outcome State Fault Refusal :=
  .next (legDoneBody epoch kind seg ok s)

/-! ## Commands (R239, R240) -/

/-- The reserved bits of take_flags are 0 (R239). -/
def State.legFlags (s : State) (r : CmdRef) (f : Cmd → State) (c : Cmd) : State := if 4 ≤ c.byte 0x20 then s.failAt r 0x10 0x20 else f c

/-- Runs one mode's meaning of a CHECKPOINT command; an unknown mode fails at 0x10, and reserved bytes or flag bits where they lie. -/
def State.checkpoint (s : State) (r : CmdRef) (mode : Nat) (f : Cmd → State) : State :=
  match s.cmd? r with
  | none => s
  | some c =>
    if (s.queue r.fn r.q).engine = 3 ∧ c.opcode = 1 ∧ ¬ c.accepted then
      if c.byte 0x10 ≠ 1 ∧ c.byte 0x10 ≠ 2 then s.failAt r 0x10 0x10
      else if c.byte 0x10 ≠ mode then s
      else match rsvBad c.bytes [(0x10, 1), (0x12, 2), (0x14, 2), (0x18, 4), (0x1C, 4), (0x20, 1)] with
      | some i => s.rsvFail r c (s.legFlags r f) i
      | none => s.legFlags r f c
    else s

/-- TAKE (R216, R239): of a command of this member, or at the recorder one that another member forwards. -/
def takeBody (ref : Option CmdRef) (s : State) : State :=
  match ref with
  | none => if s.isRecorder then (s.unfence.causeDue.modLeh fun l => { l with takeDue := true }).maybeAnnounce else s
  | some r =>
    s.checkpoint r 1 fun c =>
      if s.ann.state ≠ .running ∧ s.ann.state ≠ .stopped then s.finish r 0x90 0 0
      else
        let s := (s.accept r).modLeh fun l => { l with takes := l.takes ++ [r], takeFlags := l.takeFlags ||| c.byte 0x20 }
        if s.isRecorder then s.causeDue.maybeAnnounce else s.tell s.mem.recorder msgTake []

def execTake (ref : Option CmdRef) (s : State) : Host.Outcome State Fault Refusal := .next (takeBody ref s)

/-- Segments of the epoch in flight that every buddy has acknowledged. -/
def State.segsAcked (s : State) : Nat :=
  match s.leh.cur with
  | some e => ((seqFrom 0 (segCount e.panes)).filter fun i => s.buddies ≠ [] ∧ s.buddies.all fun b => e.acked.contains (i, b)).length
  | none => 0

/-- Segments of the shard, as the epoch in flight froze it; none without a job. -/
def State.segsOfShard (s : State) : Nat :=
  match s.leh.cur with
  | some e => segCount (if e.state < 2 then s.scopePanes else e.panes)
  | none => if s.ann.shard = [] then 0 else segCount s.scopePanes

/-- Replica slots in HBM, on drives. -/
def Lehr.slotsIn (l : Lehr) (drive : Bool) : Nat := (l.slots.filter fun x => x.onDrive = drive).length

/-- EPOCH_QUERY (R240). -/
def epochQueryBody (r : CmdRef) (s : State) : State :=
  s.runCmd r 3 0x04 [(0x10, 8)] fun c =>
    let h := fun i => match s.leh.held[i]? with | some x => natLe x.num 8 ++ natLe x.step 8 | none => zeros 16
    let (num, st) := match s.leh.cur with | some e => (e.num, e.state) | none => (0, 0)
    match s.writeC r.fn (c.fld 0x10 8) (h 0 ++ h 1 ++ natLe num 8 ++ natLe st 1 ++ natLe (s.leh.slotsIn false) 1 ++ natLe (s.leh.slotsIn true) 1 ++
        zeros 1 ++ natLe s.segsAcked 4 ++ natLe s.segsOfShard 4 ++ natLe s.leh.slotsUsed.length 4 ++ zeros 8) with
    | .error e => s.failAt r e 0x10
    | .ok (s, h) => s.finishSeen r h 0 0 0

def execEpochQuery (r : CmdRef) (s : State) : Host.Outcome State Fault Refusal := .next (epochQueryBody r s)

/-! ## Registers (R244) -/

/-- Reads an LHR_ register below 0x80. -/
def State.lhrRead (s : State) (off : Nat) : W32 :=
  let l := s.leh
  let (num, st) := match l.cur with | some e => (e.num, e.state) | none => (0, 0)
  let top := match l.held with | c :: _ => c.num | [] => 0
  match off with
  | 0x00 =>
    w32 (pack [(0, st), (3, b2n s.isRecorder), (4, b2n s.isStandby), (5, b2n (l.cur.isSome && decide (2 ≤ st) && !(s.fab.scope.any s.fab.armed))),
      (6, b2n (!l.legs.isEmpty || match l.cur with | some e => !e.legs.isEmpty | none => false)), (8, min 255 (l.slotsIn false)),
      (16, min 255 (l.slotsIn true))])
  | 0x04 => if s.fab.parisonFull then setBit l.events 3 else l.events
  | 0x08 => w32 (top % 2 ^ 32)
  | 0x0C => w32 (top / 2 ^ 32)
  | 0x10 => w32 (num % 2 ^ 32)
  | 0x14 => w32 (num / 2 ^ 32)
  | 0x18 => w32 (s.segsAcked % 65536 + s.segsOfShard % 65536 * 65536)
  | 0x1C => w32 l.slotsUsed.length
  | 0x20 => w32 (((seqFrom 0 8).map fun i => (s.fab.ctrl i).heldCount).foldl satAdd 0)
  | 0x24 => w32 l.stallMax
  | 0x28 => w32 s.fab.parisonWaits
  | 0x2C => w32 l.parisonUs
  | 0x30 => w32 l.deferred
  | 0x34 => w32 l.commits
  | 0x38 => w32 l.discards
  | 0x3C => w32 l.integrity
  | 0x40 => w32 l.repaired
  | 0x44 => l.lastDiscard
  | _ => 0

end Sys2Proof.Machine
end

