-- ==== Sys2Proof/Machine/Nvme.lean ====
section
/-! DEFINITION. The admin commands of the NVMe controllers: queues, Identify, logs, features, Abort, events, firmware download and commit, and accelerator queue pairs (spec/12 R325 to R330, spec/20 R531). -/

namespace Sys2Proof.Machine

open Sys2Proof

/-- Takes the next admin command of a function where its opcode is `op`. -/
def State.admin (s : State) (fn op : Nat) (f : State → Bytes → State) : State :=
  if 16 ≤ fn then s else s.nvTake fn 0 op adminOps f

/-- Ends an admin command. -/
def State.adminEnd (s : State) (fn : Nat) (b : Bytes) (status : Nat) (dw0 : Nat := 0) : State := s.nvEnd fn 0 (sqeCid b) status dw0

/-- Ends an admin command with its data, and goes on where the data was delivered. -/
def State.adminData (s : State) (fn : Nat) (b data : Bytes) (after : State → State) : State :=
  match s.prps fn 0 b data.length with
  | .wait s => s
  | .fail e => s.adminEnd fn b (nvOf e true)
  | .segs l =>
    match s.deliverRead fn l data with
    | (s, 0) => (after s).adminEnd fn b 0
    | (s, e) => s.adminEnd fn b (nvOf e true)

/-! ## I/O queues (R325, R326, R330) -/

/-- Queue identifier and size of a create. -/
def sqeQid (b : Bytes) : Nat := sqeDw b 10 % 65536
def sqeQsize (b : Bytes) : Nat := sqeDw b 10 / 65536 + 1
/-- PRP1. -/
def sqePrp1 (b : Bytes) : Nat := fieldAt b 24 8

/-- What a create of either queue kind checks first: a free qid, a size, a contiguous page-aligned ring. -/
def badCreateQ (used : Bool) (b : Bytes) : Option Nat :=
  if sqeQid b = 0 ∨ 64 < sqeQid b ∨ used then some (nv 1 0x01)
  else if sqeQsize b < 2 ∨ 4096 < sqeQsize b then some (nv 1 0x02)
  else if sqeDw b 11 % 2 = 0 ∨ sqePrp1 b % 4096 ≠ 0 then some (nv 0 0x02)
  else none

def createIoSqBody (fn : Nat) (s : State) : State :=
  s.admin fn 1 fun s b =>
    let k := s.nvCtrl fn
    let cq := sqeDw b 11 / 65536
    match badCreateQ (k.sqs.find? (sqeQid b)).isSome b with
    | some e => s.adminEnd fn b e
    | none =>
      if cq = 0 ∨ (k.cqs.find? cq).isNone then s.adminEnd fn b (nv 1 0x00)
      else
        let q : NvSq := { base := sqePrp1 b, size := sqeQsize b, cq := cq }
        (s.modNv fn fun k => { k with sqs := k.sqs.put (sqeQid b) q }).adminEnd fn b 0

/-- CREATE_IO_SQ (R325, R330). -/
def execCreateIoSq (fn : Nat) (s : State) : Host.Outcome State Fault Refusal := .next (createIoSqBody fn s)

def createIoCqBody (fn : Nat) (s : State) : State :=
  s.admin fn 5 fun s b =>
    let ien := decide (sqeDw b 11 / 2 % 2 = 1)
    match badCreateQ ((s.nvCtrl fn).cqs.find? (sqeQid b)).isSome b with
    | some e => s.adminEnd fn b e
    | none =>
      if ien ∧ sqeDw b 11 / 65536 ≠ 0 then s.adminEnd fn b (nv 1 0x08)
      else
        let q : NvCq := { base := sqePrp1 b, size := sqeQsize b, ien := ien }
        (s.modNv fn fun k => { k with cqs := k.cqs.put (sqeQid b) q }).adminEnd fn b 0

/-- CREATE_IO_CQ (R326): interrupts only on vector 0. -/
def execCreateIoCq (fn : Nat) (s : State) : Host.Outcome State Fault Refusal := .next (createIoCqBody fn s)

def deleteIoSqBody (fn : Nat) (s : State) : State :=
  s.admin fn 0 fun s b =>
    let q := sqeQid b
    if q = 0 ∨ ((s.nvCtrl fn).sqs.find? q).isNone then s.adminEnd fn b (nv 1 0x01) else (s.dropSq fn q).adminEnd fn b 0

/-- DELETE_IO_SQ (R330). -/
def execDeleteIoSq (fn : Nat) (s : State) : Host.Outcome State Fault Refusal := .next (deleteIoSqBody fn s)

def deleteIoCqBody (fn : Nat) (s : State) : State :=
  s.admin fn 4 fun s b =>
    let q := sqeQid b
    let k := s.nvCtrl fn
    if q = 0 ∨ (k.cqs.find? q).isNone then s.adminEnd fn b (nv 1 0x01)
    else if k.sqs.any fun x => x.2.cq = q then s.adminEnd fn b (nv 1 0x0C)
    else ((s.modNv fn fun k => { k with cqs := k.cqs.del q }).evalIntx fn).adminEnd fn b 0

/-- DELETE_IO_CQ (R330). -/
def execDeleteIoCq (fn : Nat) (s : State) : Host.Outcome State Fault Refusal := .next (deleteIoCqBody fn s)

/-! ## Logs and Identify (R325, R330, R531) -/

/-- Puts fields into a block. -/
def overlay (l : List (Nat × Bytes)) (b : Bytes) : Bytes :=
  l.foldl (fun b x => b.take x.1 ++ x.2 ++ b.drop (x.1 + x.2.length)) b

/-- Bytes whose content the spec does not give. -/
def State.freeBytes (s : State) (n : Nat) : Bytes := (seqFrom 0 n).map (Config.freeByte s.freeCtr)

/-- The firmware_version a slot shows: zeros while its bank is EMPTY (R531). -/
def State.slotVersion (s : State) (bank : Nat) : Bytes :=
  if s.boot.dir.bank bank = .empty then zeros 8 else natLe (Image.version (s.fl.view.image bank)) 8

/-- The SMART / Health log (R330): the device totals of reads and writes, in thousands of 512-byte units, rounded up, and in commands. PRESUMED (log 82): the places of these fields are those of the NVMe log; the spec gives no other value, and what it does not give is free. -/
def State.smartLog (s : State) : Bytes :=
  let units := fun (n : Nat) => (n + 511999) / 512000
  overlay [(32, natLe (units s.sto.readBytes) 16), (48, natLe (units s.sto.writeBytes) 16), (64, natLe s.sto.readCmds 16), (80, natLe s.sto.writeCmds 16)]
    (s.freeBytes 512)

/-- A log page; none where the function has no such log (R330). -/
def State.logPage (s : State) (fn lid : Nat) : Option Bytes :=
  match lid with
  | 1 => some (s.freeBytes 64)
  | 2 => some s.smartLog
  | 3 =>
    if fn ≠ 0 then none
    else
      some (overlay [(0, natLe (s.boot.bank + 1 + (if s.boot.dir.activeBank = s.boot.bank then 0 else 16 * (s.boot.dir.activeBank + 1))) 1),
        (8, s.slotVersion 0), (16, s.slotVersion 1)] (zeros 512))
  | 4 => some (((s.nvCtrl fn).changed.flatMap fun i => natLe i 4) ++ zeros (4096 - 4 * (s.nvCtrl fn).changed.length))
  | _ => none

/-- Event types a log page clears: errors, health, notices. -/
def logEvent (lid : Nat) : Nat := if lid = 1 then 0 else if lid = 2 then 1 else 2

/-- Reading a log page clears its asynchronous event, and the changed list, unless Retain Asynchronous Event is set. -/
def State.logRead (s : State) (fn lid : Nat) : State :=
  postAers fn 4 (s.modNv fn fun k =>
    { k with reported := k.reported.filter (· ≠ logEvent lid), changed := if lid = 4 then [] else k.changed })

def getLogPageBody (fn : Nat) (s : State) : State :=
  s.admin fn 2 fun s b =>
    let lid := sqeDw b 10 % 256
    let n := 4 * (sqeDw b 10 / 65536 + sqeDw b 11 % 65536 * 65536 + 1)
    let off := fieldAt b 48 8
    match s.logPage fn lid with
    | none => s.adminEnd fn b (nv 1 0x09)
    | some p =>
      if off % 4 ≠ 0 ∨ p.length < off ∨ mib < n then s.adminEnd fn b (nv 0 0x02)
      else
        s.adminData fn b (slice p off (min n (p.length - off)) ++ s.freeBytes (n - min n (p.length - off))) fun s =>
          let s := s.tick
          if sqeDw b 10 / 32768 % 2 = 1 then s else s.logRead fn lid

/-- GET_LOG_PAGE (R330, R531). -/
def execGetLogPage (fn : Nat) (s : State) : Host.Outcome State Fault Refusal := .next (getLogPageBody fn s)

/-- Identify Controller: what R300, R325, R330 and R531 fix; serial number, model and firmware revision, bytes 4 to 71, are free, and what is not listed is not supported and reads 0. -/
def State.identController (s : State) (fn : Nat) : Bytes :=
  overlay [(0, natLe 0x1DA7 2), (4, s.freeBytes 68), (77, natLe 8 1), (78, natLe fn 2), (80, natLe 0x20000 4), (92, natLe 0x100 4), (256, natLe (if fn = 0 then 4 else 0) 2), (259, natLe 3 1),
    (260, natLe (if fn = 0 then 4 else 0) 1), (319, natLe 1 1), (512, natLe 0x66 1), (513, natLe 0x44 1), (516, natLe (s.nsMax fn) 4),
    (520, natLe 0xC 2), (525, natLe 1 1)] (zeros 4096)

/-- NAWUPF in bytes: the lesser of 128 KiB and the smallest atomic write unit on power fail of the drives it uses (R338). -/
def State.atomicUnit (s : State) (n : Namespace) : Nat := n.drives.foldl (fun m d => min m (s.sdrive d).awupf) 131072

/-- Identify Namespace of an active namespace (R325, R331, R338). PRESUMED (log 82): its fields have the places of the NVMe layout. -/
def State.identSpace (s : State) (n : Namespace) : Bytes :=
  overlay [(24, natLe 2 1), (36, natLe (s.atomicUnit n / n.lba - 1) 2), (0, natLe (n.size / n.lba) 8), (8, natLe (n.size / n.lba) 8), (25, natLe 1 1), (26, natLe (if n.small then 0 else 1) 1),
    (33, natLe 1 1), (48, natLe n.size 16), (128, natLe (9 * 65536) 4), (132, natLe (12 * 65536) 4)] (zeros 4096)

/-- Namespaces a function sees, rising. -/
def State.activeNs (s : State) (fn : Nat) : List Nat :=
  (seqFrom 1 (s.nsMax fn)).filter fun i => match s.space (nvTenant fn) i with | some n => n.deleting.isNone | none => false

/-- The data of an Identify, or the status that ends it. -/
def State.identify (s : State) (fn cns nsid : Nat) : Except Nat Bytes :=
  match cns with
  | 0 =>
    if nsid = 0 ∨ s.nsMax fn < nsid then .error (nv 0 0x0B)
    else match s.space (nvTenant fn) nsid with
    | some n => .ok (if n.deleting.isSome then zeros 4096 else s.identSpace n)
    | none => .ok (zeros 4096)
  | 1 => .ok (s.identController fn)
  | 2 =>
    if 0xFFFFFFFE ≤ nsid then .error (nv 0 0x0B)
    else
      let l := ((s.activeNs fn).filter fun i => nsid < i).flatMap fun i => natLe i 4
      .ok (l ++ zeros (4096 - l.length))
  | 3 => if (s.activeNs fn).contains nsid then .ok (s.freeBytes 4096) else .error (nv 0 0x0B)
  | _ => .error (nv 0 0x02)

def identifyBody (fn : Nat) (s : State) : State :=
  s.admin fn 6 fun s b =>
    match s.identify fn (sqeDw b 10 % 256) (sqeNsid b) with
    | .error e => s.adminEnd fn b e
    | .ok d => s.adminData fn b d State.tick

/-- IDENTIFY (R325, R330). -/
def execIdentify (fn : Nat) (s : State) : Host.Outcome State Fault Refusal := .next (identifyBody fn s)

/-! ## Abort, features, events (R330) -/

def nvmeAbortBody (fn : Nat) (s : State) : State :=
  s.admin fn 8 fun s b =>
    let q := sqeDw b 10 % 65536
    let cid := sqeDw b 10 / 65536
    match (s.nvCtrl fn).fetched.find? q with
    | some x => if q ≠ 0 ∧ sqeCid x = cid then (s.nvEnd fn q cid (nv 0 0x07 false)).adminEnd fn b 0 else s.adminEnd fn b 0 1
    | none => s.adminEnd fn b 0 1

/-- NVME_ABORT (R330): reaches only a command fetched and not yet admitted. -/
def execNvmeAbort (fn : Nat) (s : State) : Host.Outcome State Fault Refusal := .next (nvmeAbortBody fn s)

def setFeaturesBody (fn : Nat) (s : State) : State :=
  s.admin fn 9 fun s b =>
    match sqeDw b 10 % 256 with
    | 0x07 => s.adminEnd fn b 0 (63 + 63 * 65536)
    | 0x08 => s.adminEnd fn b 0
    | 0x0B => (s.modNv fn fun k => { k with aeConfig := sqeDw b 11 }).adminEnd fn b 0
    | 0x06 => s.adminEnd fn b (nv 1 0x0E)
    | _ => s.adminEnd fn b (nv 0 0x02)

/-- SET_FEATURES (R330). -/
def execSetFeatures (fn : Nat) (s : State) : Host.Outcome State Fault Refusal := .next (setFeaturesBody fn s)

def getFeaturesBody (fn : Nat) (s : State) : State :=
  s.admin fn 0xA fun s b =>
    match sqeDw b 10 % 256 with
    | 0x07 => s.adminEnd fn b 0 (63 + 63 * 65536)
    | 0x08 => (s.adminEnd fn b 0 (s.free % 2 ^ 32)).tick
    | 0x0B => s.adminEnd fn b 0 (s.nvCtrl fn).aeConfig
    | 0x06 => s.adminEnd fn b 0 1
    | _ => s.adminEnd fn b (nv 0 0x02)

/-- GET_FEATURES (R330): what Interrupt Coalescing reads as is not given. -/
def execGetFeatures (fn : Nat) (s : State) : Host.Outcome State Fault Refusal := .next (getFeaturesBody fn s)

def aerBody (fn : Nat) (s : State) : State :=
  s.admin fn 0xC fun s b =>
    if 4 ≤ (s.nvCtrl fn).aers.length then s.adminEnd fn b (nv 1 0x05)
    else postAers fn 4 ((s.nvDrop fn 0).modNv fn fun k => { k with aers := k.aers ++ [sqeCid b] })

/-- ASYNCHRONOUS_EVENT_REQUEST (R330): up to four outstanding. -/
def execAsynchronousEventRequest (fn : Nat) (s : State) : Host.Outcome State Fault Refusal := .next (aerBody fn s)

/-! ## Firmware (R345, R531) -/

/-- The transfer of the download path. -/
def State.nvTransfer (s : State) : Option Transfer := s.boot.transfer.filter fun t => t.path = 0

/-- Another transfer or an activation is in progress. -/
def State.fwBusy (s : State) : Bool := s.boot.activation.isSome || s.staging || s.boot.transfer.any fun t => t.path ≠ 0

def fwDownloadBody (fn : Nat) (s : State) : State :=
  s.admin fn 0x11 fun s b =>
    let n := 4 * (sqeDw b 10 + 1)
    let off := 4 * sqeDw b 11
    let next := match s.nvTransfer with | some t => t.next | none => 0
    if fn ≠ 0 then s.adminEnd fn b (nv 0 0x01)
    else if off % 4096 ≠ 0 ∨ n % 4096 ≠ 0 ∨ off ≠ next then s.adminEnd fn b (nv 1 0x14)
    else if mib < n ∨ imageMax < off + n then s.adminEnd fn b (nv 0 0x02)
    else if s.fwBusy then s.adminEnd fn b (nv 1 0x13)
    else
      s.nvData fn 0 b n fun s d =>
        let s := if s.nvTransfer.isSome then s else s.beginTransfer (1 - s.boot.bank) 0 none
        match s.nvTransfer with
        | none => s
        | some t => match s.transferPiece t d with | (s, st) => s.adminEnd fn b (if st = 0 then 0 else nv 1 0x07)

/-- FIRMWARE_IMAGE_DOWNLOAD (R531): a piece in order into the inactive bank. -/
def execFirmwareImageDownload (fn : Nat) (s : State) : Host.Outcome State Fault Refusal := .next (fwDownloadBody fn s)

/-- The NVMe status of an activation's outcome. -/
def activateStatus (st : Nat) : Nat := if st = 0 then 0 else if st = 0x22 then nvOf 0x22 false else nv 1 0x13

/-- A Firmware Commit whose activation is over, or, with none to wait for, is refused, ends; a live one goes on with it fetched. -/
def State.commitEnds (s : State) (fn : Nat) (b : Bytes) (bank mode : Nat) (recent : Bool) : State :=
  match s.activate bank mode recent 0 none with
  | (s, none) => s
  | (s, some (st, _)) => s.adminEnd fn b (activateStatus st)

def fwCommitBody (fn : Nat) (recent : Bool) (fail : Option Nat) (restart : Option (Nat × Nat)) (s : State) : State :=
  s.admin fn 0x10 fun s b =>
    let fs := sqeDw b 10 % 8
    let ca := sqeDw b 10 / 8 % 8
    match s.boot.activation.filter fun a => fn = 0 ∧ ca = 3 ∧ a.path = 0 with
    | some a =>
      match s.advanceLive a fail restart with
      | (s, none) => s
      | (s, some (st, _)) => s.adminEnd fn b (activateStatus st)
    | none =>
    if fn ≠ 0 then s.adminEnd fn b (nv 0 0x01)
    else if 4 ≤ ca then s.adminEnd fn b (nv 0 0x02)
    else if ca = 2 then
      if fs = 0 ∨ 3 ≤ fs then s.adminEnd fn b (nv 1 0x06)
      else s.commitEnds fn b (fs - 1) 2 recent
    else
      match s.nvTransfer with
      | none => s.adminEnd fn b (nv 1 0x07)
      | some t =>
        if fs ≠ 0 ∧ fs ≠ t.bank + 1 then s.adminEnd fn b (nv 1 0x06)
        else if ¬ s.fl.idle then s
        else
          match s.endTransfer t with
          | (s, 0) =>
            if ca = 0 then s.adminEnd fn b 0
            else s.commitEnds fn b t.bank (if ca = 1 then 2 else 1) recent
          | (s, _) => s.adminEnd fn b (nv 1 0x07)

/-- FIRMWARE_COMMIT (R345, R531): it waits for the flash, verifies, and activates by its commit action. -/
def execFirmwareCommit (fn : Nat) (recent : Bool) (fail : Option Nat) (restart : Option (Nat × Nat)) (s : State) :
    Host.Outcome State Fault Refusal := .next (fwCommitBody fn recent fail restart s)

/-! ## Accelerator queue pairs (R328) -/

/-- Controller record and queue of a pair. -/
def pairCtrl (b : Bytes) : Nat := 256 + sqeDw b 10 % 8
def pairQ (b : Bytes) : Nat := sqeDw b 10 / 8 % 64 + 1

def createPairBody (fn : Nat) (s : State) : State :=
  s.admin fn 0xC1 fun s b =>
    let n := sqeDw b 10 % 8
    let size := sqeDw b 10 / 65536 + 1
    let sq := sqeDw b 11 + sqeDw b 12 * 2 ^ 32
    let cq := sqeDw b 13 + sqeDw b 14 * 2 ^ 32
    if fn ≠ 0 then s.adminEnd fn b (nv 0 0x01)
    else if (s.port n).cohort ∨ (s.port n).slot ≠ .on ∨ s.stoKey 3 16 < pairQ b ∨ size < 2 ∨ 4096 < size ∨ sq % 4096 ≠ 0 ∨ cq % 4096 ≠ 0 then
      s.adminEnd fn b (nv 0 0x02)
    else if ((s.nvCtrl (pairCtrl b)).sqs.find? (pairQ b)).isSome then s.adminEnd fn b (nv 1 0x01)
    else
      let u : NvSq := { base := sq, size := size, cq := pairQ b }
      let v : NvCq := { base := cq, size := size }
      (s.modNv (pairCtrl b) fun k => { k with sqs := k.sqs.put (pairQ b) u, cqs := k.cqs.put (pairQ b) v }).adminEnd fn b 0

/-- CREATE_ACCEL_QUEUE_PAIR (R328). -/
def execCreateAccelQueuePair (fn : Nat) (s : State) : Host.Outcome State Fault Refusal := .next (createPairBody fn s)

def deletePairBody (fn : Nat) (s : State) : State :=
  s.admin fn 0xC2 fun s b =>
    if fn ≠ 0 then s.adminEnd fn b (nv 0 0x01)
    else if ((s.nvCtrl (pairCtrl b)).sqs.find? (pairQ b)).isNone then s.adminEnd fn b (nv 1 0x01)
    else (s.dropPair (pairCtrl b) (pairQ b)).adminEnd fn b 0

/-- DELETE_ACCEL_QUEUE_PAIR (R328). -/
def execDeleteAccelQueuePair (fn : Nat) (s : State) : Host.Outcome State Fault Refusal := .next (deletePairBody fn s)

end Sys2Proof.Machine
end

