-- ==== Sys2Proof/Machine/Signals.lean ====
section
/-! DEFINITION. The levels of the module's output signals (spec/01 R31, R33). -/

namespace Sys2Proof.Machine

open Sys2Proof

/-- The output signals of R33. -/
inductive OutPin where
  | pwrgdOut
  | thermTripN
  | alertN
  | hepWakeN
  | jtagTdo
  | hepClkreqN
  | stoPerstN (drive : Nat)
  | stoPwrdis (drive : Nat)
  | aptPwren (port : Nat)
  | aptPerstN (port : Nat)
  | aptAtnledN (port : Nat)
  | aptPwrledN (port : Nat)
deriving DecidableEq, Repr

/-- What a signal shows: a level, or blinking between the two. -/
inductive PinLevel where
  | low
  | high
  | blink
deriving DecidableEq, Repr

/-- A level from a Boolean. -/
def pinOf (b : Bool) : PinLevel := if b then .high else .low

/-- An indicator, active low: 1 lit, 2 blink, 3 off. -/
def ledPin (n : Nat) : PinLevel := if n = 1 then .low else if n = 2 then .blink else .high

/-- The level the board resistor sets (R33, last column). -/
def OutPin.pull : OutPin → PinLevel
  | .pwrgdOut => .low
  | .thermTripN => .high
  | .alertN => .high
  | .hepWakeN => .high
  | .jtagTdo => .high
  | .hepClkreqN => .high
  | .stoPerstN _ => .low
  | .stoPwrdis _ => .low
  | .aptPwren _ => .low
  | .aptPerstN _ => .low
  | .aptAtnledN _ => .high
  | .aptPwrledN _ => .high

/-- The IO domain drives its outputs: its rails are up, and neither MOD_RST_N nor a reset whose start has not begun holds it in reset (R31). -/
def State.ioDriven (s : State) : Bool := s.sup.pwrgd && !s.sup.ioReleased && !s.sup.modRstLow && !s.boot.pendingStart

/-- A drive is in use: it is present and the device has started (R33, R340). -/
def State.driveInUse (s : State) (d : Nat) : Bool := (s.sto.drives.getD d {}).present && s.boot.supervisor

/-- What the module drives a signal to while the domain that owns it is out of reset; none where it leaves it undriven (R31, R33). In P2 every STO_PERST_N is high and every root port's APT_PERST_N low; that of a cohort port stays inactive, high (R281, R291). HEP_CLKREQ_N is pulled low while the host link is up, JTAG_TDO is driven in the shift states (R450). -/
def State.drives (s : State) (p : OutPin) : Option PinLevel :=
  let aod := fun (l : PinLevel) => if s.sup.aodUp then some l else none
  let io := fun (l : PinLevel) => if s.ioDriven then some l else none
  match p with
  | .pwrgdOut => aod (pinOf s.sup.pwrgd)
  | .thermTripN => if s.sup.thermTripLow then aod .low else none
  | .alertN => if s.pwr.alertLow then aod .low else none
  | .hepWakeN => if s.pwr.hepWakeLow then aod .low else none
  | .jtagTdo =>
    match s.cru.jtag.tap with
    | .shDr => io (pinOf (s.cru.jtag.shift.headD false))
    | .shIr => io (pinOf (s.cru.jtag.shift.headD false))
    | _ => none
  | .hepClkreqN => if s.hep.linkUp then io .low else none
  | .stoPerstN d => io (pinOf (decide (s.pwr.state = .p2) || s.driveInUse d))
  | .stoPwrdis _ => io .low
  | .aptPwren n => io (pinOf (s.port n).pwren)
  | .aptPerstN n => io (pinOf ((s.port n).cohort || !(s.port n).perstLow))
  | .aptAtnledN n => io (ledPin (s.port n).atnLed)
  | .aptPwrledN n => io (ledPin (s.port n).pwrLed)

/-- The level of an output signal (R33). -/
def State.pinLevel (s : State) (p : OutPin) : PinLevel := (s.drives p).getD p.pull

end Sys2Proof.Machine
end

