-- ==== Sys2Proof/Machine/Crucible.lean ====
section
/-! DEFINITION. Crucible's message services, its health tests, attestation, and the JTAG TAP (spec/16 R425, R436 to R445, R450 to R453). -/

namespace Sys2Proof.Machine

open Sys2Proof

/-! ## Message services (R436) -/

/-- A Crucible message is answered: it reaches the device and VCORE_IOD is up. -/
def State.cruHeard (s : State) (src : MsgSrc) : Bool := s.heard src && s.sup.pwrgd

/-- Answers a service; in the error state every service but GET_STATUS is refused (R445). -/
def State.cruServe (s : State) (src : MsgSrc) (f : State → State) : State :=
  if ¬ s.cruHeard src then s else if s.cru.state = 1 then f s else s.reply src 0x91 []

/-- GET_NONCE: a fresh 16-byte nonce. -/
def execGetNonce (src : MsgSrc) (s : State) : Host.Outcome State Fault Refusal :=
  .next (s.cruServe src fun s =>
    let n := s.random 16
    (s.usedRandom.modCru fun c => { c with nonces := c.nonces ++ [n] }).reply src 0 n)

/-- CRU_STATUS. -/
def Crucible.status (c : Crucible) : Nat :=
  pack [(0, c.state % 4), (3, b2n c.approved), (4, c.fuses.lifeCycle % 4), (6, b2n c.fuses.active.isSome),
        (7, b2n (decide (c.debugScope ≠ 0))), (8, c.debugScope % 4), (10, b2n (decide (c.fuses.pending ≠ [])))]

/-- GET_STATUS: CRU_STATUS, answered in every state. -/
def execGetStatus (src : MsgSrc) (s : State) : Host.Outcome State Fault Refusal :=
  .next (if s.cruHeard src then s.reply src 0 (natLe s.cru.status 4) else s)

/-- A self-test failed: the error state, its entry, and the supervisor's warm reset (R445). -/
def State.selfTestFailed (s : State) (failed : Nat) : State :=
  let s := s.cruError failed
  (s.logBoth { typ := 10, source := 0x70, severity := 4, bit := 3, reg := 4, block := 2, d0 := s.cru.selftest.toNat }).orderlyReset 5

/-- SELF_TEST: the tests run; `failed` is the mask of CRU_SELFTEST bits that fail. -/
def execSelfTest (src : MsgSrc) (failed : Nat) (s : State) : Host.Outcome State Fault Refusal :=
  .next (s.cruServe src fun s =>
    if failed % 256 = 0 then (s.modCru fun c => { c with selftest := 0xFF#32 }).reply src 0 []
    else s.selfTestFailed (failed % 256))

/-- GET_DTK_CERT. -/
def execGetDtkCert (src : MsgSrc) (s : State) : Host.Outcome State Fault Refusal :=
  .next (s.cruServe src fun s => s.reply src 0 Config.dtkCert)

/-- The owner public key block: the applied profile's, where its hash is the fuse hash (R47). -/
def State.ownerKey (s : State) : Option Bytes :=
  let k := slice s.boot.profile (fieldAt s.boot.profile 0x30 4) 388
  match s.ownerHash with
  | some h => if sha256 k = h then some k else none
  | none => none

/-- A signed command's nonce and signature (R436): 0x90 for an unknown, used or expired nonce, 0x32 for a bad signature; the nonce is used up. -/
def State.signedStatus (s : State) (cmd arg : Nat) (nonce sig : Bytes) : State × Nat :=
  if ¬ s.cru.nonces.contains nonce then (s, 0x90)
  else
    let s := s.modCru fun c => { c with nonces := c.nonces.filter (· ≠ nonce) }
    match s.ownerKey with
    | none => (s, 0x32)
    | some k =>
      (s, if rsaPssVerify (k.take 384) (k.drop 384) (s.serial ++ nonce ++ natLe cmd 1 ++ natLe arg 1) sig then 0 else 0x32)

/-- Answers a zeroizing service with the status of its fuse steps. -/
def State.zeroizeReply (s : State) (src : MsgSrc) (level : Nat) : State :=
  let (s, st) := s.zeroize level
  s.reply src st []

/-- ZEROIZE (R436, R451): level 1 unsigned; levels 2 and 3 signed, level 3 unsigned on an unowned device. -/
def zeroizeBody (src : MsgSrc) (level : Nat) (nonce sig : Bytes) (s : State) : State :=
  if ¬ s.cruHeard src then s
  else if level = 1 then s.zeroizeReply src 1
  else s.cruServe src fun s =>
    if level ≠ 2 ∧ level ≠ 3 then s.reply src 0x10 []
    else if level = 3 ∧ s.cru.fuses.active = none then s.zeroizeReply src 3
    else
      let (s, st) := s.signedStatus 0x10 level nonce sig
      if st ≠ 0 then s.reply src st [] else s.zeroizeReply src level

def execZeroize (src : MsgSrc) (level : Nat) (nonce sig : Bytes) (s : State) : Host.Outcome State Fault Refusal :=
  .next (zeroizeBody src level nonce sig s)

/-- OWNER_RELEASE (R438): a signed level 2 zeroization. -/
def ownerReleaseBody (src : MsgSrc) (nonce sig : Bytes) (s : State) : State :=
  s.cruServe src fun s =>
    let (s, st) := s.signedStatus 0x20 0 nonce sig
    if st ≠ 0 then s.reply src st [] else s.zeroizeReply src 2

def execOwnerRelease (src : MsgSrc) (nonce sig : Bytes) (s : State) : Host.Outcome State Fault Refusal :=
  .next (ownerReleaseBody src nonce sig s)

/-- debug_policy (R455). -/
def State.debugPolicy (s : State) : Nat := s.prof 0xB 0 4 0

/-- DEBUG_UNLOCK (R450): refused with 0x91 by fuse or policy; scope 1 zeroizes at level 1, scope 2 at level 2. -/
def debugUnlockBody (src : MsgSrc) (scope : Nat) (nonce sig : Bytes) (s : State) : State :=
  s.cruServe src fun s =>
    if scope ≠ 1 ∧ scope ≠ 2 then s.reply src 0x10 []
    else if s.cru.fuses.debugDisable ∨ s.debugPolicy = 0 then s.reply src 0x91 []
    else
      let (s, st) := s.signedStatus 0x30 scope nonce sig
      if st ≠ 0 then s.reply src st []
      else
        let (s, z) := s.zeroize scope
        (s.modCru fun c => { c with debugScope := scope, approved := false }).reply src z []

def execDebugUnlock (src : MsgSrc) (scope : Nat) (nonce sig : Bytes) (s : State) : Host.Outcome State Fault Refusal :=
  .next (debugUnlockBody src scope nonce sig s)

/-- NONCE_EXPIRY (R436). -/
def execNonceExpiry (nonce : Bytes) (s : State) : Host.Outcome State Fault Refusal :=
  .next (s.modCru fun c => { c with nonces := c.nonces.filter (· ≠ nonce) })

/-! ## Environment, health tests, DRBG (R425, R442 to R445) -/

/-- ENVIRONMENT_ZEROIZE (R425). -/
def execEnvironmentZeroize (s : State) : Host.Outcome State Fault Refusal :=
  .next (if s.sup.pwrgd then s.zeroizeVolatile.cruEvent 6 else s)

/-- ENTROPY_TEST_FAIL (R442): the window is discarded and counted; a second failure within 1 s enters the error state. -/
def entropyBody (within1s : Bool) (s : State) : State :=
  if s.cru.state ≠ 1 then s
  else
    let again := s.cru.entropyFailed && within1s
    let s := (s.modCru fun c => { c with entropyFail := satInc c.entropyFail, entropyFailed := true }).cruEvent 2
    if again then s.selfTestFailed 64 else s

def execEntropyTestFail (within1s : Bool) (s : State) : Host.Outcome State Fault Refusal := .next (entropyBody within1s s)

/-- DRBG_RESEED (R443). -/
def execDrbgReseed (s : State) : Host.Outcome State Fault Refusal :=
  .next (if s.cru.state = 1 then s.modCru fun c => { c with drbgRequests := 0, drbgSeeds := c.drbgSeeds + 1 } else s)

/-- MASK_REKEY (R443): the mask generator takes a new key from the DRBG. -/
def execMaskRekey (s : State) : Host.Outcome State Fault Refusal :=
  .next (if s.cru.state = 1 then s.usedRandom.modCru fun c => { c with maskKeys := c.maskKeys + 1 } else s)

/-- PERIODIC_SELF_TEST (R444): the next unit in turn is retested; a failure is the error state. -/
def periodicBody (pass : Bool) (s : State) : State :=
  if s.cru.state ≠ 1 then s
  else
    let n := s.cru.nextTest
    let s := s.modCru fun c => { c with nextTest := (n + 1) % 1152 }
    if pass then s else s.selfTestFailed (if n < 1024 then 2 else 4)

def execPeriodicSelfTest (pass : Bool) (s : State) : Host.Outcome State Fault Refusal := .next (periodicBody pass s)

/-! ## Attestation (R441) -/

/-- The certificate chain of an SPDM slot. -/
def State.spdmChain (s : State) (slot : Nat) : Option Bytes :=
  if slot = 0 then some Config.deviceChain
  else if slot = 1 then Profile.value? s.boot.profile 0xB 0 3 else none

/-- A measurement's digest (R441). -/
def State.measurement (s : State) (i : Nat) : Bytes :=
  let image := s.fl.view.image s.boot.bank
  let p := s.boot.profile
  match i with
  | 1 => Config.bootRomDigest
  | 2 => sha256 (image.take (Image.manifestBytes image))
  | 3 => sha256 (natLe s.boot.security 4 ++ natLe s.fwArb 4)
  | 4 => sha256 (p.take (Profile.total p))
  | 5 => sha256 (natLe (Profile.generation p) 8 ++ natLe (fieldAt p 0x18 4) 4 ++ natLe s.profArb 4)
  | 6 => sha256 (natLe s.cru.fuses.lifeCycle 1 ++ natLe (s.cru.fuses.active.getD 0xFF) 1 ++ natLe s.cru.debugScope 1 ++ natLe (b2n s.cru.approved) 1)
  | _ => sha256 s.programDigests

/-- A measurement block in the DMTF format: index, specification 1, size, type with digest, value size, digest. -/
def State.measureBlock (s : State) (i : Nat) : Bytes :=
  natLe i 1 ++ [1] ++ natLe 35 2 ++ natLe (if i = 1 then 0 else if i ≤ 3 then 1 else 3) 1 ++ natLe 32 2 ++ s.measurement i

/-- The SPDM 1.2 header of a response. -/
def spdmHead (code p1 p2 : Nat) : Bytes := [0x12] ++ natLe code 1 ++ natLe p1 1 ++ natLe p2 1

/-- The device can sign with IDK: dus still unwraps it (R451). -/
def State.canSign (s : State) : Bool := s.cru.state == 1 && !s.cru.fuses.dusGone

/-- GET_VERSION: SPDM 1.2. -/
def execGetVersion (src : MsgSrc) (s : State) : Host.Outcome State Fault Refusal :=
  .next (s.cruServe src fun s => s.reply src 0 ([0x10, 0x04, 0, 0, 0, 1] ++ natLe 0x1200 2))

/-- GET_CAPABILITIES: CERT_CAP, CHAL_CAP, MEAS_CAP with signature, MEAS_FRESH_CAP. -/
def execGetCapabilities (src : MsgSrc) (s : State) : Host.Outcome State Fault Refusal :=
  .next (s.cruServe src fun s => s.reply src 0 (spdmHead 0x61 0 0 ++ zeros 4 ++ natLe 0x36 4))

/-- NEGOTIATE_ALGORITHMS: TPM_ALG_RSAPSS_3072 and TPM_ALG_SHA_256, for hash and measurements. -/
def execNegotiateAlgorithms (src : MsgSrc) (s : State) : Host.Outcome State Fault Refusal :=
  .next (s.cruServe src fun s => s.reply src 0 (spdmHead 0x63 0 0 ++ natLe 36 2 ++ [1, 0] ++ natLe 2 4 ++ natLe 0x10 4 ++ natLe 1 4 ++ zeros 16))

/-- GET_DIGESTS: the digest of each chain the device holds. -/
def execGetDigests (src : MsgSrc) (s : State) : Host.Outcome State Fault Refusal :=
  .next (s.cruServe src fun s =>
    let l := [0, 1].filterMap fun k => (s.spdmChain k).map sha256
    s.reply src 0 (spdmHead 0x01 0 (if l.length = 2 then 3 else 1) ++ l.flatten))

/-- GET_CERTIFICATE: a piece of a slot's chain; a slot without one is out of range. -/
def execGetCertificate (src : MsgSrc) (slot offset len : Nat) (s : State) : Host.Outcome State Fault Refusal :=
  .next (s.cruServe src fun s =>
    match s.spdmChain slot with
    | none => s.reply src 0x10 []
    | some c =>
      let p := (c.drop offset).take len
      s.reply src 0 (spdmHead 0x02 slot 0 ++ natLe p.length 2 ++ natLe (c.length - offset - p.length) 2 ++ p))

/-- CHALLENGE: signed with IDK over the slot's digest and the nonce. -/
def execChallenge (src : MsgSrc) (slot : Nat) (nonce : Bytes) (s : State) : Host.Outcome State Fault Refusal :=
  .next (s.cruServe src fun s =>
    match s.spdmChain slot with
    | none => s.reply src 0x10 []
    | some c =>
      if ¬ s.canSign then s.reply src 0x91 []
      else
        let b := spdmHead 0x03 slot 0 ++ sha256 c ++ s.random 32
        s.usedRandom.reply src 0 (b ++ Config.idkSign (nonce ++ b)))

/-- GET_MEASUREMENTS with signature: one block, or all seven for index 0xFF; the values are those at the moment of signing. -/
def execGetMeasurements (src : MsgSrc) (index : Nat) (nonce : Bytes) (s : State) : Host.Outcome State Fault Refusal :=
  .next (s.cruServe src fun s =>
    let l := if index = 0xFF then seqFrom 1 7 else if 1 ≤ index ∧ index ≤ 7 then [index] else []
    if l = [] then s.reply src 0x10 []
    else if ¬ s.canSign then s.reply src 0x91 []
    else
      let r := l.flatMap s.measureBlock
      let b := spdmHead 0x60 0 0 ++ natLe l.length 1 ++ natLe r.length 3 ++ r ++ s.random 32
      s.usedRandom.reply src 0 (b ++ Config.idkSign (nonce ++ b)))

/-! ## JTAG (R450) -/

/-- The next TAP state on a rising edge (IEEE 1149.1). -/
def Tap.next (t : Tap) (tms : Bool) : Tap :=
  match t with
  | .reset => if tms then .reset else .idle
  | .idle => if tms then .selDr else .idle
  | .selDr => if tms then .selIr else .capDr
  | .capDr => if tms then .ex1Dr else .shDr
  | .shDr => if tms then .ex1Dr else .shDr
  | .ex1Dr => if tms then .updDr else .pauDr
  | .pauDr => if tms then .ex2Dr else .pauDr
  | .ex2Dr => if tms then .updDr else .shDr
  | .updDr => if tms then .selDr else .idle
  | .selIr => if tms then .reset else .capIr
  | .capIr => if tms then .ex1Ir else .shIr
  | .shIr => if tms then .ex1Ir else .shIr
  | .ex1Ir => if tms then .updIr else .pauIr
  | .pauIr => if tms then .ex2Ir else .pauIr
  | .ex2Ir => if tms then .updIr else .shIr
  | .updIr => if tms then .selDr else .idle

/-- The lowest `n` bits of a number, lowest first. -/
def bitsOf (v : Nat) : Nat → List Bool
  | 0 => []
  | n + 1 => decide (v % 2 = 1) :: bitsOf (v / 2) n

/-- The number whose bits, lowest first, a list holds. -/
def ofBits : List Bool → Nat
  | [] => 0
  | b :: r => b2n b + 2 * ofBits r

/-- The instruction a scope opens: every other one selects BYPASS. -/
def irAllowed (scope code : Nat) : Nat :=
  if code = 1 then 1 else if (code = 2 ∨ code = 3) ∧ 1 ≤ scope then code else if code = 4 ∧ scope = 2 then 4 else 0

/-- A rising edge: the state moves on, and the captures, shifts and updates of the state it was in are done. -/
def Jtag.rise (j : Jtag) (tms tdi : Bool) (scope freeBits : Nat) : Jtag :=
  let sh := match j.tap with
    | .capDr => if j.ir = 0 then [false] else if j.ir = 1 then bitsOf Config.idcode.toNat 32 else bitsOf freeBits (Config.drLength j.ir)
    | .capIr => [true, false] ++ bitsOf 0 Config.irExtra
    | .shDr => j.shift.drop 1 ++ [tdi]
    | .shIr => j.shift.drop 1 ++ [tdi]
    | _ => j.shift
  let t := j.tap.next tms
  { tap := t, shift := sh
    ir := if t = .reset then 1 else if t = .updIr then irAllowed scope (Config.irDecode (ofBits sh)) else j.ir }

/-- JTAG_TCK_EDGE: a rising edge samples TMS and TDI; a falling edge drives TDO in the shift states of the instructions that the debug access allows (R33, R450). While the IO domain is in reset or without power nothing is sampled or driven (R31). JTAG_TRST_N has no command of its own: DEDUCED (log 89), its fall is five rising edges with TMS high, which reach the same reset state. -/
def jtagBody (rising tms tdi : Bool) (s : State) : State :=
  if ¬ s.ioDriven then s
  else if rising then
    s.tick.modCru fun c => { c with jtag := c.jtag.rise tms tdi c.debugScope s.free }
  else
    match s.cru.jtag.tap with
    | .shDr => s.emit (.tdo (s.cru.jtag.shift.headD false))
    | .shIr => s.emit (.tdo (s.cru.jtag.shift.headD false))
    | _ => s

def execJtagTckEdge (rising tms tdi : Bool) (s : State) : Host.Outcome State Fault Refusal := .next (jtagBody rising tms tdi s)

/-! ## Owner provisioning (R437) -/

/-- A provisioning image's checks: 0x10 for serial, nonce or layout, 0x32 for signature or decryption; else the owner wrap key. -/
def State.provisionCheck (s : State) (b : Bytes) : Except Nat Bytes :=
  let k := slice b 0x28 388
  if slice b 0 4 ≠ ascii "AKPV" ∨ fieldAt b 4 2 ≠ 1 ∨ fieldAt b 6 2 ≠ 0 ∨ fieldAt b 0x1AC 4 ≠ 0 ∨ slice b 8 16 ≠ s.serial ∨
      s.cru.fuses.lifeCycle = 2 ∨ ¬ s.cru.nonces.contains (slice b 0x18 16) then .error 0x10
  else if ¬ rsaPssVerify (k.take 384) (k.drop 384) (b.take 0x330) (slice b 0x330 384) then .error 0x32
  else match Config.dtkDecrypt (slice b 0x1B0 384) with
    | none => .error 0x32
    | some owk => if owk.length = 32 then .ok owk else .error 0x10

/-- Programs the next free owner slot: owk, hash, valid (R427). While the inhibit holds no pulse starts, and the service fails with 0x92 (R24, R429); DEDUCED (log 71): no fuse is blown, so the slot stays free. -/
def State.provision (s : State) (b : Bytes) : State × Except Nat Nat :=
  let nonce := slice b 0x18 16
  let r := s.provisionCheck b
  let s := s.modCru fun c => { c with nonces := c.nonces.filter (· ≠ nonce) }
  match r with
  | .error e => (s, .error e)
  | .ok owk =>
    match s.cru.fuses.free with
    | none => (s, .error 0x93)
    | some k =>
      let put := fun (o : OwnerSlot) => s.modCru fun c => { c with fuses := { c.fuses with slots := c.fuses.slots.put k o } }
      if s.sup.inhibit then (s.cruEvent 5, .error 0x92)
      else (put { owk := owk, hash := sha256 (slice b 0x28 388), valid := true }, .ok k)

/-! ## Registers (R456) -/

/-- CRU_OWNER_SLOTS. -/
def Fuses.slotsWord (f : Fuses) : Nat :=
  pack (([0, 1, 2, 3].map fun k => (k, b2n (f.slot k).valid)) ++ ([0, 1, 2, 3].map fun k => (4 + k, b2n (f.slot k).revoked)) ++
    [(8, f.active.getD 0), (10, b2n f.active.isSome)])

/-- The value of a CRU_ register. -/
def State.cruRead (s : State) (off : Nat) : Option Nat :=
  let c := s.cru
  let p := s.prof 0xB 0 1 64
  match off with
  | 0x00 => some c.status
  | 0x04 => some c.events.toNat
  | 0x08 => some c.fuses.fwArb
  | 0x0C => some c.fuses.profArb
  | 0x10 => some c.fuses.slotsWord
  | 0x14 => some c.selftest.toNat
  | 0x18 => some c.tagFail
  | 0x1C => some c.keyDeny
  | 0x20 => some c.entropyFail
  | 0x24 => some c.zeroizes
  | 0x28 => some c.cacheMiss
  | 0x2C => some c.keys.length
  | 0x30 => some (pack [(0, p), (8, 1024 - 14 * p)])
  | _ => none

/-- A write of a CRU_ register: only CRU_EVENTS has an effect. -/
def State.cruWrite (s : State) (off : Nat) (v : W32) : State :=
  if off = 4 then
    let bad := decide (field v 7 25 ≠ 0)
    (s.modCru fun c => { c with events := w1c c.events v, faultCount := c.faultCount + b2n bad }).rsvNote bad 2 off v
  else s

end Sys2Proof.Machine
end

