-- ==== Sys2Proof/Machine/HostConfig.lean ====
section
/-! DEFINITION. The configuration space of the host functions: identity, BARs, the ARI chain, link, power management and AER as they read, and the completion timeout (spec/11 R299 to R301, R314). PRESUMED (log 83): the spec names these fields and not their places, which are those of PCI Express; the offsets from 0x100 on are the model's own codes. -/

namespace Sys2Proof.Machine

open Sys2Proof

/-! ## BARs (R301) -/

/-- log2 of the size of BAR0. -/
def bar0Log (fn : Nat) : Nat := if fn = 0 then 24 else 22

/-- A 64-bit BAR of 2^k bytes after a write of its low or high half: address bits below its size stay 0. -/
def barPut (k old : Nat) (high : Bool) (v : W32) : Nat :=
  (if high then old % 2 ^ 32 + v.toNat * 2 ^ 32 else old / 2 ^ 32 * 2 ^ 32 + v.toNat) / 2 ^ k * 2 ^ k

/-- The low half of a 64-bit memory BAR as it reads: its type, and whether it is prefetchable. -/
def barWord (a : Nat) (prefetchable : Bool) : Nat := a % 2 ^ 32 + 4 + 8 * b2n prefetchable

/-! ## Identity and the ARI chain (R300) -/

/-- Vendor ID and Device ID. -/
def vendorId : Nat := 0x1DA7
def deviceId (fn : Nat) : Nat := if fn = 0 then 0x7400 else 0x7401

/-- ARI Next Function Number: the lowest presented function above this one, or 0. -/
def State.ariNext (s : State) (fn : Nat) : Nat := ((seqFrom (fn + 1) (15 - fn)).find? s.presented).getD 0

/-! ## Requests outstanding and their timeout (R314) -/

/-- Transactions Pending: a tag of the function is outstanding; quarantined tags do not count. -/
def State.transactionsPending (s : State) (fn : Nat) : Bool := decide (s.hep.outstanding fn ≠ [])

/-- Completion Timeout Ranges Supported: B and C. -/
def timeoutRanges : Nat := 6

/-- The completion timeout in microseconds that a setting of Device Control 2 gives: the upper end of its sub-range; one of range A or D, or a reserved one, is treated as 0000b. PRESUMED (log 83): the sub-ranges of B and C are those of PCI Express. -/
def cplTimeoutUs (v : Nat) : Nat :=
  match v with
  | 5 => 55000
  | 6 => 210000
  | 9 => 900000
  | 10 => 3500000
  | _ => 50000

/-! ## Reads -/

/-- A configuration read of 4 bytes; none where the function completes it with Unsupported Request (R300). The revision is not given and is free. -/
def State.cfgRead (s : State) (fn off : Nat) : Option Nat :=
  let h := s.hostFn fn
  if ¬ s.cfgLive fn then none
  else some (
    match off with
    | 0x00 => vendorId + deviceId fn * 2 ^ 16
    | 0x04 => pack [(1, b2n h.mse), (2, b2n h.bme), (10, b2n h.intDisable), (19, b2n (s.con.fn fn).level)]
    | 0x08 => s.free % 256 + 0x120000 * 256
    | 0x10 => barWord h.bar0 false
    | 0x14 => h.bar0 / 2 ^ 32
    | 0x18 => barWord h.bar2 false
    | 0x1C => h.bar2 / 2 ^ 32
    | 0x20 => barWord h.bar4 true
    | 0x24 => h.bar4 / 2 ^ 32
    | 0x3C => 0x100
    | 0x108 => pack [(4, b2n h.relaxed), (12, h.mrrs), (21, b2n (s.transactionsPending fn))]
    | 0x110 => pack [(0, h.aspm), (16, s.hep.speed), (20, s.hep.width)]
    | 0x124 => timeoutRanges
    | 0x128 => pack [(0, h.cplRange), (12, b2n h.tag10)]
    | 0x140 => (if h.d3 then 3 else 0) + 8
    | 0x180 => s.ariNext fn * 256
    | 0x204 => h.aerUncorr.toNat
    | 0x208 => h.aerMask.toNat
    | 0x20C => h.aerSeverity.toNat
    | 0x210 => h.aerCorr.toNat
    | 0x214 => h.aerCorrMask.toNat
    | 0x218 => h.aerFirst
    | _ => 0)

end Sys2Proof.Machine
end

