-- ==== Sys2Proof/Machine/HostReset.lean ====
section
/-! DEFINITION. Function level reset and the resets of the host link (spec/11 R316 to R318). -/

namespace Sys2Proof.Machine

open Sys2Proof

/-- A reference to no command: a long operation whose command a function reset ended goes on under it and posts nothing. -/
def noCmd : CmdRef := ⟨0xFFFF, 0, 0⟩

/-- A reference after the reset of a function. -/
def CmdRef.after (fn : Nat) (r : CmdRef) : CmdRef := if r.fn = fn then noCmd else r

/-- A note in the flash queue after the reset of a function. -/
def FlashOp.after (fn : Nat) : FlashOp → FlashOp
  | .note (.command r st r0 r1) => .note (.command (r.after fn) st r0 r1)
  | o => o

/-- Long operations of a function's commands go on inside the device and will post no record (R317 step 2); what waits for a short one is dropped. -/
def State.forget (s : State) (fn : Nat) : State :=
  let f := CmdRef.after fn
  { s with
    fab := { s.fab with
      unseen := s.fab.unseen.filter fun u => f u.ref = u.ref
      records := s.fab.records.filter fun x => x.fn ≠ fn
      flags := if fn = 0 then s.fab.flags else s.fab.flags.filter fun x => x.tenant ≠ fn }
    log := { s.log with waiters := s.log.waiters.filter fun r => f r = r }
    fl := { s.fl with queue := s.fl.queue.map (FlashOp.after fn) }
    boot := { s.boot with activation := s.boot.activation.map fun a => { a with ref := a.ref.map f } }
    ann := { s.ann with start := s.ann.start.map f, stopping := s.ann.stopping.map f }
    leh := { s.leh with
      takes := s.leh.takes.map f, waiting := s.leh.waiting.map f
      cur := s.leh.cur.map fun e => { e with takes := e.takes.map f }
      fill := s.leh.fill.map fun x => { x with ref := x.ref.map f } }
    rme := { s.rme with windows := s.rme.windows.mapVal fun _ w => { w with revoke := w.revoke.map f } }
    sto := { s.sto with spaces := s.sto.spaces.map fun n => { n with format := n.format.map f, deleting := n.deleting.map f } }
    ten := { s.ten with
      moves := s.ten.moves.map fun m => (f m.1, m.2)
      models := s.ten.models.map fun m => { m with evicts := m.evicts.map fun e => (f e.1, e.2) }
      quarters := s.ten.quarters.mapVal fun _ q =>
        match q.work with
        | some w => if f w.ref = w.ref then q else { q with work := none }
        | none =>
          match q.helps with
          | some p => if (s.ten.quarters.getD p {}).work.any fun w => f w.ref ≠ w.ref then { q with helps := none } else q
          | none => q
      staleQ := s.ten.staleQ.filter fun r => f r = r
      projected := s.ten.projected.filter fun p => p.1 / 256 ≠ fn } }

/-- The queues and sync counters of a function after its reset (R100, R317 step 4); a quiesce of its tenant stands. -/
def FnQueues.reset (f : FnQueues) : FnQueues := { level := f.level, quiesced := f.quiesced, faultCount := f.faultCount }

/-- Reads of a function's queues that are outstanding have nobody left, and what arrived for them is dropped. -/
def State.orphanQueues (s : State) (fn : Nat) : State :=
  let mine := fun (o : Owner) => match o with
    | .cmd g _ _ => g == fn
    | .fetch g _ => g == fn
    | .unit _ => false
  let cut := fun (l : List ExtRead) => l.map fun (r : ExtRead) => if mine r.owner then { r with owner := .unit 0 } else r
  { s with
    hep := { s.hep with reads := cut s.hep.reads, arrived := s.hep.arrived.filter fun a => !mine a.owner }
    apt := { s.apt with
      arrived := s.apt.arrived.filter fun a => !mine a.owner
      ports := s.apt.ports.mapVal fun _ p => { p with reads := cut p.reads } } }

/-- Steps 1 and 2 of R317: the gate closes, commands leave without records; the lead resets the queues of its member windows with PF0's (R318). -/
def State.flrCommands (s : State) (fn : Nat) : State :=
  let s := (((s.gateReads fn).orphanQueues fn).forget fn).modFn fn FnQueues.reset
  if fn = 0 then s.tellWindows 0x14 else s

/-- Every pane of a tenant's device address space is unmapped; it is clear before it is mapped again (R318). -/
def State.unmapTenant (s : State) (n : Nat) : State := s.unmap n 0 paneCount

/-- Step 3 of R317: the tenant state (R318). -/
def State.flrTenant (s : State) (fn : Nat) : State :=
  let s := ((s.flrTensor fn).nvStop fn).dropTenantRings fn
  let s := s.dropRingFrames fn
  if fn = 0 then s else ((s.rmeFlr fn).dropTenantSas fn).unmapTenant fn

/-- Step 4 of R317: configuration space at its reset values but for what is sticky; `keep` leaves the sticky AER and the counters (R316). -/
def HostFn.flr (h : HostFn) (keep : Bool) : HostFn :=
  if keep then
    { events := latch 0 5, cplTimeouts := h.cplTimeouts, discards := h.discards, barDrops := h.barDrops, aerUncorr := h.aerUncorr, aerCorr := h.aerCorr
      aerMask := h.aerMask, aerSeverity := h.aerSeverity, aerCorrMask := h.aerCorrMask, aerFirst := h.aerFirst, aerHeader := h.aerHeader
      intxSent := h.intxSent }
  else { events := latch 0 5, intxSent := h.intxSent }

/-- FLR of one function, run to its end (R317): requests that came before it and wait for P0 are acted on first; what its units signalled while they ended is cleared with the function's registers in step 4. -/
def State.flr (s : State) (fn : Nat) (keep : Bool) : State :=
  if ¬ s.presented fn then s
  else
    let mine := s.hep.heldReqs.filter fun h => h.fn = fn
    let s := mine.foldl State.serve { s with hep := { s.hep with heldReqs := s.hep.heldReqs.filter fun h => h.fn ≠ fn } }
    let s := (s.flrCommands fn).flrTenant fn
    let s := ((s.modFn fn FnQueues.reset).modHost fn fun h => h.flr keep).evalIntx fn
    s.ddtUpdate

/-- The reset of every function (R316); the link is lost with it, so a read that waits for P0 has nobody to answer. -/
def State.flrAll (s : State) (keep : Bool) : State :=
  (seqFrom 0 16).foldl (fun s n => s.flr n keep)
    { s with hep := { s.hep with heldReqs := s.hep.heldReqs.filter fun h => match h with | .bar4Read _ _ _ => false | _ => true } }

/-- The link goes down; the root port drops its INTx levels with it, and reads still outstanding wait for their timeouts. -/
def State.linkDown (s : State) : State :=
  { s with hep := { s.hep with linkUp := false, speed := 0, width := 0, fns := s.hep.fns.mapVal fun _ h => { h with intxSent := false } } }

/-- FLR (R317); on a member whose queues the lead carries, the lead's reset of its window (R318). -/
def execFlr (fn : Nat) (s : State) : Host.Outcome State Fault Refusal :=
  .next (if 16 ≤ fn then (if s.bar2Live fn then s.flrCommands fn else s) else if s.cfgLive fn then s.flr fn true else s)

/-- HOT_RESET (R316). -/
def execHotReset (s : State) : Host.Outcome State Fault Refusal := .next (if s.hep.linkUp then (s.flrAll true).linkDown else s)

/-- HOST_LINK_DOWN (R316). -/
def execHostLinkDown (s : State) : Host.Outcome State Fault Refusal := .next (if s.hep.linkUp then (s.flrAll true).linkDown else s)

/-- FUNDAMENTAL_RESET (R316): HEP_PERST_N asserted. -/
def execFundamentalReset (s : State) : Host.Outcome State Fault Refusal :=
  .next (
    let s' := (s.flrAll false).linkDown
    { s' with hep := { s'.hep with perstLow := true } })

end Sys2Proof.Machine
end

