-- ==== Sys2Proof/Machine/Recovery.lean ====
section
/-! DEFINITION. RESTORE, pane repair and re-shard: pulls, checks, the new shard and its commit (spec/08 R230, R235 to R239; spec/09 R257 to R262). -/

namespace Sys2Proof.Machine

open Sys2Proof

/-! ## POLICY (R239) -/

/-- A namespace a drive leg may name, a target a remote leg may name. -/
def State.legNs (s : State) (nsid : Nat) : Bool :=
  match s.space 0 nsid with | some n => decide (nsid ≠ replicaNsid) && n.deleting.isNone | none => false

/-- POLICY: it acts from the next epoch point on. A leg that is named, by its period or by its namespace or target, must exist; a zero of both names none (DEDUCED, log 50). That this is found after acceptance, and not in validation, is a DESIGN CHOICE (log 51). -/
def policyBody (r : CmdRef) (s : State) : State :=
  s.checkpoint r 2 fun c =>
    let p := (c.fld 0x12 2, c.fld 0x14 2, c.fld 0x18 4, c.fld 0x1C 4)
    let s := s.accept r
    let drive := p.1 ≠ 0 ∨ p.2.2.1 ≠ 0
    let remote := p.2.1 ≠ 0 ∨ p.2.2.2 ≠ 0
    if (drive ∧ ¬ s.legNs p.2.2.1) ∨ (remote ∧ (s.target p.2.2.2).isNone) then s.finish r 0x94 0 0
    else (s.modLeh fun l => { l with policy := p }).finish r 0 0 0

def execPolicy (r : CmdRef) (s : State) : Host.Outcome State Fault Refusal := .next (policyBody r s)

/-! ## Old shards, as a manifest gives them (R228, R260) -/

namespace Manifest

/-- First parameter of a rank's shard and one past its last. -/
def range (m : Bytes) (r : Nat) : Nat × Nat := (fieldAt (shard m r) 0x10 8, fieldAt (shard m r) 0x10 8 + fieldAt (shard m r) 0x18 8)
/-- Its state groups. -/
def groups (m : Bytes) (r : Nat) : Nat × Nat := ((range m r).1 / 32, ((range m r).2 + 31) / 32)
/-- COMPACT state. -/
def compact (m : Bytes) : Bool := decide (fieldAt m 0x80 1 = 1)
/-- Rank of a device in the manifest's member table. -/
def rankOf (m serial : Bytes) : Option Nat := (seqFrom 0 (members m)).find? fun r => tableSerial (table m) r = serial

end Manifest

/-- Offset in the scope of a rank of the side state of factor `fi`. -/
def oldSideAt (m : Bytes) (factors : List (Nat × Nat × Nat)) (r fi : Nat) : Nat :=
  let g := Manifest.groups m r
  paneBytes + panesOf ((g.2 - g.1) * groupBytes (Manifest.compact m)) * paneBytes +
    (((factors.take fi).filter (holdsPart (Manifest.range m r))).map fun f => 4 * (f.2.1 + f.2.2)).sum

/-- The lowest old rank that held part of a factored tensor (R260 step 5). -/
def sideSource (m : Bytes) (f : Nat × Nat × Nat) : Nat :=
  ((seqFrom 0 (Manifest.members m)).find? fun r => holdsPart (Manifest.range m r) f).getD 0

/-- What the new shard of a rank needs: old rank, offset in its scope, and bytes: its state groups, then its side state (R260). -/
def shardNeeds (m : Bytes) (factors : List (Nat × Nat × Nat)) (n r : Nat) : List (Nat × Nat × Nat) :=
  let gb := groupBytes (Manifest.compact m)
  let g := shardGroups (Manifest.p m) n r
  let rng := shardRange (Manifest.p m) n r
  let state := (seqFrom 0 (Manifest.members m)).filterMap fun o =>
    let c := cut (Manifest.groups m o) g
    if c.1 < c.2 then some (o, paneBytes + (c.1 - (Manifest.groups m o).1) * gb, (c.2 - c.1) * gb) else none
  let side := (factors.zipIdx.filter fun x => holdsPart rng x.1).map fun x =>
    (sideSource m x.1, oldSideAt m factors (sideSource m x.1) x.2, 4 * (x.1.2.1 + x.1.2.2))
  state ++ side

/-- Bytes of a whole segment's panes. -/
def segBytes : Nat := 1024 * paneBytes

/-- Bytes of an old rank's scope from the segments pulled. -/
def imageSlice (image : List (Nat × Nat × Bytes)) (r off n : Nat) : Bytes :=
  (chunks segBytes off n).flatMap fun c =>
    match image.find? fun x => decide (x.1 = r ∧ x.2.1 = c.1 / segBytes) with
    | some x => slice x.2.2 (c.1 % segBytes) c.2
    | none => zeros c.2

/-! ## Pulls (R236, R559) -/

/-- The epoch key of a manifest (R223). -/
def State.manifestKey (s : State) (m : Bytes) : Option Bytes :=
  (s.jobKey (Manifest.seed m)).map fun k => kdf k "EPOCH" (Manifest.nonce m) 32

/-- The holders of a segment in the order they are asked: segment i from buddy i mod K on, then the legs the flags allow; devices declared lost have failed. -/
def State.holdersOf (s : State) (m : Bytes) (r i flags : Nat) : List Nat :=
  let hs := Manifest.holders m r
  let bs := ((hs.filter fun h => h.1 ≤ 2).map (·.2))
  let k := i % max 1 bs.length
  ((bs.drop k ++ bs.take k).filter fun b => !(s.mem.gone.contains (tableSerial (Manifest.table m) b))) ++
    ((hs.filter fun h => (h.1 = 3 ∧ flags % 2 = 1) ∨ (h.1 = 4 ∧ flags / 2 % 2 = 1)).map fun h => 0x10000 + h.1)

/-- What this device itself can supply for a rank: a segment, or the list of its segment digests. -/
def State.ownSupply (s : State) (epoch rank : Nat) (seg : Option Nat) : Option Bytes :=
  match s.leh.slots.find? fun x => decide (x.rank = rank ∧ x.epoch = epoch) with
  | none => none
  | some x =>
    match seg with
    | some i => x.segs.find? i
    | none => some ((seqFrom 0 x.segs.length).flatMap fun i => match x.segs.find? i with | some b => slice b 0x20 32 | none => [])

/-- The member table a pull's holders are ranks of. -/
def State.pullTable (s : State) (p : Pull) : Bytes :=
  match p.pane, s.leh.fill, s.leh.held.find? fun c => c.num = p.epoch with
  | none, some f, _ => Manifest.table f.manifest
  | _, _, some c => Manifest.table c.manifest
  | _, _, none => s.mem.table

/-- The QP to a holder has reached its retry limit, or its peer is lost: the holder counts as failed at once (R559). -/
def State.holderDown (s : State) (p : Pull) (h : Nat) : Bool :=
  decide (h < 0x10000) && s.rme.qps.any fun q => q.2.job && decide (q.2.state = 4 ∧ q.2.peer = tableAddr (s.pullTable p) h)

/-- The next holder to ask: itself at once, another by a request. -/
def State.pickHolder (s : State) (own : Option Nat) (p : Pull) : List Nat → Option (Nat × List Nat × Option Bytes)
  | [] => none
  | h :: rest =>
    if own = some h then
      match s.ownSupply p.epoch p.rank p.seg with
      | some b => some (h, rest, some b)
      | none => s.pickHolder own p rest
    else if s.holderDown p h then s.pickHolder own p rest
    else some (h, rest, none)

/-- Whether two pulls ask for the same thing. -/
def Pull.same (a b : Pull) : Bool := decide (a.pane = b.pane ∧ a.epoch = b.epoch ∧ a.rank = b.rank ∧ a.seg = b.seg)

/-- A pull leaves the list. -/
def State.dropPull (s : State) (p : Pull) : State := s.modLeh fun l => { l with pulls := l.pulls.filter fun q => !(q.same p) }

/-- A segment that passes its checks: its epoch, rank and index, tag and digest, and the entry of a checked list. -/
def goodSegment (key : Option Bytes) (p : Pull) (want : Option Bytes) (b : Bytes) : Option Bytes :=
  match key, p.seg with
  | some k, some i =>
    if fieldAt b 8 8 = p.epoch ∧ fieldAt b 0x10 4 = p.rank ∧ fieldAt b 0x14 4 = i ∧ (want.all fun d => decide (slice b 0x20 32 = d)) then openSegment k b
    else none
  | _, _ => none

/-! ## Repair (R209, R238) -/

/-- Writes a whole scope pane with the exempt tag, which clears its error (R88). -/
def State.writePane (s : State) (i : Nat) (bs : Bytes) : State :=
  match s.scopePhys i with
  | some p => { s with fab := s.fab.writeNow (p * paneBytes) bs }
  | none => s

/-- State groups of this shard in a scope pane whose update of this step is done. -/
def State.updatedIn (s : State) (i : Nat) : List Nat :=
  ((s.ann.groups.filter fun (g : Nat × Group) => g.2.sent).flatMap fun (g : Nat × Group) => s.unitGroups g.2).filter fun g => (s.panesOfGroup g).contains i

/-- The side-state entries of a pane once more from their old bytes. -/
def State.replayStats (s : State) (i : Nat) (old : Bytes) : State :=
  s.ann.rule.factors.zipIdx.foldl (fun s x =>
    if ¬ s.holdsFactor x.1 then s
    else
      let at_ := s.sideAt x.2
      let n := 4 * (x.1.2.1 + x.1.2.2)
      let c := cut (at_, at_ + n) (scopeBase + i * paneBytes, scopeBase + (i + 1) * paneBytes)
      let o := zeros (c.1 - at_) ++ slice old (c.1 - scopeBase - i * paneBytes) (c.2 - c.1) ++ zeros (at_ + n - c.2)
      if c.1 < c.2 then s.writeJob c.1 (slice (s.newStats x.2 x.1 o) (c.1 - at_) (c.2 - c.1)) else s) s

/-- A pane as the step began, with what this step's update has already done to it: `data` is the source's scope from offset `base`. None where the source lacks bytes the update needs. -/
def State.replay (s : State) (i base : Nat) (data : Bytes) : Option State :=
  let s := s.writePane i (slice data (i * paneBytes - base) paneBytes)
  if ¬ s.ann.wrote then some s
  else
    let gb := groupBytes s.compact
    let side := decide (s.sideBase ≤ scopeBase + i * paneBytes)
    let l := s.updatedIn i
    if side then some (if s.ann.rule.code = 4 then s.replayStats i (slice data (i * paneBytes - base) paneBytes) else s)
    else if ¬ l.all fun g => decide (base ≤ s.groupOff g - scopeBase ∧ s.groupOff g - scopeBase + gb ≤ base + data.length) then none
    else
      match s.gradients with
      | .error _ => none
      | .ok gs =>
        some (l.foldl (fun s g =>
          let o := slice data (s.groupOff g - scopeBase - base) gb
          let (nb, _, kept) := s.ruledGroup g o gs
          s.writeJob (s.groupOff g) (if kept then o else nb)) s)

/-- A pane is repaired: counted, and once no pane is left Anneal goes on (R209). -/
def State.repaired (s : State) (i : Nat) : State :=
  let phys := (s.scopePhys i).getD 0
  let s := { s with fab := { s.fab with repaired := if s.fab.repaired.contains phys then s.fab.repaired else s.fab.repaired ++ [phys] } }
  let s := (s.modLeh fun l => { l with repaired := satInc l.repaired }).lehEvent 5
  let s := s.modAnn fun a => { a with repair := a.repair.filter (· ≠ i) }
  if s.ann.repair ≠ [] then s
  else
    let s := s.annEvent 4
    if s.ann.initial then s.flushAll.advance else s

/-- No source repairs a pane: the step is held with 0x30, its hold point after state write (R209). -/
def State.repairFails (s : State) (i : Nat) : State :=
  (((s.lehEvent 6).modAnn fun a => { a with repair := a.repair.filter (· ≠ i), wrote := a.wrote || !a.initial })).holdStep 0x30

/-- A repair from a run of consecutive pieces of the scope, each its first pane and its bytes; none where they lack bytes the update needs. -/
def State.repairFrom (s : State) (i : Nat) (pieces : List (Nat × Bytes)) : Option State :=
  match pieces with
  | [] => none
  | (at_, _) :: _ => (s.replay i (at_ * paneBytes) (pieces.flatMap (·.2))).map fun t => t.repaired i

/-- The manifest lays the job out as this member does. -/
def State.sameLayout (s : State) (m : Bytes) : Bool :=
  decide (Manifest.p m = s.ann.p ∧ Manifest.members m = s.ann.members ∧ tableSerial (Manifest.table m) s.ann.rank = s.tableOwn)

/-- Segment `i` of this rank at the buddies of the epoch of this step, COMMITTED or REPORTED: the epoch and the holders in order (R238). -/
def State.repairSource (s : State) (i : Nat) : Option (Nat × List Nat) :=
  match s.leh.held.find? fun c => decide (c.step = s.ann.step) && s.sameLayout c.manifest with
  | some c => some (c.num, s.holdersOf c.manifest s.ann.rank i 0)
  | none =>
    match s.leh.cur with
    | some e =>
      let k := i % max 1 s.buddies.length
      if e.step = s.ann.step ∧ e.state = 4 then some (e.num, s.buddies.drop k ++ s.buddies.take k) else none
    | none => none

/-- The pull of segment `i` that a pane's repair needs. -/
def State.repairPull (s : State) (pane i : Nat) (got : List (Nat × Bytes)) : Option Pull :=
  (s.repairSource i).map fun x => { pane := some pane, epoch := x.1, rank := s.ann.rank, seg := some i, holder := 0, rest := x.2, got := got }

/-- The segment beside segment `i` that a group across the edge of a pane reaches into. -/
def besideSeg (pane i : Nat) : Option Nat :=
  if pane % 1024 = 0 ∧ i = pane / 1024 ∧ i ≠ 0 then some (i - 1) else if pane % 1024 = 1023 ∧ i = pane / 1024 then some (i + 1) else none

/-- A pane's repair with the pieces that are here: done, or the segment beside is pulled too, or it fails. -/
def State.repairWith (s : State) (pane i : Nat) (got : List (Nat × Bytes)) : State × List Pull :=
  match s.repairFrom pane got with
  | some t => (t, [])
  | none =>
    match (if got.length = 1 then (besideSeg pane i).bind fun j => s.repairPull pane j got else none) with
    | some p => (s, [p])
    | none => (s.repairFails pane, [])

/-- The pull that a repair from the pane's own parison copy still needs: the segment beside, whose copies are freed because every buddy has acknowledged it (R221, R238). -/
def State.besidePull (s : State) (pane : Nat) (run : List (Nat × Bytes)) : Option Pull :=
  match s.leh.cur, besideSeg pane (pane / 1024) with
  | some e, some j =>
    if run = [] ∨ e.step ≠ s.ann.step then none
    else
      let k := j % max 1 s.buddies.length
      some { pane := some pane, epoch := e.num, rank := s.ann.rank, seg := some j, holder := 0, rest := s.buddies.drop k ++ s.buddies.take k, got := run }
  | _, _ => none

/-! ## The end of a fill (R235, R260) -/

/-- The refusal or failure of a re-shard is reported to the management function (R258, R271). -/
def State.reshardFailed (s : State) (st : Nat) : State :=
  (s.memEvent 4).report { source := 0x40, severity := 3, status := st, bit := 4, reg := 0x8C, block := 0xE }

/-- A RESTORE or re-shard ends here with a failure; a member that the re-shard was to add keeps its CONFIGURED job. -/
def State.fillEnds (s : State) (st : Nat) : State :=
  match s.leh.fill with
  | none => s
  | some f =>
    let s := (s.modLeh fun l => { l with fill := none, pulls := l.pulls.filter fun p => p.pane.isSome }).freeSlots
    let s := if f.reshard then (s.reshardFailed st).modAnn fun a => { a with barrier := false } else s
    let s := if f.reshard ∧ ¬ s.mem.joined then s.modMem fun m => { m with table := [] } else s
    match f.ref with | some r => s.finish r st 0 0 | none => s

/-- The failure of a re-shard on a member reaches the recorder, and from there every member (R260). -/
def State.tellFailure (s : State) (st : Nat) : State :=
  if s.isRecorder then s.others.foldl (fun s r => s.tell r msgReshard (natLe st 1)) s else s.tell s.mem.recorder msgReshard (natLe st 1)

/-- A RESTORE or re-shard fails; a re-shard fails on every member with the status (R260). -/
def State.fillFails (s : State) (st : Nat) : State :=
  (if s.resharding.isSome then s.tellFailure st else s).fillEnds st

/-- START_BARRIER_TIMEOUT (R68, R188, R262): the barrier of a START, or of a re-shard, ends with 0x20; a digest that still comes is late. -/
def barrierTimeoutBody (s : State) : State :=
  if ¬ s.ann.barrier then s
  else
    let late := s.others.filter fun r => (s.ann.digests.find? r).isNone
    let s := s.timeoutWon.modAnn fun a => { a with lateDigests := late }
    if s.resharding.isSome then s.fillFails 0x20 else s.startFails 0x20

def execStartBarrierTimeout (s : State) : Host.Outcome State Fault Refusal := .next (barrierTimeoutBody s)

/-- The last segment of a RESTORE is written: the shard digest decides (R236). -/
def State.restoreDone (s : State) (f : Fill) : State :=
  let m := f.manifest
  let rank := s.ann.rank
  let d := sha256 ((seqFrom 0 (Manifest.segments m rank)).flatMap fun i => (f.lists.getD i []).flatten)
  if d ≠ Manifest.digest m rank then s.fillFails 0x31
  else
    let s := ((s.modLeh fun l => { l with fill := none, lastEpoch := max l.lastEpoch f.epoch }).modAnn fun a =>
      { a with restored := true, restoredTable := Manifest.table m }).freeSlots
    match f.ref with | some r => s.finish r 0 f.epoch (Manifest.step m) | none => s

/-- Patches rank and members of the shard record. -/
def Anneal.relayout (a : Anneal) (rank n : Nat) : Anneal :=
  { a with shard := a.shard.take 0x20 ++ natLe rank 4 ++ natLe n 4 ++ a.shard.drop 0x28 }

/-- The job's memory laid out for a rank of a new membership, its contents cleared, with the side state of a rule that waits; none where it does not fit (R181, R183). -/
def State.remap (s : State) (rank n : Nat) : Option State :=
  let s := s.unmap 0 scopeBase ((parisonBase - scopeBase) / paneBytes)
  ((s.modAnn fun a => a.relayout rank n).mapShard.bind State.mapJob).bind fun s => s.ann.nextRule.elim (some s) s.mapRule

/-- Every range is there: the new shard is written, with its control pane, the recorder is told, and this member's digest of the start barrier goes to every member (R188, R260, R262). -/
def State.reshardWrite (s : State) (f : Fill) : State :=
  let m := f.manifest
  let own := if f.keep then Manifest.rankOf m s.tableOwn else none
  let gb := groupBytes (Manifest.compact m)
  let n := tableN f.table
  let rank := s.mem.rank
  let get := fun (r off k : Nat) =>
    if own = some r then (match s.readJob (scopeBase + off) k with | .ok b => b | .error _ => zeros k) else imageSlice f.image r off k
  let bytes := (shardNeeds m s.ann.rule.factors n rank).map fun x => get x.1 x.2.1 x.2.2
  let state := shardGroups (Manifest.p m) n rank
  let len := (state.2 - state.1) * gb
  match s.remap rank n with
  | none => s.fillFails 0x13
  | some t =>
    let all := bytes.flatten
    let t := (t.writeJob (scopeBase + paneBytes) (all.take len)).writeJob t.sideBase (all.drop len)
    let t := t.modAnn fun a => { a with step := Manifest.step m, k := Manifest.k m, b1p := Manifest.b1p m, b2p := Manifest.b2p m, moved := true }
    let t := t.putControl.modLeh fun l => { l with fill := l.fill.map fun f => { f with written := true, image := [] } }
    let t := if t.isRecorder then t else t.tell t.mem.recorder msgReshardDone (natLe rank 4)
    let d := t.startDigest (Manifest.seed m) f.table
    let t := t.modAnn fun a => { a with barrier := true, digest := d }
    t.others.foldl (fun s r => s.sendPeer r msgDigest d) t

/-- Goes on once no pull of the fill is left. -/
def State.fillNext (s : State) : State :=
  match s.leh.fill with
  | none => s
  | some f =>
    if f.written ∨ s.leh.pulls.any fun p => p.pane.isNone then s
    else if f.reshard then s.reshardWrite f else s.restoreDone f

/-! ## Running pulls -/

/-- The device's rank among an epoch's holders. -/
def State.ownHolder (s : State) (p : Pull) : Option Nat :=
  match p.pane, s.leh.fill with
  | none, some f => Manifest.rankOf f.manifest s.tableOwn
  | _, _ => none

/-- What a pull's data must be opened with. -/
def State.pullKey (s : State) (p : Pull) : Option Bytes :=
  match p.pane, s.leh.fill with
  | none, some f => s.manifestKey f.manifest
  | none, none => none
  | some _, _ =>
    match s.leh.held.find? fun c => c.num = p.epoch, s.leh.cur with
    | some c, _ => s.manifestKey c.manifest
    | none, some e => s.epochKey e.nonce
    | none, none => none

/-- Segments of an old rank that the new shard of this member needs. -/
def State.needSegs (s : State) (f : Fill) (r : Nat) : List Nat :=
  (((shardNeeds f.manifest s.ann.rule.factors (tableN f.table) s.mem.rank).filter fun x => x.1 = r).flatMap fun x =>
    (chunks segBytes x.2.1 x.2.2).map fun c => c.1 / segBytes).eraseDups

/-- The pulls that follow a checked digest list. -/
def State.listPulls (s : State) (f : Fill) (r : Nat) : List Pull :=
  (s.needSegs f r).map fun i => { epoch := f.epoch, rank := r, seg := some i, holder := 0, rest := s.holdersOf f.manifest r i f.flags }

/-- Takes data that passes its checks: the state after it and the pulls that follow; none where a check fails. -/
def State.takePull (s : State) (p : Pull) (b : Bytes) : Option (State × List Pull) :=
  match p.pane, s.leh.fill with
  | some i, _ =>
    (goodSegment (s.pullKey p) p none b).map fun panes =>
      let k := p.seg.getD 0
      (s.dropPull p).repairWith i k (if p.got.any fun g => decide (g.1 < 1024 * k) then p.got ++ [(1024 * k, panes)] else (1024 * k, panes) :: p.got)
  | none, none => none
  | none, some f =>
    let m := f.manifest
    match p.seg with
    | none =>
      if b.length = 32 * Manifest.segments m p.rank ∧ sha256 b = Manifest.digest m p.rank then
        let l := (seqFrom 0 (Manifest.segments m p.rank)).map fun i => slice b (32 * i) 32
        some ((s.dropPull p).modLeh fun x => { x with fill := x.fill.map fun f => { f with lists := f.lists.put p.rank l } }, s.listPulls f p.rank)
      else none
    | some i =>
      let want := if f.reshard then (f.lists.find? p.rank).map fun l => l.getD i [] else none
      (goodSegment (s.pullKey p) p want b).map fun panes =>
        let s := s.dropPull p
        if f.reshard then
          (s.modLeh fun x => { x with fill := x.fill.map fun f => { f with image := f.image ++ [(p.rank, i, panes)] } }, [])
        else
          let s := (seqFrom 0 (panes.length / paneBytes)).foldl (fun s j => s.writePane (1024 * i + j) (slice panes (j * paneBytes) paneBytes)) s
          (s.modLeh fun x => { x with fill := x.fill.map fun f => { f with lists := f.lists.put i [slice b 0x20 32] } }, [])

/-- A pull whose every holder has failed: 0x31 where one supplied data, else 0x40. -/
def State.pullFails (s : State) (p : Pull) : State :=
  match p.pane with
  | some i => (s.dropPull p).repairFails i
  | none => s.fillFails (if p.bad then 0x31 else 0x40)

/-- Sends a pull request; a holder is named by its rank in the epoch's membership, an onward leg by 0x10000 and its kind. -/
def State.ask (s : State) (p : Pull) (h : Nat) : State :=
  s.emit (.peer h msgPull (natLe p.epoch 8 ++ natLe p.rank 4 ++ natLe (match p.seg with | some i => i + 1 | none => 0) 4))

/-- Works through pulls: what this device holds itself is taken at once, the rest is asked for. -/
def runPulls : Nat → List Pull → State → State
  | 0, _, s => s
  | _ + 1, [], s => s.fillNext
  | n + 1, p :: l, s =>
    match s.pickHolder (s.ownHolder p) p p.rest with
    | none => (if p.pane.isNone then s.pullFails p else runPulls n l (s.pullFails p))
    | some (h, rest, none) =>
      let q := { p with holder := h, rest := rest }
      runPulls n l (((s.dropPull p).modLeh fun x => { x with pulls := x.pulls ++ [q] }).ask q h)
    | some (h, rest, some b) =>
      match s.takePull p b with
      | some (t, more) => runPulls n (l ++ more) t
      | none => runPulls n ({ p with holder := h, rest := rest, bad := true } :: l) s.integrityFail

/-- More than the turns a list of pulls can take. -/
def pullFuel : Nat := 2 ^ 40

/-- The next holder of a pull. -/
def State.retryPull (s : State) (p : Pull) : State := runPulls pullFuel [p] s

/-- The pull a holder's answer belongs to. -/
def State.pullAt (s : State) (rank : Nat) (seg : Option Nat) : Option Pull := s.leh.pulls.find? fun p => decide (p.rank = rank ∧ p.seg = seg)

/-- The serial number and the job endpoint address of the holder asked; none of an onward leg. -/
def State.holderOf (s : State) (p : Pull) : Option (Bytes × Bytes) :=
  if p.holder < 0x10000 then some (tableSerial (s.pullTable p) p.holder, tableAddr (s.pullTable p) p.holder) else none

/-- The pulls at the holders that a test names move to their next holder: those holders count as failed at once (R559). -/
def State.failHolders (s : State) (f : Bytes × Bytes → Bool) : State :=
  (s.leh.pulls.filter fun p => (s.holderOf p).any f).foldl (fun s p => s.retryPull p) s

/-- What a holder supplied passes or fails its checks, as a job message of that member (R249). -/
def State.supplied (s : State) (p : Pull) (ok : Bool) : State :=
  match (s.holderOf p).bind fun h => (seqFrom 0 (tableN s.mem.table)).find? fun r => tableSerial s.mem.table r = h.1 with
  | some r => s.integrityOf r ok
  | none => s

/-- SEGMENT_PULL_DONE (R236, R238, R260, R559): data of the holder asked is checked and taken, else the next holder is asked; empty data supplies nothing; data of a pull that timed out is discarded and counted. -/
def pullDoneBody (holder rank : Nat) (seg : Option Nat) (bytes : Bytes) (s : State) : State :=
  let late := s.lateDiscarded
  match s.pullAt rank seg with
  | none => late
  | some p =>
    if p.holder ≠ holder then late
    else if bytes = [] then s.retryPull p
    else
      match (s.supplied p true).takePull p bytes with
      | some (t, more) => runPulls pullFuel more t
      | none => ((s.supplied p false).integrityFail).retryPull { p with bad := true }

def execSegmentPullDone (holder rank : Nat) (seg : Option Nat) (bytes : Bytes) (s : State) : Host.Outcome State Fault Refusal :=
  .next (pullDoneBody holder rank seg bytes s)

/-- PULL_TIMEOUT (R559). -/
def pullTimeoutBody (rank : Nat) (seg : Option Nat) (s : State) : State :=
  match s.pullAt rank seg with
  | none => s
  | some p => s.timeoutWon.retryPull p

def execPullTimeout (rank : Nat) (seg : Option Nat) (s : State) : Host.Outcome State Fault Refusal := .next (pullTimeoutBody rank seg s)

/-- The parison copies of a pane and of its neighbours, where the epoch in flight has this step and they are still held and readable: empty without the pane's own (R238). -/
def State.parisonRun (s : State) (pane : Nat) : List (Nat × Bytes) :=
  if ¬ s.leh.cur.any fun e => decide (e.step = s.ann.step) then []
  else
    let get := fun i => match s.parisonPane i with | some (.ok b) => [(i, b)] | _ => []
    if get pane = [] then [] else (if pane = 0 then [] else get (pane - 1)) ++ get pane ++ get (pane + 1)

/-- PANE_REPAIR (R238): the parison copy of the epoch of this step, else a buddy's replica of an epoch of this step. -/
def paneRepairBody (pane : Nat) (s : State) : State :=
  if ¬ s.ann.repair.contains pane ∨ ¬ s.ann.live ∨ s.leh.pulls.any fun p => p.pane = some pane then s
  else
    let run := s.parisonRun pane
    match s.repairFrom pane run, (s.besidePull pane run).or (s.repairPull pane (pane / 1024) []) with
    | some t, _ => t
    | none, some p => runPulls pullFuel [p] s
    | none, none => s.repairFails pane

def execPaneRepair (pane : Nat) (s : State) : Host.Outcome State Fault Refusal := .next (paneRepairBody pane s)

/-! ## RESTORE (R235) -/

/-- The manifest of a held epoch; 0 names the newest. -/
def State.heldManifest (s : State) (epoch : Nat) : Option Bytes :=
  ((if epoch = 0 then s.leh.held.head? else s.leh.held.find? fun c => c.num = epoch)).map (·.manifest)

/-- RESTORE with its manifest found: the signer and the job are checked, the panes of the manifest's scope that the job has not mapped yet, its side state, are mapped, and the pulls begin (R235, R236). The member table itself, which a CONFIGURED job has not got, START compares (log 49). -/
def State.restoreFrom (s : State) (r : CmdRef) (m : Bytes) (chains : List Bytes) (flags : Nat) : State :=
  let rank := s.ann.rank
  let panes := Manifest.panes m rank
  if ¬ s.vouched (Config.deviceChain :: chains ++ s.mem.certs) m then s.finish r 0x32 0 0
  else if ¬ s.sameLayout m then s.finish r 0x93 0 0
  else if s.jobSpace < s.jobUsed + (panes - (s.fab.mappedIn 0 scopeBase panes).length) * paneBytes then s.finish r 0x13 0 0
  else match State.mapPanes 0 jobOwner true true scopeBase 0 panes s with
  | none => s.finish r 0x13 0 0
  | some s =>
    let f : Fill := { ref := some r, reshard := false, epoch := Manifest.epoch m, manifest := m, table := Manifest.table m, flags := flags }
    let ps := (seqFrom 0 (Manifest.segments m rank)).map fun i =>
      { epoch := f.epoch, rank := rank, seg := some i, holder := 0, rest := s.holdersOf m rank i flags }
    let s := s.modLeh fun l => { l with fill := some f, pulls := l.pulls.filter fun p => p.pane.isSome }
    runPulls pullFuel ps s

/-- RESTORE: `chains` are the certificate chains that the devices of the manifest's member table answer with, `confirmed` that one of them holds the manifest as COMMITTED. One that is accepted while another fill runs waits for its end. -/
def restoreBody (r : CmdRef) (chains : List Bytes) (confirmed : Bool) (s : State) : State :=
  s.runCmd r 3 0x02 [(0x10, 8), (0x18, 8), (0x20, 1)] fun c =>
    if s.leh.fill.any fun f => f.ref = some r then s
    else if 4 ≤ c.byte 0x20 then s.failAt r 0x10 0x20
    else if s.ann.state ≠ .configured ∨ s.ann.initSrc ≠ 0 ∨ s.ann.start.isSome then s.finish r 0x93 0 0
    else
      let s := s.accept r
      let flags := c.byte 0x20
      if s.leh.fill.isSome then s
      else if c.fld 0x18 8 = 0 then
        match s.heldManifest (c.fld 0x10 8) with
        | none => s.finish r 0x91 0 0
        | some m => s.restoreFrom r m chains flags
      else
        s.withRead r 0x18 (c.fld 0x18 8) 256 fun h =>
          let n := fieldAt h 8 8
          if slice h 0 4 ≠ ascii "RMAN" ∨ n < 640 ∨ 2 ^ 28 < n then s.finish r 0x32 0 0
          else
            s.withRead r 0x18 (c.fld 0x18 8) n fun m =>
              let held := s.leh.held.any fun x => x.manifest = m
              if (c.fld 0x10 8 ≠ 0 ∧ c.fld 0x10 8 ≠ Manifest.epoch m) ∨ ¬ (held ∨ confirmed) then s.finish r 0x91 0 0
              else s.restoreFrom r m chains flags

def execRestore (r : CmdRef) (chains : List Bytes) (confirmed : Bool) (s : State) : Host.Outcome State Fault Refusal := .next (restoreBody r chains confirmed s)

/-! ## Derived tables (R255, R257) -/

/-- Recorder and standby after losses, as ranks of the old table, and whether no standby of another domain was left (R255, R256). -/
def successors (t : Bytes) (level : Nat) (lost : List Nat) (rec stb : Nat) : Nat × Nat × Bool :=
  let elig := (seqFrom 0 (tableN t)).filter fun r => tableEligible t r && !(lost.contains r)
  let rec' := if ¬ lost.contains rec then rec else if ¬ lost.contains stb then stb else elig.headD rec
  if ¬ lost.contains stb ∧ stb ≠ rec' then (rec', stb, false)
  else
    let c := elig.filter (· ≠ rec')
    match c.find? fun r => tableLabel t r level ≠ tableLabel t rec' level with
    | some r => (rec', r, false)
    | none => (rec', c.headD rec', true)

/-- New rank of a survivor. -/
def newRank (lost : List Nat) (r : Nat) : Nat := ((seqFrom 0 r).filter fun x => !(lost.contains x)).length

/-- The derived table. -/
def deriveTable (t : Bytes) (level gen : Nat) (lost : List Nat) : Bytes :=
  let keep := (seqFrom 0 (tableN t)).filter fun r => !(lost.contains r)
  let (rec', stb', _) := successors t level lost (tableRecorder t) (tableStandby t)
  slice t 0 8 ++ natLe keep.length 4 ++ natLe gen 4 ++ natLe (newRank lost rec') 4 ++ natLe (newRank lost stb') 4 ++ slice t 0x18 40 ++
    keep.flatMap (tableEntry t)

/-- standby_domain_level, min_members (R269). -/
def State.standbyLevel (s : State) : Nat := s.prof 5 0 2 1
def State.minMembers (s : State) : Nat := s.prof 5 0 4 1

/-- The rank in a new table of the device at a rank of an old one. -/
def renumber (old new : Bytes) (r : Nat) : Option Nat :=
  if r < tableN old then (seqFrom 0 (tableN new)).find? fun x => tableSerial new x = tableSerial old r else none

/-- What a member holds of the others, under the ranks of a new table: a suspicion and a probe end only where the new table no longer has the suspect (R249, R252). -/
def Members.renumbered (m : Members) (new : Bytes) : Members :=
  let f := renumber m.table new
  let pair := fun (x : Nat × Nat) => (f x.1).map fun r => (r, (f x.2).getD r)
  { m with
    suspects := m.suspects.filterMap fun x => (f x.rank).map fun r => ⟨r, (f x.confirmer).getD (tableRecorder new)⟩
    probing := m.probing.filterMap pair, relays := m.relays.filterMap pair
    confirmed := m.confirmed.filterMap f, expired := m.expired.filterMap f, unanswered := false, cleared := m.cleared.filterMap f, lapsed := m.lapsed.filterMap f
    fails := m.fails.filterMap fun x => (f x.1).map fun r => (r, x.2) }

/-- Takes a table into force. -/
def State.adoptTable (s : State) (t : Bytes) (rank : Nat) : State :=
  let moved := s.mem.joined && (decide (tableSerial t (tableRecorder t) ≠ tableSerial s.mem.table s.mem.recorder) ||
    decide (tableSerial t (tableStandby t) ≠ tableSerial s.mem.table s.mem.standby))
  let s := s.modMem fun m =>
    { m.renumbered t with table := t, rank := rank, gen := tableGen t, recorder := tableRecorder t, standby := tableStandby t, lost := [] }
  let s := s.ddtUpdate
  if moved then s.memEvent 6 else s

/-! ## Re-shard (R258 to R262) -/

/-- A running re-shard is given up; a commanded one ends with 0x96 (R261). -/
def State.abandonFill (s : State) : State :=
  match s.leh.fill with
  | some f =>
    if ¬ f.reshard then s
    else
      let s := (s.modLeh fun l => { l with fill := none, pulls := l.pulls.filter fun p => p.pane.isSome }).freeSlots
      match f.ref with | some r => s.finish r 0x96 0 0 | none => s
  | none => s

/-- The own old range may be kept (R260 step 2). -/
def State.keepOwn (s : State) (m : Bytes) : Bool :=
  match Manifest.rankOf m s.tableOwn with
  | none => false
  | some k =>
    !s.ann.moved && !s.ann.wrote && decide (s.ann.state ≠ .configured ∧ s.ann.step = Manifest.step m ∧ Manifest.range m k = s.myRange ∧
      Manifest.panes m k = s.scopePanes) &&
      ((seqFrom 0 s.scopePanes).all fun i => match s.readJob (scopeBase + i * paneBytes) paneBytes with | .ok _ => true | .error _ => false)

/-- Begins the re-shard of an epoch on this member, whose table is in force (R260). -/
def State.beginReshard (s : State) (ref : Option CmdRef) (epoch flags : Nat) (m : Bytes) : State :=
  let t := s.mem.table
  let f : Fill := { ref := ref, reshard := true, epoch := epoch, manifest := m, table := t, flags := flags, keep := s.keepOwn m }
  let s := ((s.modLeh fun l => { l with fill := some f, pulls := l.pulls.filter fun p => p.pane.isSome }).modMem fun x => { x with restore := none }).modAnn Anneal.restart
  if Manifest.p m ≠ s.ann.p ∨ Manifest.compact m ≠ s.compact then s.fillFails 0x93
  else if (s.remap s.mem.rank (tableN t)).isNone then s.fillFails 0x13
  else
    let own := if f.keep then Manifest.rankOf m s.tableOwn else none
    let rs := (((shardNeeds m s.ann.rule.factors (tableN t) s.mem.rank).map (·.1)).filter fun r => own ≠ some r).eraseDups
    runPulls pullFuel (rs.map fun r => { epoch := epoch, rank := r, seg := none, holder := 0, rest := s.holdersOf m r 0 flags }) s

/-- Recovery after a LOST from epoch E (R258): at once from a manifest held, or `again` the one of the re-shard that the LOST ends here (R261), after its commit where E is the epoch in flight; not below min_members, not under the policy hold. -/
def State.recover (s : State) (epoch : Nat) (again : Option Bytes) : State :=
  let s := s.modMem fun m => { m with restore := none }
  if tableN s.mem.table < s.minMembers then s.reshardFailed 0x95
  else if s.prof 5 0 3 0 = 1 then s
  else
    match ((s.leh.held.find? fun c => c.num = epoch).map (·.manifest)).or again with
    | some m => s.beginReshard none epoch 0 m
    | none =>
      if s.leh.cur.any fun e => e.num = epoch then s.modMem fun m => { m with restore := some epoch }
      else s.reshardFailed 0x91

/-- A device that learns it has been declared lost or dropped (R250): its job is STOPPED, the management function is told, and it leaves the membership. -/
def State.dropped (s : State) : State :=
  let s := (s.abandonFill.holdStep 0x40).leaveEpochs 0x40
  let s := if s.ann.live then s.stopJob else s
  let s := s.report { typ := 7, source := 0x40, severity := 3, block := 0xE, d0 := s.mem.rank, d1 := s.mem.gen }
  s.modMem fun m => { m with table := [], joined := false, lost := [], suspects := [], probing := [], relays := [], confirmed := [], expired := [], unanswered := false, cleared := [], lapsed := [], fails := [], restore := none }

/-- A member refuses the re-shard it is named in: the recorder is told, and its own RESHARD ends (R259). -/
def State.reshardRefused (s : State) (ref : Option CmdRef) (t : Bytes) (st : Nat) : State :=
  let s := if s.isRecorder then s.others.foldl (fun s r => s.tell r msgReshard (natLe st 1)) s
    else s.sendPeer (tableRecorder t) msgReshard (natLe (tableGen t) 4 ++ natLe st 1)
  let s := s.reshardFailed st
  match ref with | some r => s.finish r st 0 0 | none => s

/-- A member takes part in a re-shard that the recorder starts (R259): one that the epoch's table does not name only with a job CONFIGURED for the target table. -/
def State.joinReshard (s : State) (epoch flags : Nat) (t : Bytes) (m : Option Bytes) : State :=
  let ref := s.leh.waiting
  let s := s.unfence.abandonFill.modLeh fun l => { l with waiting := none }
  match (seqFrom 0 (tableN t)).find? fun r => tableSerial t r = s.tableOwn with
  | none =>
    let s := match ref with | some r => s.finish r 0 epoch (s.free % 2 ^ 32) | none => s
    s.tick.dropped
  | some rank =>
    let old := s.mem.joined && m.any fun m => (Manifest.rankOf m s.tableOwn).isSome
    let ready := old || decide (s.ann.state = .configured ∧ s.ann.start = none ∧ s.ann.initSrc = 0 ∧ s.ann.members = tableN t ∧ s.ann.rank = rank)
    let s := s.holdStep 0x40
    let s := if s.mem.joined ∨ ready then s.adoptTable t rank else s
    match m with
    | none => s.reshardRefused ref t 0x91
    | some m => if ready then s.beginReshard ref epoch flags m else s.reshardRefused ref t 0x93

/-- The recorder refuses a RESHARD: the member that issued it is told. -/
def State.refuseReshard (s : State) (st : Nat) : State :=
  let s := s.reshardFailed st
  match s.leh.waiting with
  | some r => (s.modLeh fun l => { l with waiting := none }).finish r st 0 0
  | none => s.others.foldl (fun s r => s.tell r msgReshard (natLe st 1)) s

/-- A device of a target table answers, as far as this member knows: it holds it neither suspect nor unreachable (R259; DEDUCED, log 75). -/
def State.answers (s : State) (serial : Bytes) : Bool :=
  match (seqFrom 0 (tableN s.mem.table)).find? fun r => tableSerial s.mem.table r = serial with
  | some r => decide (r = s.jobRank) || !(s.mem.suspects.any fun x => x.rank = r) && !s.peerDown r
  | none => true

/-- The table of a RESHARD: its target table, or the one every member derives from its own copy of the old one (R257). -/
def State.targetTable (s : State) (exclude : List Nat) (table : Bytes) : Bytes :=
  if table = [] then deriveTable s.mem.table s.standbyLevel (s.mem.gen + 1) exclude else table

/-- The recorder starts a RESHARD (R259): epoch, target table and membership checked, the epoch in flight discarded with 0x41, every member of the target table told; a derived table does not cross the network (R257). -/
def State.startReshard (s : State) (epoch flags : Nat) (exclude : List Nat) (table : Bytes) : State :=
  match s.heldManifest epoch with
  | none => s.refuseReshard 0x91
  | some m =>
    let t := s.targetTable exclude table
    if ¬ tableOk t ∨ tableGen t ≤ s.mem.gen ∨ ¬ ((seqFrom 0 (tableN t)).all fun r => s.answers (tableSerial t r)) then s.refuseReshard 0x93
    else if tableN t < s.minMembers then s.refuseReshard 0x95
    else
      let s := s.cause 0x41
      let body := natLe 0 1 ++ natLe (Manifest.epoch m) 8 ++ natLe flags 1 ++ natLe exclude.length 4 ++ exclude.flatMap (fun x => natLe x 4) ++ table ++ m
      let s := ((seqFrom 0 (tableN t)).filter fun r => tableSerial t r ≠ s.tableOwn).foldl (fun s r => s.tell r msgReshard body) s
      let dropped := s.others.filter fun r => !((seqFrom 0 (tableN t)).any fun x => tableSerial t x = tableSerial s.mem.table r)
      (dropped.foldl (fun s r => s.tell (0x10000 + r) msgReshard body) s).joinReshard (Manifest.epoch m) flags t (some m)

/-- A RESHARD command of this member with its operands read: the recorder starts it, any other member forwards it. -/
def State.commandReshard (s : State) (r : CmdRef) (epoch flags : Nat) (exclude : List Nat) (table : Bytes) : State :=
  let s := s.modLeh fun l => { l with waiting := some r }
  if s.isRecorder then s.startReshard epoch flags exclude table
  else s.tell s.mem.recorder msgReshard (natLe epoch 8 ++ natLe flags 1 ++ natLe exclude.length 4 ++ exclude.flatMap (fun x => natLe x 4) ++ table)

/-- A re-shard has failed on some member, or the recorder refuses it: it ends here too, and the recorder passes the status on (R260). -/
def State.reshardEnds (s : State) (st : Nat) : State :=
  let s := if s.isRecorder then s.tellFailure st else s
  match s.leh.waiting with
  | some r => ((s.modLeh fun l => { l with waiting := none }).reshardFailed st).finish r st 0 0
  | none => if s.resharding.isSome then s.fillEnds st else s

/-- RESHARD (R259): a command of this member; at the recorder one that another member forwards; elsewhere the recorder's start; or, with a status, its refusal or failure. -/
def reshardBody (ref : Option CmdRef) (status epoch flags : Nat) (exclude : List Nat) (table manifest : Bytes) (s : State) : State :=
  match ref with
  | none =>
    if status ≠ 0 then s.reshardEnds status
    else if s.isRecorder then s.unfence.startReshard epoch flags exclude table
    else if s.mem.joined ∧ tableGen (s.targetTable exclude table) ≤ s.mem.gen then s.staleGen
    else s.joinReshard epoch flags (s.targetTable exclude table) ((s.heldManifest epoch).or (if manifest = [] then none else some manifest))
  | some r =>
    s.runCmd r 3 0x03 [(0x10, 8), (0x18, 8), (0x20, 8), (0x28, 4), (0x2C, 1)] fun c =>
      if s.leh.waiting = some r ∨ (s.leh.fill.any fun f => f.ref = some r) ∨ s.ann.start = some r then s
      else if 16383 < c.fld 0x28 4 then s.failAt r 0x10 0x28
      else if 4 ≤ c.byte 0x2C then s.failAt r 0x10 0x2C
      else if ¬ s.mem.joined then (s.reshardFailed 0x90).finish r 0x90 0 0
      else
        let s := s.accept r
        let src := c.fld 0x18 8
        if s.leh.waiting.isSome then s
        else if src ≠ 0 then
          s.withRead r 0x18 src 64 fun h =>
            if tableN h = 0 ∨ 16384 < tableN h then (s.reshardFailed 0x93).finish r 0x93 0 0
            else s.withRead r 0x18 src (64 + 64 * tableN h) fun t => s.commandReshard r (c.fld 0x10 8) (c.byte 0x2C) [] t
        else
          let n := if c.fld 0x20 8 = 0 then 0 else c.fld 0x28 4
          s.withRead r 0x20 (c.fld 0x20 8) (4 * n) fun b =>
            s.commandReshard r (c.fld 0x10 8) (c.byte 0x2C) ((seqFrom 0 n).map fun i => fieldAt b (4 * i) 4) []

def execReshard (ref : Option CmdRef) (status epoch flags : Nat) (exclude : List Nat) (table manifest : Bytes) (s : State) :
    Host.Outcome State Fault Refusal := .next (reshardBody ref status epoch flags exclude table manifest s)

/-- RESHARD_COMPLETE (R262): every member's new shard is written and its digest here, by now or by START_BARRIER_DIGEST, with its certificate chain (R440): the start barrier over the target table closes and the job resumes at step s_E. `recoveryUs` is the time from detection. -/
def reshardCompleteBody (digests : List (Nat × Bytes × Bytes)) (recoveryUs : Nat) (s : State) : State :=
  match s.leh.fill with
  | none => s
  | some f =>
    let of := fun r => ((List.find? (fun (d : Nat × Bytes × Bytes) => d.1 = r) digests).map (·.2.1)).or (s.ann.digests.find? r)
    if ¬ f.reshard ∨ ¬ f.written ∨ ¬ s.others.all fun r => (of r).isSome then s
    else
      let seed := Manifest.seed f.manifest
      let d := s.startDigest seed f.table
      if ¬ s.others.all fun r => decide (of r = some d) then s.fillFails 0x92
      else
        let peers := (s.others.map (tableAddr f.table))
        match s.closeJobQps.openJobQps peers with
        | none => s.fillFails 0x13
        | some s =>
          let s := (contributors s.ann.mask).foldl (fun s c => s.toAccel c s.ann.creditOff (natLe 0 8) true) s
          let s := (s.modLeh fun l => { l with fill := none, lastEpoch := max l.lastEpoch f.epoch }).modMem fun m =>
            { m with reshards := satInc m.reshards, lastRecoveryUs := min recoveryUs 4294967295, certs := m.certs ++ digests.map (·.2.2) }
          let s := (s.memEvent 3).modAnn fun a =>
            { a with table := f.table, digest := d, restored := true, start := f.ref, startResult := (f.epoch, s.mem.rank)
                     hold := none, repair := [] }
          s.startAgreed seed

def execReshardComplete (digests : List (Nat × Bytes × Bytes)) (recoveryUs : Nat) (s : State) : Host.Outcome State Fault Refusal :=
  .next (reshardCompleteBody digests recoveryUs s)

/-! ## Commit (R230, R234) -/

/-- A re-shard that waited for its epoch to commit begins (R253). -/
def State.startDue (s : State) : State :=
  match s.mem.restore with
  | none => s
  | some e => match s.leh.held.find? fun c => c.num = e with | some c => s.beginReshard none e 0 c.manifest | none => s

/-- MANIFEST_ACK (R230). -/
def manifestAckBody (epoch : Nat) (s : State) : State :=
  match s.leh.cur with
  | none => s
  | some e =>
    match e.pending with
    | none => s
    | some m => if e.num = epoch ∧ s.isRecorder then (((s.commitDown m).commitLocal m).startDue).maybeAnnounce else s

def execManifestAck (gen epoch : Nat) (s : State) : Host.Outcome State Fault Refusal := .next (s.memberHeard gen (manifestAckBody epoch))

/-- COMMIT (R230, R234): it goes on down the tree, also where it comes again after a LOST (R231). -/
def commitBody (manifest : Bytes) (s : State) : State :=
  let num := Manifest.epoch manifest
  let cur : Bool := match s.leh.cur with | some e => e.num == num | none => false
  if ¬ s.mem.joined then s
  else if ¬ cur ∧ s.leh.held.any fun c => num ≤ c.num then s.commitDown manifest
  else (((s.commitDown manifest).commitLocal manifest).startDue).takeNext

def execCommit (gen : Nat) (manifest : Bytes) (s : State) : Host.Outcome State Fault Refusal := .next (s.memberHeard gen (commitBody manifest))

end Sys2Proof.Machine
end

