-- ==== Sys2Proof/Machine/Members.lean ====
section
/-! DEFINITION. The job's membership: heartbeats, suspicion, probes, declaration of losses, fencing and takeover, and the membership registers (spec/09 R247 to R258, R271; spec/10 R287). -/

namespace Sys2Proof.Machine

open Sys2Proof

/-! ## Heartbeats and suspicion (R248 to R250) -/

/-- HEARTBEAT_SEND (R248): one heartbeat to every member of the watch set. -/
def heartbeatSendBody (s : State) : State :=
  if ¬ s.mem.joined then s
  else
    let s := s.modMem fun m => { m with seq := (m.seq + 1) % 256 }
    (s.watchOf s.mem.rank).foldl (fun s r => s.memberMsg r s.mem.seq 0x40 []) s

def execHeartbeatSend (s : State) : Host.Outcome State Fault Refusal := .next (heartbeatSendBody s)

/-- HEARTBEAT (R248, R249): of a suspect it is discarded and counted; else it arms the timer again that a lapsed suspicion left unarmed. The time the timer restarts with the model does not hold. -/
def heartbeatBody (src : Nat) (s : State) : State :=
  if ¬ s.mem.joined ∨ tableN s.mem.table ≤ src then s
  else if s.suspectOf src then (s.modMem fun m => { m with lateHeartbeats := satInc m.lateHeartbeats }).lateDiscarded
  else s.modMem fun m => { m with lapsed := m.lapsed.filter (· ≠ src) }

def execHeartbeat (src gen : Nat) (s : State) : Host.Outcome State Fault Refusal := .next (s.memberHeard gen (heartbeatBody src))

/-- SUSPICION_TIMEOUT (R249): of a watched rank whose timer is armed. -/
def suspicionTimeoutBody (rank : Nat) (s : State) : State :=
  if ¬ s.mem.joined ∨ s.suspectOf rank ∨ s.mem.lapsed.contains rank ∨ ¬ (s.watchOf s.mem.rank).contains rank then s
  else s.timeoutWon.suspect rank

def execSuspicionTimeout (rank : Nat) (s : State) : Host.Outcome State Fault Refusal := .next (suspicionTimeoutBody rank s)

/-- SUSPICION_LAPSE (R249): the suspicion ends, and the timer is armed again at the next heartbeat. -/
def suspicionLapseBody (rank : Nat) (s : State) : State :=
  if ¬ s.suspectOf rank then s
  else s.modMem fun m =>
    { m with suspects := m.suspects.filter fun x => x.rank ≠ rank, lapsed := m.lapsed ++ [rank], unanswered := m.unanswered && decide (rank ≠ m.recorder) }

def execSuspicionLapse (rank : Nat) (s : State) : Host.Outcome State Fault Refusal := .next (suspicionLapseBody rank s)

/-- ACK_TIMEOUT (R416, R417): a job QP that reaches its retry limit makes its peer suspect (R249), and the peer counts as failed for what is pulled from it (R559). -/
def ackTimeoutBody (qpn : Nat) (s : State) : State :=
  match s.ackTimeout qpn with
  | (s, none) => s
  | (s, some a) =>
    let s := s.failHolders fun h => decide (h.2 = a)
    match (seqFrom 0 (tableN s.mem.table)).find? fun r => tableAddr s.mem.table r = a with
    | some r => s.suspect r
    | none => s

def execAckTimeout (qpn : Nat) (s : State) : Host.Outcome State Fault Refusal := .next (ackTimeoutBody qpn s)

/-! ## Confirmation (R251, R252, R256) -/

/-- This member stands in for a recorder and a standby that it probes or has confirmed as lost (R256). -/
def State.standsIn (s : State) : Bool :=
  let m := s.mem
  let at_ := fun r => m.confirmed.contains r || m.probing.any fun x => x.1 = r
  decide (m.rank ≠ m.recorder ∧ m.rank ≠ m.standby) && tableEligible m.table m.rank && at_ m.recorder && at_ m.standby

/-- This member confirms a suspect reported to it; one that stands in for recorder and standby takes the later reports too (R256). -/
def State.confirms (s : State) (p : Nat) : Bool :=
  let m := s.mem
  s.standsIn ||
  s.leadOf p || (decide (m.rank = m.recorder) && decide (p ≠ m.rank)) || (decide (m.rank = m.standby) && decide (p = m.recorder)) ||
    (tableEligible m.table m.rank && decide (m.rank ≠ m.recorder ∧ m.rank ≠ m.standby) && decide (p = m.recorder ∨ p = m.standby))

/-- SUSPECT_REPORT (R251, R252): a confirmer starts probing, unless the suspicion was cleared within 10 ms (`recent`); `relay` is a confirmer's request to probe for it. -/
def suspectReportBody (p watcher : Nat) (recent relay : Bool) (s : State) : State :=
  if ¬ s.mem.joined ∨ tableN s.mem.table ≤ p ∨ p = s.mem.rank then s
  else if relay then (s.modMem fun m => { m with relays := m.relays ++ [(p, watcher)] }).sendProbes p
  else if recent ∧ s.mem.cleared.contains p then s
  else if s.confirms p then s.confirm p watcher
  else s

def execSuspectReport (gen suspect watcher : Nat) (recent relay : Bool) (s : State) : Host.Outcome State Fault Refusal :=
  .next (s.memberHeard gen (suspectReportBody suspect watcher recent relay))

/-- PROBE (R252): answered with a probe reply. -/
def probeBody (src : Nat) (s : State) : State :=
  if ¬ s.mem.joined ∨ tableN s.mem.table ≤ src then s else s.memberMsg src 0 0x43 (natLe s.mem.rank 4)

def execProbe (src gen : Nat) (s : State) : Host.Outcome State Fault Refusal := .next (s.memberHeard gen (probeBody src))

/-- PROBE_REPLY (R252): it clears the suspicion, or goes on to the confirmer it was probed for; one that the window's expiry has won against is discarded and counted (R68). -/
def probeReplyBody (src : Nat) (s : State) : State :=
  match s.mem.probing.find? fun x => x.1 = src with
  | some x =>
    let s := s.modMem fun m =>
      { m with pathFaults := satInc m.pathFaults, probing := m.probing.filter fun y => y.1 ≠ src
               cleared := if m.cleared.contains src then m.cleared else m.cleared ++ [src]
               confirmed := if m.rank = m.recorder ∨ m.rank = m.standby then m.confirmed else [] }
    (s.memEvent 1).report { source := 0x40, severity := 1, bit := 1, reg := 0x8C, block := 0xE, d0 := src, d1 := x.2 }
  | none =>
    match s.mem.relays.find? fun x => x.1 = src with
    | some x => (s.modMem fun m => { m with relays := m.relays.filter fun y => y.1 ≠ src }).memberMsg x.2 0 0x43 (natLe src 4)
    | none =>
      if s.mem.confirmed.contains src then s.lateDiscarded
      else if s.mem.expired.contains src then (s.modMem fun m => { m with expired := m.expired.filter (· ≠ src) }).lateDiscarded
      else s

def execProbeReply (gen src : Nat) (s : State) : Host.Outcome State Fault Refusal := .next (s.memberHeard gen (probeReplyBody src))

/-- REPORT_UNANSWERED (R256): a report about the recorder that the standby has not answered goes to the lowest-ranked eligible member. -/
def reportUnansweredBody (p : Nat) (s : State) : State :=
  if ¬ s.mem.joined ∨ p ≠ s.mem.recorder ∨ ¬ s.suspectOf p then s
  else
    let s := s.modMem fun m => { m with unanswered := true }
    match s.candidate9 with
    | none => s
    | some c =>
      if c = s.mem.rank then s.confirm p s.mem.rank
      else
        (s.modMem fun m => { m with suspects := m.suspects.map fun x => if x.rank = p then { x with confirmer := c } else x }).memberMsg c 0 0x41
          (natLe p 4 ++ natLe s.mem.rank 4)

def execReportUnanswered (suspect : Nat) (s : State) : Host.Outcome State Fault Refusal := .next (reportUnansweredBody suspect s)

/-! ## Declaration (R231, R233, R253 to R258) -/

/-- The commit-protocol messages that a LOST may have overtaken go out again under the new generation (R231): at the recorder COMMIT of the newest epoch it holds and its last DISCARD, at a standby that has stored the manifest of the epoch in flight its acknowledgement. -/
def State.sendAgain (s : State) : State :=
  if s.isRecorder then
    let s := match s.leh.held.find? fun c => !(s.leh.cur.any fun e => decide (e.num = c.num)) with | some c => s.commitDown c.manifest | none => s
    match s.leh.discarded with | some d => s.sendDiscard d.1 d.2 | none => s
  else if s.isStandby then
    match s.leh.cur with
    | some e => if s.leh.held.any fun c => decide (c.num = e.num) then s.tell s.mem.recorder msgManifestAck (natLe e.num 8) else s
    | none => s
  else s

/-- The recorder of the new membership settles the epoch in flight: a complete one is committed or sent to the standby again, any other is discarded with 0x40 (R231, R233). -/
def State.settleEpoch (s : State) : State :=
  let s := s.sendAgain
  match s.leh.cur with
  | none => s
  | some e =>
    if ¬ s.isRecorder then s
    else
      match e.pending, s.leh.held.find? fun c => c.num = e.num with
      | some m, _ => s.tell s.mem.standby msgManifest m
      | none, some c => ((s.commitDown c.manifest).commitLocal c.manifest)
      | none, none => s.discardAll 0x40

/-- The epoch in flight or announced, of which this member has sent no shard report: a LOST discards it, whether or not the recorder left ever had its announcement (R231, R253). -/
def State.discardUnreported (s : State) : State :=
  let s := match s.leh.nextAnn with
    | some x => ((if s.isRecorder then s.sendDiscard x.num 0x40 else s).modLeh fun l => { l with nextAnn := none }).noteDiscard x 0x40
    | none => s
  if s.leh.cur.any fun e => decide (e.state < 4) then (if s.isRecorder then s.discardAll 0x40 else s.discardLocal 0x40) else s

/-- The recorder is lost: a member that takes over leaves out the number the lost recorder may have announced last, so that none is used again (R214; DESIGN CHOICE, log 73), and the TAKEs of this member that still wait go to the recorder left (R216). -/
def State.newRecorder (s : State) : State :=
  let s := if s.isRecorder then s.modLeh fun l => { l with lastEpoch := l.lastEpoch + 1 } else s
  if s.leh.takes = [] then s else if s.isRecorder then s.causeDue else s.tell s.mem.recorder msgTake []

/-- The lead is among the lost: it is reachable no more; so is any other cohort member (R297, R298). -/
def State.loseCohort (s : State) (lost : List Nat) : State :=
  let gone := s.apt.present.filter fun m => (s.cohortRank m).any fun r => lost.contains r
  if gone = [] then s
  else State.ddtUpdate { s with apt := { s.apt with present := s.apt.present.filter fun m => !(gone.contains m), events := latch s.apt.events 3 } }

/-- The effect of a LOST on a member (R253, R255, R257, R258). -/
def State.applyLost (s : State) (lost : List Nat) (gen epoch : Nat) : State :=
  let t := s.mem.table
  let own := s.mem.rank
  let s := (s.modMem fun m => { m with lostCount := satAdd m.lostCount lost.length, gone := m.gone ++ lost.map (tableSerial t) }).memEvent 2
  let s := lost.foldl (fun s r => s.report { typ := 7, source := 0x40, severity := 3, bit := 2, reg := 0x8C, block := 0xE, d0 := r, d1 := gen, d2 := epoch }) s
  if lost.contains own then s.dropped
  else
    let s := ((lost.foldl (fun s r => s.losePeer (tableAddr t r)) s).holdStep 0x40).loseCohort lost
    let headless := lost.contains s.mem.recorder
    let short := (successors t s.standbyLevel lost s.mem.recorder s.mem.standby).2.2
    let s := if short then s.report { source := 0x40, severity := 2, block := 0xE, d0 := own } else s
    let s := s.adoptTable (deriveTable t s.standbyLevel gen lost) (newRank lost own)
    let s := s.unfence.discardUnreported.settleEpoch
    let s := if headless then s.newRecorder else s
    let (e, again) := match s.leh.fill with | some f => if f.reshard then (f.epoch, some f.manifest) else (epoch, none) | none => (epoch, none)
    (s.abandonFill.failHolders fun h => lost.any fun r => decide (tableSerial t r = h.1)).recover e again

/-- The epoch a declarer restores from (R253): the one in flight where its reports are complete, else the newest it holds as COMMITTED. -/
def State.restoreEpoch (s : State) : Nat :=
  let newest := match s.leh.held with | c :: _ => c.num | [] => 0
  match s.leh.cur with
  | some e => if s.isRecorder ∧ e.pending.isSome then e.num else newest
  | none => newest

/-- LOST goes down the fan-out-16 tree (R253). -/
def State.sendLost (s : State) (root : Nat) (lost : List Nat) (gen epoch : Nat) : State :=
  let t := s.modMem fun m => { m with lost := lost }
  (t.downKids root ++ (if root = s.mem.rank then lost else [])).foldl (fun s r =>
    s.memberMsg r 0 0x44 (natLe lost.length 4 ++ lost.flatMap (fun x => natLe x 4) ++ natLe gen 4 ++ natLe epoch 8)) s

/-- Declares ranks lost (R253). -/
def State.declare (s : State) (lost : List Nat) : State :=
  if lost = [] then s
  else
    let gen := s.mem.gen + 1
    let e := s.restoreEpoch
    (s.sendLost s.mem.rank lost gen e).applyLost lost gen e

/-- A confirmed loss: declared by the recorder, by the standby for the recorder, or by the member that confirms both, with what it has confirmed besides; a lead tells the recorder, of the recorder itself the standby (R251, R255, R256). -/
def State.confirmedLoss (s : State) (p : Nat) : State :=
  let m := s.mem
  let high := decide (p = m.recorder ∨ p = m.standby) || s.standsIn
  let s := s.modMem fun m => { m with probing := m.probing.filter fun y => y.1 ≠ p, confirmed := if m.confirmed.contains p then m.confirmed else m.confirmed ++ [p] }
  if m.rank = m.recorder ∨ (m.rank = m.standby ∧ p = m.recorder) then s.declare s.mem.confirmed
  else if s.mem.confirmed.contains m.recorder ∧ s.mem.confirmed.contains m.standby then s.declare s.mem.confirmed
  else
    let s := if s.leadOf p ∨ ¬ high then s.memberMsg (if p = m.recorder then m.standby else m.recorder) 0 0x45 (natLe p 4) else s
    if high then s
    else s.modMem fun m => { m with confirmed := m.confirmed.filter (· ≠ p), expired := if m.expired.contains p then m.expired else m.expired ++ [p] }

/-- PROBE_WINDOW_EXPIRY (R252): no reply within probe_window_us. -/
def probeWindowBody (p : Nat) (s : State) : State :=
  if s.mem.joined ∧ s.mem.probing.any fun x => x.1 = p then s.timeoutWon.confirmedLoss p else s

def execProbeWindowExpiry (suspect : Nat) (s : State) : Host.Outcome State Fault Refusal := .next (probeWindowBody suspect s)

/-- LOST (R253): one of a generation this member already has only ends its fence (R250), an older one is refused and counted. A member that a re-shard is adding takes it too (R261). -/
def lostBody (lost : List Nat) (gen epoch root : Nat) (s : State) : State :=
  let lost := (lost.filter fun r => decide (r < tableN s.mem.table)).eraseDups
  if (¬ s.mem.joined ∧ s.resharding.isNone) ∨ lost = [] then s
  else if gen < s.mem.gen then s.staleGen
  else if gen = s.mem.gen then s.unfence
  else ((if lost.contains s.mem.rank then s else s.sendLost root lost gen epoch)).applyLost lost gen epoch

def execLost (lost : List Nat) (gen epoch root : Nat) (s : State) : Host.Outcome State Fault Refusal := .next (lostBody lost gen epoch root s)

/-- SELF_FENCE (R250). -/
def selfFenceBody (s : State) : State :=
  if ¬ s.mem.joined ∨ s.mem.fenced then s
  else
    let s := (s.holdStep 0x40).modMem fun m => { m with fenced := true }
    (s.memEvent 5).report { source := 0x40, severity := 3, bit := 5, reg := 0x8C, block := 0xE, d0 := s.mem.rank, d1 := s.mem.gen }

def execSelfFence (s : State) : Host.Outcome State Fault Refusal := .next (selfFenceBody s)

/-- WITHDRAW (R287), or a lead's confirmation (R251): the device is declared lost without a probe, by the recorder, or by the standby for the recorder. -/
def memberWithdrawBody (rank : Nat) (s : State) : State :=
  let m := s.mem
  if ¬ m.joined ∨ rank = m.rank ∨ tableN m.table ≤ rank then s
  else if m.rank = m.recorder ∨ (m.rank = m.standby ∧ rank = m.recorder) then s.confirmedLoss rank
  else s

def execWithdraw (rank gen : Nat) (s : State) : Host.Outcome State Fault Refusal := .next (s.memberHeard gen (memberWithdrawBody rank))

/-! ## Registers (R244, R271) -/

/-- Reads a membership register. -/
def State.memRead (s : State) (off : Nat) : W32 :=
  let m := s.mem
  match off with
  | 0x80 => w32 (pack [(0, m.rank % 2 ^ 14), (14, b2n (s.leh.fill.any fun f => f.reshard)), (15, b2n m.fenced), (16, min 63 (s.watchOf m.rank).length)])
  | 0x84 => w32 (tableN m.table)
  | 0x88 => w32 m.gen
  | 0x8C => m.events
  | 0x90 => w32 m.suspectCount
  | 0x94 => w32 m.pathFaults
  | 0x98 => w32 m.lostCount
  | 0x9C => w32 m.reshards
  | 0xA0 => w32 m.lastRecoveryUs
  | 0xA4 => w32 m.lateHeartbeats
  | 0xA8 => w32 m.staleGens
  | _ => 0

/-- Reads an LHR_ register. -/
def State.lhrReadAll (s : State) (off : Nat) : W32 := if off < 0x80 then s.lhrRead off else s.memRead off

/-- Writes an LHR_ register: only the events take a write. -/
def State.lhrWrite (s : State) (off : Nat) (v : W32) : State :=
  match off with
  | 0x04 => { s.modLeh fun l => { l with events := w1c l.events v } with fab := { s.fab with parisonFull := s.fab.parisonFull && !bitOf v 3 } }
  | 0x8C => s.modMem fun m => { m with events := w1c m.events v }
  | _ => s

end Sys2Proof.Machine
end

