-- ==== Sys2Proof/Machine/Regs.lean ====
section
/-! DEFINITION. Register accesses: the blocks of R548 read and written by Gaffer cores, the function registers and the queue window written by the host, and configuration writes (spec/00 R13, R14; spec/03 R94 to R96; spec/04 R99, R100; spec/11 R302, R310, R324). -/

namespace Sys2Proof.Machine

open Sys2Proof

/-! ## BLP_ and MEM_ (R94, R95) -/

/-- Reads a BLP_ register; in P2 the compute dies are off and no die answers (R84, R504). -/
def State.blpRead (s : State) (off : Nat) : Option Nat :=
  let f := s.fab
  let n := field f.domainSel 0 8
  let d := if n < 248 then f.domains.getD n {} else {}
  let on := decide (n < 248)
  match off with
  | 0x00 => some (if s.pwr.state = .p2 then 0 else pack [(0, f.cmpPresent), (4, f.iodLinkUp), (8, f.ringLinkUp)])
  | 0x04 => some f.linkEvents.toNat
  | 0x08 => some f.retryCount
  | 0x0C => some f.lateDiscard
  | 0x10 => some f.timeoutWon
  | 0x14 => some f.arbSlow
  | 0x20 => some n
  | 0x24 => some (pack [(0, b2n (on && s.domainPowered n)), (1, b2n (on && s.domainClock n)), (2, b2n (decide (d.overflow ≠ 0))),
      (3, if on && s.domainPowered n then s.free % 17 else 0)])
  | 0x28 => some d.overflow
  | _ => none

/-- A stack whose quadrants are all in self-refresh. -/
def MemCtrl.asleep (c : MemCtrl) : Bool := c.trained && decide (c.quadrantSr = c.quadrantUp)

/-- MEM_PIN_MARK: the marked pins of the selected channel, 0x7F where there is none. -/
def MemCtrl.pinMark (c : MemCtrl) : Nat :=
  let m := c.marks.getD (field c.pinSel 0 5) []
  pack [(0, m.getD 0 0x7F), (8, m.getD 1 0x7F)]

/-- Reads a MEM_ register. -/
def State.memBlockRead (s : State) (off : Nat) : Option Nat :=
  let f := s.fab
  if off < 0x1000 then
    match off with
    | 0x00 => some (((seqFrom 0 8).map fun i => b2n (f.ctrl i).trained * 2 ^ i + b2n (f.ctrl i).asleep * 2 ^ (8 + i)).sum)
    | 0x04 => some (pack [(0, b2n f.parity), (8, f.flipAcks)])
    | 0x08 => some f.withdrawCtrl.toNat
    | 0x0C => some f.withdrawn.length
    | 0x10 => some f.scrubCtrl.toNat
    | _ => none
  else if off / 0x1000 ≤ 8 then
    let c := f.ctrl (off / 0x1000 - 1)
    match off % 0x1000 with
    | 0x00 => some (pack [(0, c.quadrantUp), (4, b2n c.asleep), (5, b2n (c.held ≠ [])), (8, c.held.length)])
    | 0x04 => some c.events.toNat
    | 0x08 => some c.ceCount
    | 0x0C => some c.ueCount
    | 0x10 => some c.lastPane.toNat
    | 0x14 => some c.lastSynd.toNat
    | 0x18 => some c.pinSel.toNat
    | 0x1C => some c.pinMark
    | 0x20 => some c.heldCount
    | _ => none
  else none

/-- Writes a BLP_ register. -/
def State.blpWrite (s : State) (off : Nat) (v : W32) : State :=
  match off with
  | 0x04 => { s with fab := { s.fab with linkEvents := w1c s.fab.linkEvents v } }
  | 0x20 => { s with fab := { s.fab with domainSel := v &&& 0xFF#32 } }
  | _ => s

/-- Writes a MEM_ register that any firmware core may write. -/
def State.memBlockWrite (s : State) (off : Nat) (v : W32) : State :=
  if off < 0x1000 ∨ 8 < off / 0x1000 then s
  else
    let put := fun (g : MemCtrl → MemCtrl) => { s with fab := s.fab.modCtrl (off / 0x1000 - 1) g }
    match off % 0x1000 with
    | 0x04 => put fun c => { c with events := w1c c.events v }
    | 0x18 => put fun c => { c with pinSel := v &&& 0x1F#32 }
    | _ => s

/-! ## Every block (R548) -/

/-- The offsets of the ANL_ and LHR_ registers (R213, R244, R271). -/
def anlOffsets : List Nat := [0x00, 0x04, 0x08, 0x0C, 0x10, 0x14, 0x18, 0x20, 0x24, 0x28, 0x2C, 0x30, 0x34, 0x38, 0x3C, 0x40, 0x44]
def lhrOffsets : List Nat :=
  [0x00, 0x04, 0x08, 0x0C, 0x10, 0x14, 0x18, 0x1C, 0x20, 0x24, 0x28, 0x2C, 0x30, 0x34, 0x38, 0x3C, 0x40, 0x44, 0x80, 0x84, 0x88, 0x8C, 0x90, 0x94, 0x98,
   0x9C, 0xA0, 0xA4, 0xA8]

/-- A 4-byte read of the GAF_ block, the two 64-bit FIFO registers included (R13, R472): GAF_MB_PUSH reads 0; GAF_MB_POP gives the low half of the entry a pop returns, and the half above it that of the last entry popped. DESIGN CHOICE (log 34): the spec gives these registers no 4-byte read but DIAG_READ's. -/
def State.gafWord (s : State) (off : Nat) : Option Nat :=
  if 0x1000 ≤ off ∧ off < 0x5000 ∧ off % 32 < 0x10 then
    let f := s.fifo ((off - 0x1000) / 32)
    some (match off % 32 with | 0x08 => f.pop.1 % 2 ^ 32 | 0x0C => f.last / 2 ^ 32 | _ => 0)
  else s.gafRead off

/-- What reading a register clears (R13, R393, R459): a high-water mark, or the head of a FIFO. A read of a bridge's occupancy has used its free value. -/
def State.readClear (s : State) (block off : Nat) : State :=
  if block = 0xA then s.hwmClear off
  else if block = 0x04 ∧ off = 0x24 then s.tick
  else if block = 0x01 ∧ 0x1000 ≤ off ∧ off < 0x5000 ∧ off % 32 = 0x08 then s.modFifo ((off - 0x1000) / 32) fun x => x.pop.2
  else s

/-- The value of a block's 32-bit register; none where the block has none. -/
def State.regRead (s : State) (block off : Nat) : Option Nat :=
  match block with
  | 0x01 => s.gafWord off
  | 0x02 => s.cruRead off
  | 0x03 => s.aodRead off
  | 0x04 => s.blpRead off
  | 0x05 => s.memBlockRead off
  | 0x06 => s.aptRead off
  | 0x07 => s.stoRead off
  | 0x08 => s.netRead off
  | 0x09 => s.mrvRead off
  | 0x0A => s.tmRead off
  | 0x0B => s.rmeRead off
  | 0x0C => s.tnsRead off
  | 0x0D => if anlOffsets.contains off then some (s.anlRead off).toNat else none
  | 0x0E => if lhrOffsets.contains off then some (s.lhrReadAll off).toNat else none
  | _ => none

/-- Cores that reach a block. -/
def blockCores (block : Nat) : List Nat :=
  match block with
  | 0x01 => [0, 1, 2, 3, 4, 5, 6, 7]
  | 0x02 | 0x03 => [0, 5]
  | 0x04 | 0x05 => [0, 1, 2, 3, 4, 5]
  | 0x06 | 0x07 => [0, 1]
  | 0x08 | 0x09 | 0x0A | 0x0B => [0, 2]
  | 0x0C | 0x0D => [0, 4]
  | 0x0E => [0, 3]
  | _ => []

/-- Core `c` may write this register: cores 6 and 7 reach their own FIFO registers and GAF_WDT_KICK only, and the MEM_ thresholds are core 0's and 3's (R96, R472). -/
def coreMay (c block off : Nat) : Bool :=
  (blockCores block).contains c &&
    (block != 1 || decide (c < 6) || off == 0x14 || decide (0x1000 ≤ off ∧ off < 0x5000)) &&
    (block != 5 || (off != 8 && off != 0x10) || c == 0 || c == 3)

/-- The RSV bits of a register, but for those whose own write already counts them (those of GAF_, the writable ones of CRU_, AOD_, NET_, MRV_ and TM_ and the two memory control registers); block 0 is the function registers (R14). -/
def rsvBits (block off : Nat) : W32 :=
  let one := decide (0x1000 ≤ off)
  match block, off % 0x1000 with
  | 0x00, 0x00 => 0xFFFFF080#32
  | 0x00, 0x04 => 0xFFFFFFC0#32
  | 0x00, 0x08 => 0xFFFFFFFE#32
  | 0x00, 0x1C => 0xFC00FC00#32
  | 0x00, 0x20 => 0xFFFF0000#32

  | 0x02, 0x00 => 0xFFFFF800#32
  | 0x02, 0x08 => 0xFFFFFF80#32
  | 0x02, 0x0C => 0xFFFFFF80#32
  | 0x02, 0x10 => 0xFFFFF800#32
  | 0x02, 0x14 => 0xFFFFFF00#32
  | 0x02, 0x2C => 0xFFF80000#32
  | 0x02, 0x30 => 0xFFFC0080#32
  | 0x03, 0x100 => 0xFFFF0080#32
  | 0x03, 0x200 => 0xFFFFFF00#32
  | 0x04, 0x00 => 0xFFFFF000#32
  | 0x04, 0x04 => 0xFFFF8000#32
  | 0x04, 0x20 => 0xFFFFFF00#32
  | 0x04, 0x24 => 0xFFFFFF00#32
  | 0x05, 0x00 => if one then 0xFFFE00C0#32 else 0xFFFF0000#32
  | 0x05, 0x04 => if one then 0xFFFFFF80#32 else 0xFFFF00FE#32
  | 0x05, 0x10 => if one then 0xF0000000#32 else 0#32
  | 0x05, 0x14 => if one then 0xFFFC8080#32 else 0#32
  | 0x05, 0x18 => if one then 0xFFFFFFE0#32 else 0#32
  | 0x05, 0x1C => if one then 0xFFFF8080#32 else 0#32
  | 0x06, 0x00 => if one then 0xFFFFC000#32 else 0xFF000000#32
  | 0x06, 0x04 => if one then 0xFFFFFC00#32 else 0xFFFFFFF0#32
  | 0x06, 0x08 => if one then 0xFFFFFFC0#32 else 0xFFFF0000#32
  | 0x06, 0x0C => if one then 0xFFFFFFF0#32 else 0#32
  | 0x06, 0x18 => if one then 0xFC00FC00#32 else 0#32
  | 0x07, 0x00 => if one then 0xFFFFFC00#32 else 0xF8008000#32
  | 0x07, 0x04 => if one then 0xFFFFFFC0#32 else 0xFFFFFFF0#32
  | 0x08, 0x00 => if one then 0xFF0000F8#32 else 0#32
  | 0x08, 0x08 => if one then 0#32 else 0xFFFFFFFC#32
  | 0x09, 0x00 => 0xFFFF0000#32
  | 0x0A, 0x00 => 0xFFFF00FE#32
  | 0x0A, 0x24 => 0xFFC00000#32
  | 0x0B, 0x00 => 0xFFF00000#32
  | 0x0B, 0x04 => 0xFFFFFFC0#32
  | 0x0B, 0x08 => 0xFFE00000#32
  | 0x0B, 0x30 => 0xFFFC0000#32
  | 0x0B, 0x34 => 0xFF800000#32
  | 0x0B, 0x38 => 0xFF000000#32
  | 0x0C, 0x00 => 0xFFFF00F0#32
  | 0x0C, 0x04 => 0xFFFFFFC0#32
  | 0x0C, 0x18 => 0xFFFFE000#32
  | 0x0C, 0x20 => 0xFFFFFFF0#32
  | 0x0C, 0x24 => 0xFFFF0000#32
  | 0x0C, 0x28 => 0xE000E000#32
  | 0x0C, 0x2C => 0xFF000000#32
  | 0x0D, 0x00 => 0xFFFF00C0#32
  | 0x0D, 0x04 => 0xFFFFFFE0#32
  | 0x0D, 0x0C => 0xFFFF0000#32
  | 0x0D, 0x40 => 0xFFFFFFF8#32
  | 0x0D, 0x44 => 0x000000FC#32
  | 0x0E, 0x00 => 0xFF000080#32
  | 0x0E, 0x04 => 0xFFFFFF00#32
  | 0x0E, 0x80 => 0xFFC00000#32
  | 0x0E, 0x84 => 0xFFFF8000#32
  | 0x0E, 0x8C => 0xFFFFFF80#32
  | _, _ => 0#32

/-- A nonzero value in an RSV field is ignored and counted (R14), a note of severity 0 (R542). -/
def State.noteRsv (s : State) (block off : Nat) (v : W32) : State :=
  if v &&& rsvBits block off = 0#32 then s
  else State.rsvNote { s with log := { s.log with rsv := s.log.rsv.upd block 0 (· + 1) } } true block off v

/-- A core's write of a block's register by its access code (R13). -/
def State.regWrite (s : State) (core block off : Nat) (v : W32) : State :=
  let s := s.noteRsv block off v
  match block with
  | 0x01 => s.gafWrite core off v
  | 0x02 => s.cruWrite off v
  | 0x03 => s.aodWrite off v
  | 0x04 => s.blpWrite off v
  | 0x05 => if off = 0x08 ∨ off = 0x10 then s.memCtrlWrite off v else s.memBlockWrite off v
  | 0x06 => (s.aptWrite off v).1
  | 0x07 => s.stoWrite off v
  | 0x08 => s.netWrite off v
  | 0x09 => s.mrvWrite off v
  | 0x0A => s.tmWrite off v
  | 0x0B => s.rmeWriteReg off v
  | 0x0C => s.tnsWrite off v
  | 0x0D => s.anlWrite off v
  | 0x0E => s.lhrWrite off v
  | _ => s

/-! ## The host's windows (R99, R100, R302, R309, R310, R324) -/

/-- Reads HEP_FN_STATUS (R324). -/
def State.fnStatus (s : State) (fn : Nat) : Nat :=
  let h := s.hostFn fn
  pack [(0, b2n (h.bme && !h.d3)), (1, b2n h.mse), (2, b2n (s.con.fn fn).level), (3, b2n h.frozen), (4, b2n (s.con.fn fn).quiesced),
    (5, b2n h.flrActive), (6, b2n (s.presented fn)), (8, fn)]

/-- Reads a function register (R324). -/
def State.fnRead (s : State) (fn off : Nat) : Nat :=
  let h := s.hostFn fn
  match off with
  | 0x00 => s.fnStatus fn
  | 0x04 => h.events.toNat
  | 0x08 => b2n h.hbArmed
  | 0x10 => h.cplTimeouts
  | 0x14 => h.discards
  | 0x18 => h.barDrops
  | 0x1C => pack [(0, (s.hep.outstanding fn).length), (16, (s.hep.quarantine.filter fun q => q.2 = fn).length)]
  | 0x20 => h.held.length
  | _ => 0

/-- Writes a function register (R324); read-only ones ignore it. -/
def State.fnWrite (s : State) (fn off : Nat) (v : W32) : State :=
  let s := s.noteRsv 0 off v
  match off with
  | 0x04 => s.modHost fn fun h => { h with events := w1c h.events v }
  | 0x08 => s.hbCtrl fn v
  | _ => if off ≤ 0x20 then s else s.barDrop fn

/-- Writes an NVMe controller register with no command of its own: AQA, ASQ and ACQ while the controller is disabled (R325). -/
def State.nvRegWrite (s : State) (fn off : Nat) (v : W32) : State :=
  if (s.nvCtrl fn).rdy then s
  else
    match off with
    | 0x24 => s.modNv fn fun k => { k with aqa := v &&& 0x0FFF0FFF#32 }
    | 0x28 => s.modNv fn fun k => { k with asq := k.asq / 2 ^ 32 * 2 ^ 32 + v.toNat / 4096 * 4096 }
    | 0x2C => s.modNv fn fun k => { k with asq := k.asq % 2 ^ 32 + v.toNat * 2 ^ 32 }
    | 0x30 => s.modNv fn fun k => { k with acq := k.acq / 2 ^ 32 * 2 ^ 32 + v.toNat / 4096 * 4096 }
    | 0x34 => s.modNv fn fun k => { k with acq := k.acq % 2 ^ 32 + v.toNat * 2 ^ 32 }
    | _ => s

/-- Offsets of the storage controller's register window that R325 lists: the registers and the doorbells of queues 0 to 64. -/
def nvListed (off : Nat) : Bool := decide (off < 0x10) || decide (0x10 ≤ off ∧ off < 0x18) || decide (0x1C ≤ off ∧ off < 0x20) ||
  decide (0x24 ≤ off ∧ off < 0x38) || decide (0x1000 ≤ off ∧ off < 0x1208)

/-- A 4-byte write at a BAR2 offset, or in a member queue window (R99, R100, R309). -/
def State.bar2Write (s : State) (fn off : Nat) (v : W32) : State :=
  if off < 0x4000 then
    let q := off / 64
    match off % 64 with
    | 0x10 => if bitOf v 0 then s.bar2 fn (.enable fn q v) else (s.bar2 fn (.queueReg fn q 0x10 v)).bar2 fn (.disable fn q)
    | 0x20 => s.bar2 fn (.cqHead fn q v.toNat)
    | r => s.bar2 fn (.queueReg fn q r v)
  else if off < 0x4040 then 
    (if (0x4008 ≤ off ∧ off < 0x4010) ∨ 0x4030 ≤ off ∨ (off = 0x4000 ∧ field v 24 8 ≠ 0) ∨ (off = 0x4004 ∧ field v 30 2 ≠ 0) then s.fnFault fn off v else s)
  else if 0x10000 ≤ off ∧ off < 0x14000 then s.bar2 fn (.sync fn ((off - 0x10000) / 4) v)
  else if 0x100000 ≤ off ∧ off < 0x200000 ∧ off % 0x1000 = 0 then s.bar2 fn (.doorbell fn ((off - 0x100000) / 0x1000) v.toNat)
  else if 0x100000 ≤ off ∧ off < 0x200000 ∧ off % 0x1000 = 4 then (if v = 0#32 then s else s.fnFault fn off v)
  else s.fnFault fn off v

/-- A 4-byte write at a BAR0 offset (R302). -/
def State.bar0Write (s : State) (fn off : Nat) (v : W32) : State :=
  if off < 0x100000 then s
  else if off < 0x101000 then s.fnWrite fn (off - 0x100000) v
  else if 0x200000 ≤ off ∧ off < 0x300000 then (if nvListed (off - 0x200000) then s.nvRegWrite fn (off - 0x200000) v else s.barDrop fn)
  else if fn = 0 ∧ 0x300000 ≤ off ∧ off < 0x310000 then
    match s.noteRsv 6 (off - 0x300000) v |>.aptWrite (off - 0x300000) v with
    | (t, true) => t
    | (_, false) => s.barDrop 0
  else if fn = 0 ∧ 0x800000 ≤ off ∧ off < 0xE00000 ∧ s.windowLive (16 + (off - 0x800000) / 0x200000) then
    s.bar2Write (16 + (off - 0x800000) / 0x200000) ((off - 0x800000) % 0x200000) v
  else if fn = 0 ∧ s.sup.straps.cohortId = 0 ∧ 0x800000 ≤ off ∧ off < 0xE00000 then s
  else s.barDrop fn

/-- A configuration write (R299, R301, R311, R314, R315, R317): `off` 0x04 is the Command register, 0x10 to 0x27 BAR0 to BAR5; 0x108 Device Control, 0x110 Link Control, 0x128 Device Control 2 and 0x200 on the AER capability are the model's own codes. -/
def State.cfgWrite (s : State) (fn off : Nat) (v : W32) : State :=
  match off with
  | 0x04 => ((s.modHost fn fun h => { h with mse := bitOf v 1 }).setBme fn (bitOf v 2)).setIntDisable fn (bitOf v 10)
  | 0x108 => if bitOf v 15 then s.flr fn true else s.modHost fn fun h => { h with relaxed := bitOf v 4, mrrs := field v 12 3 }
  | 0x110 => s.modHost fn fun h => { h with aspm := field v 0 2 }
  | 0x10 => s.modHost fn fun h => { h with bar0 := barPut (bar0Log fn) h.bar0 false v }
  | 0x14 => s.modHost fn fun h => { h with bar0 := barPut (bar0Log fn) h.bar0 true v }
  | 0x18 => s.modHost fn fun h => { h with bar2 := barPut 21 h.bar2 false v }
  | 0x1C => s.modHost fn fun h => { h with bar2 := barPut 21 h.bar2 true v }
  | 0x20 => s.modHost fn fun h => { h with bar4 := barPut 39 h.bar4 false v }
  | 0x24 => s.modHost fn fun h => { h with bar4 := barPut 39 h.bar4 true v }
  | 0x128 => s.modHost fn fun h => { h with cplRange := field v 0 4, tag10 := bitOf v 12 }
  | 0x204 => s.modHost fn fun h => { h with aerUncorr := w1c h.aerUncorr v }
  | 0x208 => s.modHost fn fun h => { h with aerMask := v }
  | 0x20C => s.modHost fn fun h => { h with aerSeverity := v }
  | 0x210 => s.modHost fn fun h => { h with aerCorr := w1c h.aerCorr v }
  | 0x214 => s.modHost fn fun h => { h with aerCorrMask := v }
  | _ => s

/-- REGISTER_WRITE (R13, R14): `block` is a block index of R548 for a core; for a function 0x100 is BAR0, 0x102 BAR2, 0x110 and 0x112 the same with an access of another size than 4 or 8 bytes, which is ignored and counted (R302), and 0x1FF its configuration space. An access of 8 bytes is two of 4, the lower first. A core that does not reach the register takes an access trap; the sideband has a command of its own. -/
def registerWriteBody (who : Master) (block off : Nat) (v : W32) (s : State) : State :=
  match who with
  | .core c =>
    if ¬ s.ioRuns ∨ 8 ≤ c then s
    else if coreMay c block off ∧ off % 4 = 0 then s.regWrite c block off v
    else s.accessTrap c off
  | .fn f =>
    if 16 ≤ f then s
    else if block = 0x1FF then (if s.cfgLive f then s.cfgWrite f off v else s)
    else if ¬ s.fnLive f ∨ off % 4 ≠ 0 ∨ block = 0x110 ∨ block = 0x112 then (if s.presented f ∧ s.hep.linkUp then s.barDrop f else s)
    else if block = 0x100 then s.bar0Write f off v
    else if block = 0x102 then s.bar2Write f off v
    else s
  | .sideband => s

def execRegisterWrite (who : Master) (block off : Nat) (v : W32) (s : State) : Host.Outcome State Fault Refusal :=
  .next (registerWriteBody who block off v s)

/-! ## Counter snapshots (R521) -/

/-- The ROS counters of each block, by the block prefix index of R548. -/
def rosCounters (ports : Nat) : List (Nat × List Nat) :=
  let per := fun (n : Nat) (l : List Nat) => (seqFrom 1 n).flatMap fun i => l.map fun o => 0x1000 * i + o
  [(0x01, [0x0C, 0x18, 0x28]), (0x02, [0x18, 0x1C, 0x20, 0x24, 0x28]), (0x03, [0x114, 0x118, 0x11C, 0x21C, 0x224, 0x40C]),
   (0x04, [0x08, 0x0C, 0x10, 0x14]), (0x05, per 8 [0x08, 0x0C, 0x20]), (0x06, [0x0C, 0x10, 0x14] ++ per 8 [0x1C, 0x20, 0x24]),
   (0x07, [0x08, 0x0C, 0x10] ++ per 4 [0x10, 0x14]), (0x08, per ports [0x08, 0x0C, 0x10, 0x14, 0x18, 0x1C, 0x20, 0x2C]),
   (0x09, [0x08, 0x0C, 0x10, 0x14, 0x18, 0x1C, 0x20, 0x24, 0x2C, 0x30]), (0x0A, [0x10, 0x14, 0x30, 0x34, 0x54, 0x58, 0x5C]),
   (0x0B, [0x0C, 0x10, 0x14, 0x18, 0x1C, 0x20, 0x24, 0x28]), (0x0C, [0x08, 0x0C, 0x10, 0x14]),
   (0x0D, [0x20, 0x24, 0x28, 0x2C, 0x30, 0x34, 0x38, 0x3C]),
   (0x0E, [0x20, 0x24, 0x28, 0x2C, 0x30, 0x34, 0x38, 0x3C, 0x40, 0x90, 0x94, 0x98, 0x9C, 0xA4, 0xA8])]

/-- The payload of a block's snapshot: its index, the count, and each counter's offset and value. -/
def State.snapshot (s : State) (x : Nat × List Nat) : Bytes :=
  natLe x.1 2 ++ natLe x.2.length 2 ++ x.2.flatMap fun o => natLe o 2 ++ zeros 2 ++ natLe ((s.regRead x.1 o).getD 0) 4

/-- COUNTER_SNAPSHOT (R521): core 5 writes a snapshot of every ROS counter, one record per block; due while core 5 restarts, it is lost and counted. -/
def execCounterSnapshot (s : State) : Host.Outcome State Fault Refusal :=
  .next (
    if s.coreRestarting 5 then s.telemetryLost 0x15
    else (rosCounters s.netPorts).foldl (fun t x => t.telemetry 0x1002 0x15 (s.snapshot x)) s)

end Sys2Proof.Machine
end

