-- ==== Sys2Proof/Machine/Tensor.lean ====
section
/-! DEFINITION. The TENSOR commands, work units, quarters and residency (spec/06 R153 to R173). -/

namespace Sys2Proof.Machine

open Sys2Proof

/-- Runs a TENSOR command's meaning; a tenant without tiles gets 0x92 (R155). -/
def State.tensorCmd (s : State) (r : CmdRef) (opcode : Nat) (used : List (Nat × Nat)) (f : Cmd → State) : State :=
  s.runCmd r 1 opcode used fun c => if s.quartersOf (tenantOf r.fn) = [] then s.finish r 0x92 0 0 else f c

/-! ## The registry (R167, R168) -/

/-- The model limit of a tenant (R176). -/
def State.modelLimit (s : State) (n : Nat) : Nat := s.prof 0xA 0 (0x100 + n) (s.prof 0xA 0 3 256)

/-- Dense bytes of an output row of an image. -/
def imageOut (b : Bytes) : Nat :=
  let l := layerAt b (imageLayers b - 1)
  rowBytes (fmtCode l.ofmt) l.omx l.outF

/-- MODEL_REGISTER (R167). An image beyond every limit is read only so far as to name the field that breaks it. -/
def modelRegisterBody (r : CmdRef) (s : State) : State :=
  s.tensorCmd r 0x01 [(0x10, 8), (0x18, 4), (0x1C, 2)] fun c =>
    let n := tenantOf r.fn
    let len := c.fld 0x18 4
    let id := c.fld 0x1C 2
    if len < 64 then s.failAt r 0x10 0x18
    else
      s.withRead r 0x10 (c.fld 0x10 8) (if 64 + 2048 + 67108864 < len then 64 else len) fun b =>
        if 64 + 32 * imageLayers b + imageWeights b ≠ len then s.failAt r 0x10 0x18
        else
          match imageBad b with
          | some o => s.finish r 0x90 o 0
          | none =>
            let bytes := panesOf len * paneBytes
            if (s.model? n id).isSome then s.finish r 0x93 0 0
            else if s.modelLimit n ≤ (s.ten.models.filter fun m => m.tenant = n).length ∨ 4096 ≤ s.ten.models.length ∨ ¬ s.fitsQuota n bytes then
              s.finish r 0x13 0 0
            else
              match State.mapPanes deviceTable n true false (registryBase n id) 0 (panesOf len) s with
              | none => s.finish r 0x13 0 0
              | some s =>
                match s.fab.writeDev deviceTable (registryBase n id) b with
                | .error e => s.finish r e 0 0
                | .ok (f, h) =>
                  (State.modTen { s with fab := f } fun t =>
                    { t with models := t.models ++ [{ tenant := n, id := id, bytes := len, granules := (imageWeights b + 65535) / 65536, outLen := imageOut b }] }).finishSeen
                    r h 0 bytes 0

def execModelRegister (r : CmdRef) (s : State) : Host.Outcome State Fault Refusal := .next (modelRegisterBody r s)

/-- MODEL_LOAD (R168). -/
def modelLoadBody (r : CmdRef) (s : State) : State :=
  s.tensorCmd r 0x02 [(0x10, 2), (0x12, 1)] fun c =>
    let n := tenantOf r.fn
    let id := c.fld 0x10 2
    let pin := c.byte 0x12 % 2 = 1
    match s.model? n id with
    | none => s.finish r 0x91 0 0
    | some m =>
      if 2 ≤ c.byte 0x12 then s.failAt r 0x10 0x12
      else if 16 * (s.quartersOf n).length < m.granules then s.finish r 0x92 0 0
      else if pin ∧ ¬ (m.pinned ∨ m.pinNext) ∧ 8 * (s.quartersOf n).length < s.pinnedGranules n + m.granules then s.finish r 0x94 0 0
      else if m.resident then ((s.accept r).modModel n id fun m => { m with pinned := m.pinned || decide pin }).finish r 0 0 0
      else (((s.accept r).modModel n id fun m => { m with pinNext := m.pinNext || decide pin }).setProg r [3]).startFetch n id

def execModelLoad (r : CmdRef) (s : State) : Host.Outcome State Fault Refusal := .next (modelLoadBody r s)

/-- MODEL_EVICT (R168, R170): it waits for the runs already granted. -/
def modelEvictBody (r : CmdRef) (s : State) : State :=
  s.tensorCmd r 0x03 [(0x10, 2), (0x12, 1)] fun c =>
    let n := tenantOf r.fn
    let id := c.fld 0x10 2
    match s.model? n id with
    | none => s.finish r 0x91 0 0
    | some m =>
      if 2 ≤ c.byte 0x12 then s.failAt r 0x10 0x12
      else if m.evicts.any fun e => e.1 = r then s.settleEvicts n id
      else (s.modModel n id fun m => { m with evicts := m.evicts ++ [(r, decide (c.byte 0x12 % 2 = 1))] }).settleEvicts n id

def execModelEvict (r : CmdRef) (s : State) : Host.Outcome State Fault Refusal := .next (modelEvictBody r s)

/-! ## Runs (R169) -/

/-- The row stride of a run's buffer. -/
def rowStride (stride dense : Nat) : Nat := if stride = 0 then dense else stride

/-- Addresses and lengths of the input and output rows of a run. -/
def runRows (b : Bytes) (c : Cmd) : Nat × Nat × Nat × Nat :=
  let il := rowBytes (fmtCode (fieldAt b 0x10 1)) (fieldAt b 0x11 1 = 1) (fieldAt b 0xC 4)
  let l := layerAt b (imageLayers b - 1)
  let ol := rowBytes (fmtCode l.ofmt) l.omx l.outF
  (il, rowStride (c.fld 0x30 4) il, ol, rowStride (c.fld 0x34 4) ol)

/-- The registry copy of a model as HBM holds it. -/
def State.registryImage (s : State) (m : Model) : Except Nat Bytes := s.fab.readDev deviceTable (registryBase m.tenant m.id) m.bytes



/-- Reads that a run's input rows still miss: the state that waits for them. -/
def inputHere (r : CmdRef) (c : Cmd) (il is : Nat) : List Nat → State → Rd
  | [], _ => .data []
  | i :: rest, s =>
    match s.readC r.owner r.fn (c.fld 0x18 8 + i * is) il with
    | .data _ => inputHere r c il is rest s
    | x => x

/-- The error count of a run's input or registry copy that cannot be read (R88): the first of them that fails. -/
def State.runFault (s : State) (r : CmdRef) (c : Cmd) (m : Model) (il is : Nat) : State :=
  match s.registryImage m with
  | .error 0x30 => s.memFault deviceTable (registryBase m.tenant m.id) m.bytes false
  | _ =>
    match (seqFrom 0 (c.fld 0x14 4)).find? fun i => match s.readC r.owner r.fn (c.fld 0x18 8 + i * is) il with | .fail 0x30 => true | _ => false with
    | some i => s.memFaultC r.fn (c.fld 0x18 8 + i * is) il false
    | none => s

/-- MODEL_RUN (R169): checked, its input read, and its model fetched where it is not resident; work units then run its rows. -/
def modelRunBody (r : CmdRef) (s : State) : State :=
  s.tensorCmd r 0x04 [(0x10, 2), (0x14, 4), (0x18, 8), (0x20, 8), (0x28, 6), (0x30, 4), (0x34, 4)] fun c =>
    let n := tenantOf r.fn
    let id := c.fld 0x10 2
    let rows := c.fld 0x14 4
    if c.prog ≠ [] then s
    else if rows = 0 ∨ 65536 < rows then s.failAt r 0x10 0x14
    else if c.fld 0x30 4 % 64 ≠ 0 then s.failAt r 0x10 0x30
    else if c.fld 0x34 4 % 64 ≠ 0 then s.failAt r 0x10 0x34
    else
      match s.model? n id with
      | none => s.failAt r 0x91 0
      | some m =>
        if 16 * (s.quartersOf n).length < m.granules then s.failAt r 0x92 0
        else
          match s.registryImage m with
          | .error e => (s.runFault r c m 0 0).failAt r e 0
          | .ok b =>
            let (il, is, _, _) := runRows b c
            match inputHere r c il is (seqFrom 0 rows) s with
            | .wait s' => s'
            | .fail e => (s.runFault r c m il is).failAt r e (detailAt e 0x18 (c.fld 0x18 8))
            | .data _ =>
              if m.resident then s.setProg r [1, rows, 0, 0, 0] else (s.setProg r [2, rows, 0, 0, 0]).startFetch n id

def execModelRun (r : CmdRef) (s : State) : Host.Outcome State Fault Refusal := .next (modelRunBody r s)

/-- The body of MATMUL and PROJECT. -/
def matUsed : List (Nat × Nat) := [(0x10, 8), (0x18, 8), (0x20, 8), (0x28, 8), (0x30, 1), (0x38, 6)]

/-- The error count of a descriptor that cannot be read (R88). -/
def State.descFault (s : State) (r : CmdRef) (c : Cmd) (st i : Nat) : State :=
  if st = 0x30 then s.memFault (tenantOf r.fn) (c.fld (matOffset i) 8) 64 false else s

/-- MATMUL (R160 to R162): checked; work units then compute the output rows. -/
def matmulBody (r : CmdRef) (s : State) : State :=
  s.tensorCmd r 0x10 matUsed fun c =>
    if c.prog ≠ [] then s
    else
      match s.matJob r.fn c with
      | .error (st, i) => (s.descFault r c st i).failAt r st (matOffset i)
      | .ok j => s.setProg r [1, j.d.rows, 0, 0, 0]

def execMatmul (r : CmdRef) (s : State) : Host.Outcome State Fault Refusal := .next (matmulBody r s)

/-- The bytes of a tensor's rows and scales, as far as they can be read. -/
def Fabric.tensorBytes (f : Fabric) (tenant : Nat) (d : Desc) : Bytes :=
  d.spans.flatMap fun x => match f.readDev tenant x.1 x.2 with | .ok b => b | .error _ => []

/-- Keeps what a PROJECT read of Q; one that reuses a Q changed since the queue's previous PROJECT has an undefined output (R163). -/
def State.keepQ (s : State) (r : CmdRef) (c : Cmd) (q : Desc) : State :=
  let at_ := c.fld 0x18 8
  let key := 256 * r.fn + r.q
  let desc := match s.fab.readDev (tenantOf r.fn) at_ 64 with | .ok b => b | .error _ => []
  let now := desc ++ s.fab.tensorBytes (tenantOf r.fn) q
  let stale := c.byte 0x30 / 16 % 2 = 1 ∧ (s.ten.projected.find? key).any fun p => p.desc = at_ ∧ p.bytes ≠ now
  s.modTen fun t => { t with projected := t.projected.put key ⟨at_, now⟩, staleQ := if stale then t.staleQ ++ [r] else t.staleQ }

/-- PROJECT (R163): checked; work units then compute the output rows. -/
def projectBody (r : CmdRef) (s : State) : State :=
  s.tensorCmd r 0x11 matUsed fun c =>
    if c.prog ≠ [] then s
    else
      match s.matJob r.fn c with
      | .error (st, i) => (s.descFault r c st i).failAt r st (matOffset i)
      | .ok j => (s.keepQ r c j.b).setProg r [1, j.d.rows, 0, 0, 0]

def execProject (r : CmdRef) (s : State) : Host.Outcome State Fault Refusal := .next (projectBody r s)

/-! ## Work units (R153, R154, R156) -/

/-- The row ranges of a command's finished work units. -/
def rangesOf : List Nat → List (Nat × Nat)
  | a :: n :: r => (a, n) :: rangesOf r
  | _ => []

/-- Row ranges of a command in work or done. -/
def State.takenRows (s : State) (r : CmdRef) (c : Cmd) : List (Nat × Nat) :=
  rangesOf (c.prog.drop 5) ++ (s.ten.quarters.filterMap fun q => match q.2.work with | some w => if w.ref = r then some (w.lo, w.n) else none | none => none)

/-- The quarter may run a unit of the command: a run uses the quarters its model lies in. -/
def State.mayRun (s : State) (r : CmdRef) (c : Cmd) (q : Nat) : Bool :=
  let u := s.quarter q
  decide (u.owner = tenantOf r.fn) && u.moving.isNone && !u.busy && decide (s.ten.ready / 2 ^ (q / 32) % 2 = 1) && !s.handing 4 &&
    (c.opcode ≠ 4 || match s.model? (tenantOf r.fn) (c.fld 0x10 2) with | some m => m.seats.any fun p => p.1 = q | none => false)

/-- A gang of k × l tiles on some quarters of one die, each free for the command (R152); a unit has its quarters to itself (DESIGN CHOICE, log 42). -/
def State.gangOk (s : State) (r : CmdRef) (c : Cmd) (qs : List Nat) (k l : Nat) : Bool :=
  decide (1 ≤ k ∧ k ≤ 16 ∧ 1 ≤ l ∧ l ≤ 16 ∧ qs.length ≤ k * l ∧ k * l ≤ 16 * qs.length) && Profile.distinct qs &&
    qs.all fun q => s.mayRun r c q && decide (q / 32 = qs.headD 0 / 32)

/-- A command has rows that no unit has taken. -/
def State.hasRows (s : State) (r : CmdRef) (c : Cmd) : Bool :=
  decide (c.prog.getD 0 0 = 1) && decide (((s.takenRows r c).map (·.2)).sum < c.prog.getD 1 0)

/-- It is the queue's turn on a quarter: no other TENSOR queue of its function with work for that quarter was granted longer ago (R67, R154); queues granted equally long ago come in their order. -/
def State.turnOf (s : State) (r : CmdRef) (quarter : Nat) : Bool :=
  let last := fun (q : Nat) => s.ten.grants.getD (256 * r.fn + q) 0
  !((s.con.fn r.fn).queues.any fun x =>
    decide (x.1 ≠ r.q) && decide (x.2.engine = 1) && (decide (last x.1 < last r.q) || (decide (last x.1 = last r.q) && decide (x.1 < r.q))) &&
      x.2.running.any fun c => s.hasRows ⟨r.fn, x.1, c.handle⟩ c && s.mayRun ⟨r.fn, x.1, c.handle⟩ c quarter)

/-- WORK_UNIT_GRANT (R152 to R156, R170, R171): output rows `lo` to `lo + n − 1` of a checked command start on a gang of quarters its tenant holds, `quarter` first; the division into units and gangs is the device's. -/
def workGrantBody (r : CmdRef) (quarter : Nat) (others : List Nat) (k l lo n : Nat) (s : State) : State :=
  match s.cmd? r with
  | none => s
  | some c =>
    if (s.queue r.fn r.q).engine ≠ 1 ∨ c.prog.getD 0 0 ≠ 1 then s
    else
      let t := tenantOf r.fn
      let id := c.fld 0x10 2
      let run := c.opcode = 4
      let granted := c.prog.getD 4 0 = 1
      let m := s.model? t id
      if run ∧ ¬ granted ∧ (m.isNone ∨ m.any fun m => m.evicts.any (·.2)) then s.failAt r 0x91 0
      else if run ∧ m.any fun m => m.evicts.any fun e => !e.2 then s
      else if run ∧ m.any fun m => !m.resident then (s.setProg r (2 :: c.prog.drop 1)).startFetch t id
      else if ¬ s.gangOk r c (quarter :: others) k l ∨ ¬ s.turnOf r quarter ∨ n = 0 ∨ c.prog.getD 1 0 < lo + n ∨
          (s.takenRows r c).any fun p => decide (lo < p.1 + p.2 ∧ p.1 < lo + n) then s
      else
        let s := s.setProg r (c.prog.take 4 ++ [1] ++ c.prog.drop 5)
        let switch := run ∧ (quarter :: others).any fun q => (s.quarter q).loaded ≠ some (t, id)
        let s := if switch then s.tenCount t fun k => { k with switches := satInc k.switches } else s
        let w : Work := { ref := r, lo := lo, n := n, k := k, l := l, model := if run then some (t, id) else none
                          image := if run then (m.map (·.bench)).getD [] else [] }
        let load := if run then some (t, id) else none
        let s := others.foldl (fun s q => s.modQuarter q fun u => { u with helps := some quarter, loaded := load }) s
        let s := (s.modQuarter quarter fun q => { q with work := some w, loaded := load }).modTen fun t =>
          { t with grantClock := t.grantClock + 1, grants := t.grants.put (256 * r.fn + r.q) (t.grantClock + 1) }
        if run then
          (s.modModel t id fun m => { m with lastRun := s.ten.runClock + 1 }).modTen fun t => { t with runClock := t.runClock + 1 }
        else s

def execWorkUnitGrant (r : CmdRef) (quarter : Nat) (others : List Nat) (k l lo n : Nat) (s : State) : Host.Outcome State Fault Refusal :=
  .next (workGrantBody r quarter others k l lo n s)

/-- Panes of a tenant's device range with writes not yet admitted. -/
def Fabric.heldPanes (f : Fabric) (tenant off n : Nat) : List Nat :=
  match f.translateAll tenant true (chunks paneBytes off n) with
  | .error _ => []
  | .ok l => (l.map fun p => paneOf p.1).filter fun p =>
      f.ctrls.any fun c => (c.2.held ++ c.2.waiting).any fun w => decide (paneOf w.pa = p)

/-- A work unit's command fails: the output tensor of a matrix command is undefined over its whole extent (R159), and a run's output is with its final status (R169). -/
def State.unitFail (s : State) (r : CmdRef) (c : Cmd) (st detail : Nat) : State :=
  let s :=
    if c.opcode = 4 then s
    else
      match s.matJob r.fn c with | .ok j => s.scrambleTensor r.fn j.d | .error _ => s
  (s.modTen fun t => { t with staleQ := t.staleQ.filter (· ≠ r) }).failAt r st detail

/-- The detail of a unit of a run that fails (R116): an address that is not valid is that of its input, or else of its output. -/
def State.runDetail (s : State) (r : CmdRef) (c : Cmd) (b : Bytes) (st : Nat) : Nat :=
  let (il, is, _, _) := runRows b c
  match inputHere r c il is (seqFrom 0 (c.fld 0x14 4)) s with
  | .fail _ => detailAt st 0x18 (c.fld 0x18 8)
  | _ => detailAt st 0x20 (c.fld 0x20 8)

/-- The rows of a run, from the weights in bench SRAM, written to the output. -/
def State.runRowsOut (r : CmdRef) (c : Cmd) (b : Bytes) : List Nat → Nat → Nat → State → Except Nat (State × Nat × Nat)
  | [], sat, drop, s => .ok (s, sat, drop)
  | i :: rest, sat, drop, s =>
    let (il, is, _, os) := runRows b c
    match s.readC r.owner r.fn (c.fld 0x18 8 + i * is) il with
    | .fail e => .error e
    | .wait _ => .error 0x20
    | .data raw =>
      let t := tenantOf r.fn
      let (o, a, d) := runLayers b (s.srSeed t) (c.fld 0x28 6) (c.fld 0x10 2) i (imageLayers b) 0
        (fmtCode (fieldAt b 0x10 1) == 9 && fieldAt b 0x11 1 == 0) (inputRow b raw) (([], []), 0, 0)
      match s.writeC r.fn (c.fld 0x20 8 + i * os) (outputRow b o) with
      | .error e => .error e
      | .ok (s, _) => State.runRowsOut r c b rest (sat + a) (drop + d) s

/-- Adds saturations and dropped products to the device's counters (R162). -/
def State.tenTotals (s : State) (sat drop : Nat) : State :=
  let s := s.tick.modTen fun t => { t with intSat := satAdd t.intSat sat, exactDrop := satAdd t.exactDrop drop }
  let s := if sat = 0 then s else s.tenEvent 2
  if drop = 0 then s else s.tenEvent 3

/-- A work unit is done: its rows are counted, and the command completes with the last one; `out` is the output tensor of a matrix command. -/
def State.unitDone (s : State) (w : Work) (c : Cmd) (out : Option Desc) (sat drop : Nat) : State :=
  let s := s.tenTotals sat drop
  let p := c.prog
  let sat := satAdd (p.getD 2 0) sat
  let drop := satAdd (p.getD 3 0) drop
  let prog := [1, p.getD 1 0, sat, drop, 1] ++ p.drop 5 ++ [w.lo, w.n]
  let s := s.setProg w.ref prog
  let t := tenantOf w.ref.fn
  if ((rangesOf (prog.drop 5)).map (·.2)).sum < p.getD 1 0 then s
  else if c.opcode = 4 then
    let (_, _, ol, os) := runRows w.image c
    let h := (seqFrom 0 (p.getD 1 0)).flatMap fun i =>
      match s.ownDev (c.fld 0x20 8 + i * os) with | some off => s.fab.heldPanes t off ol | none => []
    s.finishSeen w.ref h 0 (p.getD 1 0) (sat + drop * 2 ^ 32)
  else
    match out with
    | none => s.finish w.ref 0 0 0
    | some d =>
      let h := (seqFrom 0 d.rows).flatMap fun i => s.fab.heldPanes t (d.rowAt i).1 (d.rowAt i).2
      (s.modTen fun t => { t with staleQ := t.staleQ.filter (· ≠ w.ref) }).finishSeen w.ref h 0 d.elems (sat + drop * 2 ^ 32)

/-- Where an SRAM error lies, as TNS_LAST_SRAM_ERR. -/
def sramWord (quarter tile : Nat) (bench bad : Bool) : W32 := w32 (pack [(0, quarter), (7, tile % 16), (11, b2n bench), (12, b2n bad)])

/-- Nanoseconds of a day. -/
def dayNs : Nat := 86400000000000

/-- An SRAM error of a quarter (R159): 1 and 3 corrected in tile and bench SRAM, 2 and 4 uncorrectable. -/
def State.sramError (s : State) (quarter tile sram : Nat) : State :=
  let bad := sram % 2 = 0
  let s := (s.modTen fun t =>
    { t with
      ceCount := if bad then t.ceCount else satInc t.ceCount
      ueCount := if bad then satInc t.ueCount else t.ueCount
      lastErr := sramWord quarter tile (3 ≤ sram) bad }).tenEvent (if bad then 1 else 0)
  if bad then
    let now := s.tal.ns.getD 0x14 0 % 2 ^ 63
    let ues := ((s.quarter quarter).ues.filter fun t => decide (now < t + dayNs)) ++ [now]
    let s := s.modQuarter quarter fun q => { q with ues := ues }
    if 3 ≤ ues.length then
      (s.tenEvent 5).report { source := 0x14, severity := 2, bit := 5, reg := 4, block := 0xC, d0 := s.ten.events.toNat }
    else s.report { source := 0x14, severity := 2, status := 0x30, bit := 1, reg := 4, block := 0xC, d0 := s.ten.events.toNat }
  else s.report { source := 0x14, severity := 1, bit := 0, reg := 4, block := 0xC, d0 := s.ten.events.toNat }

/-- A quarter's gang is free again. -/
def State.freeGang (s : State) (quarter : Nat) : State :=
  s.modTen fun t => { t with quarters := t.quarters.mapVal fun q u =>
    if q = quarter then { u with work := none } else if u.helps = some quarter then { u with helps := none } else u }

/-- The error count of an operand a unit cannot read, or a row it cannot write (R88): the first that fails. -/
def State.matFault (s : State) (tenant : Nat) (j : MatJob) (rows : List Nat) : State :=
  let (k, m, _) := j.kmn
  let at_ := fun (d : Desc) (i : Nat) => [d.rowAt i, d.scaleAt i]
  let reads := rows.flatMap fun row =>
    (if j.ta then seqFrom (row / m * k) k else [row]).flatMap (at_ j.a) ++ (seqFrom (row / m * j.b.dim 1) (j.b.dim 1)).flatMap (at_ j.b) ++
      (match j.c with | some d => at_ d row | none => [])
  match reads.find? fun x => match s.fab.readDev tenant x.1 x.2 with | .error 0x30 => true | _ => false with
  | some x => s.memFault tenant x.1 x.2 false
  | none =>
    match (rows.flatMap (at_ j.d)).find? fun x => match s.fab.writeDev tenant x.1 (zeros x.2) with | .error 0x30 => true | _ => false with
    | some x => s.memFault tenant x.1 x.2 true
    | none => s

/-- What a unit that has ended leaves in its command: its rows, or its failure. -/
def State.unitEnds (s : State) (w : Work) (c : Cmd) (sram : Nat) : State :=
  let t := tenantOf w.ref.fn
  if sram = 2 ∨ sram = 4 then s.unitFail w.ref c 0x30 0
  else if c.opcode = 4 then
    match State.runRowsOut w.ref c w.image (seqFrom w.lo w.n) 0 0 s with
    | .error e =>
      let (il, is, _, _) := runRows w.image c
      (match s.model? t (c.fld 0x10 2) with | some m => s.runFault w.ref c m il is | none => s).unitFail w.ref c e (s.runDetail w.ref c w.image e)
    | .ok (s, sat, drop) => s.unitDone w c none sat drop
  else
    match s.matJob w.ref.fn c with
    | .error (e, i) => s.unitFail w.ref c e (if e = 0x10 ∨ e = 0x11 then matOffset i else 0)
    | .ok j =>
      match State.matRows t j (seqFrom w.lo w.n) [] 0 0 s with
      | .error e => (s.matFault t j (seqFrom w.lo w.n)).unitFail w.ref c e 0
      | .ok (s, _, sat, drop) => s.unitDone w c (some j.d) sat drop

/-- WORK_UNIT_DONE (R153, R159): the unit computes and writes its rows, unless its SRAM showed an uncorrectable error; one in a model's weights in bench SRAM drops its residency. What waited for the unit goes on. -/
def workDoneBody (quarter tile sram : Nat) (s : State) : State :=
  match (s.quarter quarter).work with
  | none => s
  | some w =>
    let s := s.freeGang quarter
    let s := if 1 ≤ sram ∧ sram ≤ 4 then s.sramError quarter tile sram else s
    let s := match s.cmd? w.ref with | none => s | some c => s.unitEnds w c sram
    let (t, id) := w.model.getD (tenantOf w.ref.fn, 65536)
    let s := if sram = 4 then s.modModel t id Model.drop else s
    (s.settleEvicts t id).pokeFetches t

def execWorkUnitDone (quarter tile sram : Nat) (s : State) : Host.Outcome State Fault Refusal := .next (workDoneBody quarter tile sram s)

/-! ## Quarters that change owner (R156) -/

/-- Appends a setting's record; its command completes when the record is programmed (R56). A new quota shows in the descriptor table (R307). -/
def State.putSetting (s : State) (r : CmdRef) (tenant setting index value : Nat) : State :=
  let (b, ops) := s.boot.appendSetting s.fl (Profile.generation s.boot.profile) ⟨tenant, setting, index, value, s.boot.settingsFormat⟩
  let s := if setting = 1 then s.ddtUpdate else s
  State.flashSubmit { s with boot := b } (ops ++ [.note (.command r 0 0 0)])

/-- The first `n` of some quarters, those of one die where it has enough: a die the tenant has quarters on comes first (R158). -/
def nearFirst (have' free : List Nat) (n : Nat) : List Nat :=
  let near := free.filter fun q => have'.any fun p => p / 32 = q / 32
  let all := near ++ free.filter fun q => !(near.contains q)
  match ([0, 1, 2, 3].map fun d => all.filter fun q => q / 32 = d).find? fun l => decide (n ≤ l.length) && (have' = [] || l.any near.contains) with
  | some l => l.take n
  | none => all.take n

/-- Marks the quarters that a new allotment of a tenant moves (R156): from tenant 0, those reserved for its projections last, or back to it, keeping the tenant on one die where it can (R158). -/
def State.planMoves (s : State) (tenant tiles : Nat) : State :=
  let have' := s.quartersOf tenant
  let want := tiles / 16
  if have'.length < want then
    let proj := s.projQuarters
    let free := (s.quartersOf 0).filter fun q => (s.quarter q).moving.isNone && !(proj.contains q)
    let free := if want - have'.length ≤ free.length then free else (s.quartersOf 0).filter fun q => (s.quarter q).moving.isNone
    (nearFirst have' free (want - have'.length)).foldl (fun s q => s.modQuarter q fun u => { u with moving := some tenant }) s
  else
    let keep := nearFirst [] have' want
    (have'.filter fun q => !(keep.contains q)).foldl (fun s q => s.modQuarter q fun u => { u with moving := some 0 }) s

/-- Completes the TENANT_SET commands whose tenants have no quarter left to move. -/
def State.settleMoves (s : State) : State :=
  s.ten.moves.foldl (fun s m =>
    if allQuarters.any fun q => decide ((s.quarter q).moving = some m.2.1 ∨ ((s.quarter q).moving.isSome ∧ (s.quarter q).owner = m.2.1)) then s
    else (s.modTen fun t => { t with moves := t.moves.filter (· ≠ m) }).putSetting m.1 m.2.1 2 0 m.2.2) s

/-- QUARTER_REASSIGN (R156, R157): a quarter whose allotment changes and whose work unit has finished is cleared and changes owner; a model resident in it loses its residency and pin. -/
def reassignBody (quarter : Nat) (s : State) : State :=
  let u := s.quarter quarter
  match u.moving, u.busy with
  | some n, false =>
    let lost := s.ten.models.filter fun m => decide (0 < m.inQuarter quarter)
    let s := lost.foldl (fun s m =>
      (s.modModel m.tenant m.id Model.drop).report
        { source := 0x41, severity := 1, block := 0xC, d0 := m.tenant, d1 := m.id, d2 := quarter }) s
    State.settleMoves ((s.modQuarter quarter fun u => { owner := n, ues := u.ues }).ddtUpdate.pokeFetches u.owner)
  | _, _ => s

def execQuarterReassign (quarter : Nat) (s : State) : Host.Outcome State Fault Refusal := .next (reassignBody quarter s)

/-! ## Fetch and migration (R171, R173) -/

/-- A fetch fills the tiles of the model's quarters in one pass with their bench SRAM (R171), where no unit runs. -/
def State.loadTiles (s : State) (m : Model) : State :=
  m.seats.foldl (fun s p => s.modQuarter p.1 fun u => if u.busy then u else { u with loaded := some (m.tenant, m.id) }) s

/-- MODEL_FETCH_DONE (R171): the weights are in bench SRAM and tiles; loads of the model complete and its runs may start, and what waited for the fetch goes on (R168, R172). -/
def fetchDoneBody (tenant id : Nat) (s : State) : State :=
  match s.model? tenant id with
  | none => s
  | some m =>
    if ¬ m.fetching then s
    else
      let ws := s.fetchWaiters tenant id
      let s :=
        match s.registryImage m with
        | .error e =>
          ws.foldl (fun (s : State) (w : CmdRef × Cmd) => s.finish w.1 e 0 0)
            (s.modModel tenant id fun m => { m.drop with pinNext := false })
        | .ok b =>
          let s := (s.loadTiles m).modModel tenant id fun m => { m with fetching := false, bench := b, pinned := m.pinned || m.pinNext, pinNext := false }
          ws.foldl (fun (s : State) (w : CmdRef × Cmd) => if w.2.opcode = 4 then s.setProg w.1 (1 :: w.2.prog.drop 1) else s.finish w.1 0 (imageWeights b) 0) s
      (s.settleEvicts tenant id).pokeFetches tenant

def execModelFetchDone (tenant id : Nat) (s : State) : Host.Outcome State Fault Refusal := .next (fetchDoneBody tenant id s)

/-- RESIDENCY_MIGRATION (R173): a resident model with no running work unit moves to other quarters of its tenant, bench SRAM to bench SRAM. -/
def migrateBody (tenant id : Nat) (seats : List (Nat × Nat)) (s : State) : State :=
  match s.model? tenant id with
  | none => s
  | some m =>
    let others := fun q => s.granulesIn q - m.inQuarter q
    if ¬ m.resident ∨ s.modelUnits tenant id ∨ (seats.map (·.2)).sum ≠ m.granules ∨ ¬ Profile.distinct (seats.map (·.1)) ∨ seats = m.seats ∨
        ¬ seats.all fun p => decide (p.1 < 128 ∧ 0 < p.2 ∧ others p.1 + p.2 ≤ 16 ∧ (s.quarter p.1).owner = tenant ∧ (s.quarter p.1).moving.isNone) then s
    else (s.modModel tenant id fun m => { m with seats := seats }).tenCount tenant fun c => { c with migrations := satInc c.migrations }

def execResidencyMigration (tenant id : Nat) (seats : List (Nat × Nat)) (s : State) : Host.Outcome State Fault Refusal :=
  .next (migrateBody tenant id seats s)

end Sys2Proof.Machine
end

