-- ==== Sys2Proof/Machine/Service.lean ====
section
/-! DEFINITION. The SERVICE commands of the contract: queries, tenant settings, device memory, profile staging, diagnostics, restart and security associations (spec/04 R111 to R114, spec/09 R267, R268, spec/02 R57, spec/21 R548, R549, spec/13 R370). -/

namespace Sys2Proof.Machine

open Sys2Proof

/-- Writes a command's answer to its dst; an address that fails is named by its byte in the command (R116, R117). -/
def State.answer (s : State) (r : CmdRef) (dst off : Nat) (bs : Bytes) (status r0 r1 : Nat) : State :=
  match s.writeC r.fn dst bs with
  | .error e => s.writeFails r e off dst bs.length
  | .ok (s, h) => s.finishSeen r h status r0 r1

/-! ## Queries (R114, R267, R268) -/

/-- HBM in service in bytes: trained stacks less the withdrawn panes (R90). -/
def State.hbmInService (s : State) : Nat :=
  ((seqFrom 0 8).filter fun i => (s.fab.ctrl i).trained).length * 2 ^ 36 - s.fab.withdrawn.length * paneBytes

/-- The quota of a tenant in bytes; tenant 0 has its job space (R114, R183). -/
def State.quotaBytes (s : State) (n : Nat) : Nat := if n = 0 then s.jobSpace else s.quotaGib n * 2 ^ 30

/-- The capability block of QUERY_DEVICE (R114). -/
def State.capability (s : State) (fn : Nat) : Bytes :=
  let n := tenantOf fn
  natLe s.con.fnContract.toNat 4 ++ natLe s.boot.version 4 ++ natLe 0x7400 8 ++ natLe (s.quotaBytes n) 8 ++ natLe s.hbmInService 8 ++
    natLe 4096 4 ++ natLe (qlimitsWord fn).toNat 4 ++ natLe (s.modelLimit n) 4 ++ zeros 20

/-- QUERY_DEVICE (R114). -/
def queryDeviceBody (r : CmdRef) (s : State) : State :=
  s.runCmd r 5 0x01 [(0x10, 8)] fun c => s.answer r (c.fld 0x10 8) 0x10 (s.capability r.fn) 0 0 0

def execQueryDevice (r : CmdRef) (s : State) : Host.Outcome State Fault Refusal := .next (queryDeviceBody r s)

/-- Bytes of a tenant's registry copies (R167). -/
def State.registryBytes (s : State) (n : Nat) : Nat :=
  (((s.ten.models.filter fun m => m.tenant = n).map fun m => panesOf m.bytes).sum) * paneBytes

/-- The device block (kind 1). -/
def State.deviceBlock (s : State) : Bytes :=
  let parison := s.parisonPanes * paneBytes
  let held := (s.fab.placed.filter fun p => p.2 ≠ parisonOwner).length * paneBytes
  natLe s.hbmInService 8 ++ natLe (s.fab.withdrawn.length * paneBytes) 8 ++ natLe s.jobSpace 8 ++ natLe parison 8 ++
    natLe (((s.tenants.map s.quotaGib).sum) * 2 ^ 30) 8 ++ natLe (s.hbmInService - 8 * 2 ^ 25 - parison - held - s.leh.slotBytes) 8

/-- The tenant block (kind 2). -/
def State.tenantBlock (s : State) (n : Nat) : Bytes :=
  let q := (s.quartersOf n).length
  let seated := ((s.ten.models.filter fun m => m.tenant = n && m.resident).map (·.granules)).sum
  natLe (s.quotaBytes n) 8 ++ natLe (s.charged n - s.registryBytes n) 8 ++ natLe (s.registryBytes n) 8 ++ natLe (seated * 65536) 8 ++
    natLe (q * 2 ^ 20) 8 ++ natLe (q * 2 ^ 21) 8

/-- Where a buddy holds a rank's slot: 1 HBM, 2 drive, as the last epoch that placed it says; 1 before any has. -/
def State.slotKind (s : State) (rank buddy : Nat) : Nat :=
  let own := if rank = s.jobRank then s.leh.cur.bind fun e => e.kinds.find? buddy else none
  let man := s.leh.held.head?.bind fun c =>
    let old := Manifest.table c.manifest
    match Manifest.rankOf c.manifest (tableSerial s.mem.table rank), Manifest.rankOf c.manifest (tableSerial s.mem.table buddy) with
    | some r, some b => if r < tableN old then ((Manifest.holders c.manifest r).find? fun h => decide (h.1 ≤ 2 ∧ h.2 = b)).map (·.1) else none
    | _, _ => none
  match own, man with
  | some k, _ => k
  | none, some k => if k = 2 then 2 else 1
  | none, none => 1

/-- The job-rank block (kind 3). -/
def State.rankBlock (s : State) (rank : Nat) : Bytes :=
  let n := tableN s.mem.table
  let range := shardRange s.ann.p n rank
  let t := s.buddyTable.getD []
  let bs := t.getD rank []
  let served := (t.filter fun p => p.2.contains rank).map (·.1)
  natLe rank 4 ++ natLe n 4 ++ natLe range.1 8 ++ natLe (range.2 - range.1) 8 ++ natLe s.mem.recorder 4 ++ natLe s.mem.standby 4 ++
    natLe bs.length 4 ++ natLe served.length 4 ++ bs.flatMap (fun b => natLe b 4 ++ natLe (s.slotKind rank b) 1 ++ zeros 3) ++
    served.flatMap fun x => natLe x 4

/-- The block of a query, or the status and offset that refuse it. -/
def State.placementBlock (s : State) (fn : Nat) (c : Cmd) : Except (Nat × Nat) Bytes :=
  let kind := c.byte 0x18
  let rank := c.fld 0x1C 4
  let block := fun (gen : Nat) (b : Bytes) => natLe kind 1 ++ zeros 3 ++ natLe gen 4 ++ natLe (16 + b.length) 8 ++ b
  if tenantOf fn ≠ 0 ∧ (kind ≠ 2 ∨ c.byte 0x19 ≠ tenantOf fn) then .error (0x12, 0)
  else if kind = 0 ∨ 3 < kind then .error (0x10, 0x18)
  else if kind = 2 ∧ (15 < c.byte 0x19 ∨ ¬ s.tenantOn (c.byte 0x19)) then .error (0x10, 0x19)
  else if kind = 3 ∧ (if s.mem.joined then tableN s.mem.table ≤ rank ∧ rank ≠ 0xFFFFFFFF else rank ≠ 0xFFFFFFFF) then .error (0x10, 0x1C)
  else if c.fld 0x20 4 < 64 then .error (0x10, 0x20)
  else if kind = 1 then .ok (block s.mem.gen s.deviceBlock)
  else if kind = 2 then .ok (block s.mem.gen (s.tenantBlock (c.byte 0x19)))
  else if ¬ s.mem.joined then .ok (block 0 (zeros 40))
  else .ok (block s.mem.gen (s.rankBlock (if rank = 0xFFFFFFFF then s.jobRank else rank)))


/-- PLACEMENT_QUERY (R267, R268): a block longer than `length` is cut, and its header still gives the full size. -/
def placementQueryBody (r : CmdRef) (s : State) : State :=
  s.runCmd r 5 0x02 [(0x10, 8), (0x18, 1), (0x19, 1), (0x1C, 4), (0x20, 4)] fun c =>
    match s.placementBlock r.fn c with
    | .error e => s.failAt r e.1 e.2
    | .ok b =>
      let out := b.take (c.fld 0x20 4)
      s.answer r (c.fld 0x10 8) 0x10 out 0 out.length 0

def execPlacementQuery (r : CmdRef) (s : State) : Host.Outcome State Fault Refusal := .next (placementQueryBody r s)

/-! ## TENANT_SET (R54, R114, R156, R388) -/

/-- The tenant of a class node: its tenant node's. -/
def State.classTenant (s : State) (i : Nat) : Option Nat :=
  match s.node (classKey i) with
  | none => none
  | some b => if 480 ≤ nodeParent b then some 16 else (s.node (tenantKey (nodeParent b))).map fun t => fieldAt t 2 1

/-- The status and offset that refuse a TENANT_SET; none where it may go on. -/
def State.tenantSetBad (s : State) (c : Cmd) : Option (Nat × Nat) :=
  let n := c.byte 0x10; let k := c.byte 0x11; let i := c.fld 0x12 2; let v := c.fld 0x18 8
  let inside := fun (x : Option (Nat × Nat)) => match x with | some y => decide (y.1 ≤ v ∧ v ≤ y.2) | none => false
  if 15 < n ∨ (n ≠ 0 ∧ ¬ s.tenantOn n) then some (0x10, 0x10)
  else if k = 0 ∨ 5 < k then some (0x10, 0x11)
  else if 4 ≤ k ∧ n ≠ 0 then some (0x10, 0x10)
  else if k ≤ 3 ∧ n = 0 then some (0x10, 0x10)
  else if k ≠ 3 ∧ i ≠ 0 then some (0x10, 0x12)
  else if k = 1 then
    if s.prof 4 n 2 16 < v then some (0x10, 0x18) else if v * 2 ^ 30 < s.charged n then some (0x13, 0) else none
  else if k = 2 then (if v % 16 ≠ 0 ∨ s.prof 4 n 3 0 / 16 * 16 < v then some (0x10, 0x18) else none)
  else if k = 3 then
    match s.classTenant i with
    | none => some (0x10, 0x12)
    | some t =>
      let most := s.prof 7 0 (0x100 + n) 0
      if t ≠ n then some (0x12, 0) else if most < v ∨ (v = 0 ∧ most ≠ 0) then some (0x10, 0x18) else none
  else if k = 4 then (if inside (Profile.range 3 6) then none else some (0x10, 0x18))
  else if inside (Profile.range 3 7) then none else some (0x10, 0x18)

/-- The command is past its checks: its setting is being appended, or its quarters move. -/
def State.settingGoesOn (s : State) (r : CmdRef) : Bool :=
  (s.ten.moves.any fun m => decide (m.1 = r)) || s.fl.queue.any fun o => match o with | .note (.command x _ _ _) => decide (x = r) | _ => false

/-- TENANT_SET: a tile allotment first moves its quarters; a change of the same tenant's tiles waits for the one before. -/
def tenantSetBody (r : CmdRef) (s : State) : State :=
  s.runCmd r 5 0x10 [(0x10, 1), (0x11, 1), (0x12, 2), (0x18, 8)] fun c =>
    if s.settingGoesOn r then s
    else
      match s.tenantSetBad c with
      | some e => s.failAt r e.1 e.2
      | none =>
        let n := c.byte 0x10; let v := c.fld 0x18 8
        if c.byte 0x11 = 2 then
          if s.ten.moves.any fun m => decide (m.2.1 = n) then s
          else ((s.planMoves n v).modTen fun t => { t with moves := t.moves ++ [(r, n, v)] }).settleMoves
        else s.putSetting r n (c.byte 0x11) (c.fld 0x12 2) v

def execTenantSet (r : CmdRef) (s : State) : Host.Outcome State Fault Refusal := .next (tenantSetBody r s)

/-! ## Device memory of a tenant (R112) -/

/-- The range of PANE_MAP and PANE_UNMAP: its tenant, offset and panes, or the status and offset that refuse it. -/
def State.paneArgs (s : State) (fn : Nat) (c : Cmd) : Except (Nat × Nat) (Nat × Nat × Nat) :=
  match s.tenantArg fn 0x10 c with
  | .error e => .error e
  | .ok n =>
    let off := c.fld 0x18 8; let len := c.fld 0x20 8
    if off % paneBytes ≠ 0 ∨ 2 ^ 39 ≤ off then .error (0x10, 0x18)
    else if len % paneBytes ≠ 0 ∨ len = 0 ∨ 2 ^ 39 < off + len then .error (0x10, 0x20)
    else .ok (n, off, len / paneBytes)

/-- PANE_MAP (R112): all unmapped panes of the range, or none. -/
def paneMapBody (r : CmdRef) (s : State) : State :=
  s.runCmd r 5 0x13 [(0x10, 1), (0x18, 8), (0x20, 8)] fun c =>
    match s.paneArgs r.fn c with
    | .error e => s.failAt r e.1 e.2
    | .ok (n, off, k) =>
      let new := (k - (s.fab.mappedIn n off k).length) * paneBytes
      if ¬ s.fitsQuota n new ∨ s.fab.freeCount * paneBytes < new then s.finish r 0x13 0 0
      else
        match State.mapPanes n n false false off 0 k s with
        | some s => s.finish r 0 new 0
        | none => s.finish r 0x13 0 0

def execPaneMap (r : CmdRef) (s : State) : Host.Outcome State Fault Refusal := .next (paneMapBody r s)

/-- PANE_UNMAP (R112). -/
def paneUnmapBody (r : CmdRef) (s : State) : State :=
  s.runCmd r 5 0x14 [(0x10, 1), (0x18, 8), (0x20, 8)] fun c =>
    match s.paneArgs r.fn c with
    | .error e => s.failAt r e.1 e.2
    | .ok (n, off, k) =>
      let held := s.fab.mappedIn n off k
      if held.any (·.forJob) then s.finish r 0x12 0 0
      else (s.unmap n off k).finish r 0 (held.length * paneBytes) 0

def execPaneUnmap (r : CmdRef) (s : State) : Host.Outcome State Fault Refusal := .next (paneUnmapBody r s)

/-! ## PROFILE_STAGE (R57, R437) -/

/-- A profile that passed its checks goes to the inactive slot; pending_profile follows, then the final record. -/
def State.stageProfile (s : State) (r : CmdRef) (p : Bytes) : State :=
  let slot := 1 - s.boot.dir.activeProfile % 2
  let g := Profile.generation p
  (((s.accept r).flashSubmit (writeRegion (slotBase slot) p)).setDir fun d => { d with pendingProfile := slot }).flashSubmit
    [.note (.command r 0 g slot)]

/-- PROFILE_STAGE. DESIGN CHOICE (log 37): R57 compares the generation with the active profile's and does not say what it is compared with where none is active; the model skips the comparison in a safe start and takes generation 0 for an unowned device. -/
def profileStageBody (r : CmdRef) (s : State) : State :=
  s.runCmd r 5 0x42 [(0x10, 8), (0x18, 4)] fun c =>
    let n := c.fld 0x18 4
    if c.accepted then s
    else if n = 0 ∨ 0x400000 < n then s.failAt r 0x10 0x18
    else
      s.withRead r 0x10 (c.fld 0x10 8) n fun p =>
        if s.boot.unowned ∧ slice p 0 4 = ascii "AKPV" then
          if n ≠ 1200 then s.failAt r 0x10 0x18
          else
            match s.provision p with
            | (s, .error e) => s.finish r e 0 0
            | (s, .ok k) => (s.accept r).finish r 0 k 0
        else if Profile.total p ≠ n then s.failAt r 0x10 0x18
        else
          let st := Profile.refusal (s.profEnv s.boot.version s.con.fnContract) p
          let old := ¬ s.boot.safe ∧ Profile.generation p ≤ Profile.generation s.boot.profile
          if st ≠ 0 ∨ old then
            (s.profileRefused p (1 - s.boot.dir.activeProfile % 2)).finish r (if st ≠ 0 then st else 0x10) 0 0
          else s.stageProfile r p

def execProfileStage (r : CmdRef) (s : State) : Host.Outcome State Fault Refusal := .next (profileStageBody r s)

/-! ## RESTART (R62, R114) -/

/-- RESTART: the warm reset with its orderly phase; the command posts no record. -/
def restartBody (r : CmdRef) (s : State) : State :=
  s.runCmd r 5 0x5F [(0x10, 4)] fun c =>
    if c.fld 0x10 4 ≠ 0x52455354 then s.failAt r 0x10 0x10
    else
      ((s.dropArrived r.owner).modQueue r.fn r.q fun u => { u with running := u.running.filter fun d => d.handle ≠ r.handle }).orderlyReset 2

def execRestart (r : CmdRef) (s : State) : Host.Outcome State Fault Refusal := .next (restartBody r s)

/-! ## DIAG_READ (R548, R549) -/

/-- Kind 1: a register's 4 bytes; a read-clear register is cleared. -/
def State.diagRegister (s : State) (r : CmdRef) (c : Cmd) : State :=
  let off := c.fld 0x14 4
  if off % 4 ≠ 0 then s.failAt r 0x10 0x14
  else
    match s.regRead (c.fld 0x12 2) off with
    | none => s.failAt r 0x11 (if 0x0E < c.fld 0x12 2 ∨ c.fld 0x12 2 = 0 then 0x12 else 0x14)
    | some v =>
      match s.writeC r.fn (c.fld 0x18 8) (natLe v 4) with
      | .error e => s.writeFails r e 0x18 (c.fld 0x18 8) 4
      | .ok (t, h) => (t.readClear (c.fld 0x12 2) off).finishSeen r h 0 v 0

/-- Kind 2: the fault log; with wait set and no entry at the cursor the command goes on waiting. -/
def State.diagFaults (s : State) (r : CmdRef) (c : Cmd) : State :=
  if s.log.count < c.fld 0x20 8 then s.failAt r 0x10 0x20
  else if c.byte 0x11 % 2 = 1 ∧ c.fld 0x20 8 = s.log.count then
    if s.log.waiters.contains r then s else { s with log := { s.log with waiters := s.log.waiters ++ [r] } }
  else s.diagLog r c

/-- Kind 3: the telemetry ring. -/
def State.diagTelemetry (s : State) (r : CmdRef) (c : Cmd) : State :=
  let cur := c.fld 0x20 8
  if s.tel.cursor < cur then s.failAt r 0x10 0x20
  else
    let (rs, next) := s.tel.readFrom cur (c.fld 0x28 4)
    let b := rs.flatMap (·.bytes)
    s.answer r (c.fld 0x18 8) 0x18 b (if cur < s.tel.oldest then 0xB0 else 0) b.length next

/-- DIAG_READ. -/
def diagReadBody (r : CmdRef) (s : State) : State :=
  s.runCmd r 5 0x50 [(0x10, 1), (0x11, 1), (0x12, 2), (0x14, 4), (0x18, 8), (0x20, 8), (0x28, 4)] fun c =>
    let kind := c.byte 0x10
    if kind = 0 ∨ 3 < kind then s.failAt r 0x10 0x10
    else if 2 ≤ c.byte 0x11 ∨ (c.byte 0x11 % 2 = 1 ∧ kind ≠ 2) then s.failAt r 0x10 0x11
    else if c.fld 0x18 8 % 8 ≠ 0 then s.failAt r 0x10 0x18
    else if kind = 1 then s.diagRegister r c
    else if c.fld 0x28 4 < 64 ∨ 65536 < c.fld 0x28 4 ∨ c.fld 0x28 4 % 64 ≠ 0 then s.failAt r 0x10 0x28
    else if kind = 2 then s.diagFaults r c
    else s.diagTelemetry r c

def execDiagRead (r : CmdRef) (s : State) : Host.Outcome State Fault Refusal := .next (diagReadBody r s)

/-! ## SA_INSTALL and SA_REMOVE (R370) -/

/-- SA_INSTALL. -/
def saInstallBody (r : CmdRef) (s : State) : State :=
  s.runCmd r 5 0x22 [(0x10, 1), (0x18, 8)] fun c =>
    match s.tenantArg r.fn 0x10 c with
    | .error e => s.failAt r e.1 e.2
    | .ok n =>
      s.withRead r 0x18 (c.fld 0x18 8) 64 fun b =>
        match s.installSa n b with
        | (s, .error e) => s.finish r e 0 0
        | (s, .ok i) => s.finish r 0 i 0

def execSaInstall (r : CmdRef) (s : State) : Host.Outcome State Fault Refusal := .next (saInstallBody r s)

/-- SA_REMOVE. -/
def saRemoveBody (r : CmdRef) (s : State) : State :=
  s.runCmd r 5 0x23 [(0x10, 1), (0x14, 4)] fun c =>
    match s.tenantArg r.fn 0x10 c with
    | .error e => s.failAt r e.1 e.2
    | .ok n =>
      if 2 ^ 17 ≤ c.fld 0x14 4 then s.failAt r 0x10 0x14
      else
        let (s, st) := s.removeSa n (c.fld 0x14 4)
        s.finish r st 0 0

def execSaRemove (r : CmdRef) (s : State) : Host.Outcome State Fault Refusal := .next (saRemoveBody r s)

end Sys2Proof.Machine
end

