-- ==== Sys2Proof/Machine/CoreRestart.lean ====
section
/-! DEFINITION. The restart of a Gaffer core by its watchdog or by a machine check (spec/17 R464 to R467, spec/21 R558). -/

namespace Sys2Proof.Machine

open Sys2Proof

/-! ## Step 2: FIFOs (R457, R465) -/

/-- Core `c` produces FIFO `f`: as R457 lays down for the open cores, else as the firmware's own assignment `own` says. -/
def producesFifo (c : Nat) (own : List Nat) (f : Nat) : Bool :=
  if f < 448 then decide (c < 6) && own.contains f
  else
    let i := (f - 448) % 32
    let k := 6 + (f - 448) / 32
    if i = 0 then false
    else if i = 1 then k == c
    else if i < 16 then k == c && own.contains f
    else if i < 24 then c == 6
    else c == 7

/-- The entries of an incomplete message leave the FIFO. -/
def Fifo.dropPart (f : Fifo) : Fifo := { f with entries := f.entries.take (f.entries.length - f.pushed), pushed := 0, toPush := 0 }

/-- FIFOs produced by core `c`: entries of an incomplete message are dropped and counted. -/
def State.dropParts (s : State) (c : Nat) (own : List Nat) : State :=
  ((s.gaf.fifos.map (·.1)).filter (producesFifo c own)).foldl (fun s i =>
    let f := s.fifo i
    (s.modFifo i Fifo.dropPart).modGaf fun g => { g with dropped := g.dropped + min f.pushed f.entries.length }) s

/-! ## Step 4: commands (R467, R558) -/

/-- The engines whose commands a core owns (R467). -/
def ownedEngines (c : Nat) : List Nat := match c with | 0 => [5] | 3 => [3] | 4 => [1, 2] | _ => []

/-- The running commands of some engines. -/
def State.runningOf (s : State) (engines : List Nat) : List (CmdRef × Cmd) :=
  s.con.fns.flatMap fun f => f.2.queues.flatMap fun q =>
    if engines.contains q.2.engine then q.2.running.map fun c => (⟨f.1, q.1, c.handle⟩, c) else []

/-- A SERVICE command in progress: core 0 forms its record, so it ends with 0x22 whatever has been handed on. -/
def State.settleService (s : State) (r : CmdRef) (c : Cmd) : State :=
  let s := { s with
    fab := { s.fab with unseen := s.fab.unseen.filter fun u => u.ref ≠ r }
    log := { s.log with waiters := s.log.waiters.filter (· ≠ r) } }
  let s := s.modTen fun t => { t with moves := t.moves.filter fun m => m.1 ≠ r }
  let s := if c.opcode = 0x41 ∧ c.prog = [1] then s.failTransfer 0x22 else s
  if s.boot.activation.any fun a => a.ref = some r then s else s.finish r 0x22 0 0

/-- A restart of core `c` meets a live activation at core 0's activation record (R537). -/
def State.cutActivation (s : State) (c : Nat) : State :=
  match s.boot.activation with
  | none => s
  | some a =>
    match a.cut c with
    | none => s
    | some (st, bad) => (s.reversed a st bad).answerActivation a st (min c 6)

/-- A TENSOR command: finished by hardware where every row is handed to a quarter, else ended with 0x22. -/
def State.settleTensor (s : State) (r : CmdRef) (c : Cmd) : State :=
  let p := c.prog.getD 0 0
  if p = 1 ∧ c.prog.getD 1 0 ≤ ((s.takenRows r c).map (·.2)).sum then s
  else if p = 1 ∨ p = 2 then s.unitFail r c 0x22 0
  else
    let s := s.modTen fun t => { t with models := t.models.map fun m => { m with evicts := m.evicts.filter fun e => e.1 ≠ r } }
    s.finish r 0x22 0 0

/-- An ANNEAL command: a START in its barrier and a STOP not yet in effect end with 0x22; a START past its barrier is in descriptors already handed. -/
def State.settleAnneal (s : State) (r : CmdRef) : State :=
  if s.ann.start = some r then (if s.ann.barrier then s.startFails 0x22 else s)
  else if s.ann.stopping = some r then (s.modAnn fun a => { a with stopping := none }).finish r 0x22 0 0
  else s.finish r 0x22 0 0

/-- A LEHR command: every one takes part in a protocol, so it ends with 0x22; its epoch or fill goes on without it. -/
def State.settleLehr (s : State) (r : CmdRef) : State :=
  let s := (s.modEpoch fun e => { e with takes := e.takes.filter (· ≠ r) }).modLeh fun l =>
    { l with takes := l.takes.filter (· ≠ r), waiting := l.waiting.filter (· ≠ r)
             fill := l.fill.map fun f => { f with ref := f.ref.filter (· ≠ r) } }
  s.finish r 0x22 0 0

/-- One command of the restarting core; one whose record only waits for its writes to be visible is finished by hardware, but for SERVICE. -/
def State.settleCmd (s : State) (x : CmdRef × Cmd) : State :=
  match (s.queue x.1.fn x.1.q).engine with
  | 5 => s.settleService x.1 x.2
  | 3 => if s.unseenCmd x.1 then s else s.settleLehr x.1
  | 2 => if s.unseenCmd x.1 then s else s.settleAnneal x.1
  | _ => if s.unseenCmd x.1 then s else s.settleTensor x.1 x.2

/-- The NVMe admin commands of a controller end with status 0x22: the one fetched and every outstanding event request (R344). -/
def State.settleAdmin (s : State) (fn : Nat) : State :=
  let st := nvOf 0x22 false
  let s := match (s.nvCtrl fn).fetched.find? 0 with | some b => s.adminEnd fn b st | none => s
  let as := (s.nvCtrl fn).aers
  as.foldl (fun s a => s.nvPush fn 0 a st 0) (s.modNv fn fun k => { k with aers := [] })

/-- Fragments in reassembly and slow-path packets of core 2 are dropped and counted. -/
def State.dropSlow (s : State) : State :=
  let n := s.mrv.frags.length + (s.mrv.slowQ.getD 2 []).length
  let s := s.modMrv fun m => { m with frags := [], slowQ := m.slowQ.put 2 [], slowDrop := satAdd m.slowDrop n }
  if n = 0 then s else s.mrvEvent 1

/-- On the recorder, the epoch in flight is discarded with 0x22 while its manifest is not yet with the standby. -/
def State.dropEpoch (s : State) : State :=
  match s.leh.cur with
  | some e => if s.isRecorder ∧ e.pending.isNone then s.discardAll 0x22 else s
  | none => s

/-- What depends on the restarting core. -/
def State.settleCore (s : State) (c : Nat) : State :=
  let s := (s.runningOf (ownedEngines c)).foldl State.settleCmd s
  match c with
  | 1 => ((s.sto.ctrls.map (·.1)).filter (· < 256)).foldl State.settleAdmin s
  | 2 => s.dropSlow
  | 3 => s.dropEpoch
  | _ => s

/-! ## The restart (R464 to R466) -/

/-- Step 1: the core is halted, and cause, program counter and trap state go to the fault log. -/
def State.haltCore (s : State) (c cause : Nat) : State :=
  let k := s.core c
  let s := s.report { typ := 2, source := 0x10 + c, severity := 2, bit := c, reg := 4, block := 1
                      d0 := k.pc.toNat, d1 := cause, d2 := k.ecause.toNat + 2 ^ 32 * k.eaddr.toNat }
  let s := s.modGaf fun g => { g with events := latch g.events c }
  s.modCore c fun k => { k with running := false, restarting := true, restarts := satInc k.restarts, lastCause := cause }

/-- A core that restarts too often stays halted: a warm reset for cores 1 to 5, a stopped program for an open core. -/
def State.giveUp (s : State) (c : Nat) : State :=
  let s := s.modCore c fun k => { k with restarting := false, halted := true, program := false }
  if c < 6 then s.orderlyReset 6
  else s.report { source := 0x10 + c, severity := 2, bit := 10 + c, reg := 0, block := 1, d0 := s.gaf.status }

/-- Steps 3 to 5: code reloaded and checked, commands settled, the core running. -/
def State.reloadCore (s : State) (c : Nat) : State :=
  let s := (s.settleCore c).startCore c
  if 6 ≤ c ∧ ¬ s.boot.safe ∧ ¬ s.boot.unowned then s.startProgram c else s

/-- A restart of core `c` (R465). `recent` counts its earlier restarts within 60 s (core 0: within 1 s); `outcome`: 0 it completes, 1 the code's digest differs, 2 it stalls until its watchdog expires again. `own` lists the FIFOs the firmware has the core produce. -/
def restartCore (c cause outcome recent : Nat) (own : List Nat) (s : State) : State :=
  let k := s.core c
  if 8 ≤ c ∨ ¬ (k.running ∨ k.restarting) ∨ k.halted then s
  else
    let again := decide (cause = 1) && (k.restarting || decide (0 < recent))
    let s := (s.haltCore c cause).dropParts c own
    let s := (if c < 6 then s.modBoot fun b => { b with trialBroken := true } else s).cutActivation c
    if c = 0 ∧ again then s.warmReset 3
    else if 0 < c ∧ 4 ≤ recent + 1 then s.giveUp c
    else if outcome = 0 then s.reloadCore c
    else if outcome = 1 then (if c = 0 then s.warmReset 6 else s.orderlyReset 6)
    else s

/-- WATCHDOG_EXPIRY (R464, R68): the expiry has won against any kick. -/
def execWatchdogExpiry (core outcome recent : Nat) (fifos : List Nat) (s : State) : Host.Outcome State Fault Refusal :=
  .next (restartCore core 1 outcome recent fifos s)

/-- MACHINE_CHECK (R93, R465): an uncorrectable error of the core's local SRAM. -/
def execMachineCheck (core outcome recent : Nat) (fifos : List Nat) (s : State) : Host.Outcome State Fault Refusal :=
  .next (restartCore core 2 outcome recent fifos s)

end Sys2Proof.Machine
end

