-- ==== Sys2Proof/Machine/Dv32Ops.lean ====
section
/-! DEFINITION. The DV32 core: its instructions with their encodings, its memory accesses with the MPU, traps and interrupts, and the execution of one instruction (spec/18 R473 to R495). -/

namespace Sys2Proof.Machine

open Sys2Proof

/-! ## Instructions -/

/-- The REG functions (R479). -/
inductive Alu where
  | add | sub | and | or | xor | sll | srl | sra | slt | sltu | clz | permr | mul | mulhs | mulhu | div | divu | rem | remu
deriving DecidableEq, Repr

/-- The IMM functions (R478). -/
inductive AluI where
  | addi | andi | ori | xori | slti | sltiu | lui | slli | srli | srai
deriving DecidableEq, Repr

/-- Loads. -/
inductive Ld where
  | lb | lbu | lh | lhu | lw | ldp
deriving DecidableEq, Repr

/-- Stores. -/
inductive St where
  | sb | sh | sw | stp
deriving DecidableEq, Repr

/-- Branch conditions. -/
inductive Cond where
  | beq | bne | blt | bge | bltu | bgeu
deriving DecidableEq, Repr

/-- A DV32 instruction with its operands. -/
inductive Dv where
  | reg (f : Alu) (rd ra rb : Nat)
  | imm (f : AluI) (rd ra imm : Nat)
  | load (f : Ld) (rd base imm : Nat)
  | store (f : St) (rs base imm : Nat)
  | br (f : Cond) (ra rb imm : Nat)
  | j (imm : Nat)
  | jal (imm : Nat)
  | jalr (rd ra imm : Nat)
  | bfx (rd ra lsb width : Nat) (sx : Bool)
  | bfi (rd ra lsb width : Nat)
  | perm (rd ra sel : Nat)
  | rep (taking fromReg inc : Bool) (ra count : Nat)
  | kcall (service : Nat)
  | trap (code : Nat)
  | eret
  | mfs (rd index : Nat)
  | mts (ra index : Nat)
  | fence
  | waiti
deriving DecidableEq, Repr

/-! ## Encoding (R477 to R486) -/

/-- fn of a REG function. -/
def Alu.fn : Alu → Nat
  | .add => 0x000 | .sub => 0x001 | .and => 0x002 | .or => 0x003 | .xor => 0x004 | .sll => 0x005 | .srl => 0x006
  | .sra => 0x007 | .slt => 0x008 | .sltu => 0x009 | .clz => 0x00A | .permr => 0x00B | .mul => 0x010 | .mulhs => 0x011
  | .mulhu => 0x012 | .div => 0x013 | .divu => 0x014 | .rem => 0x015 | .remu => 0x016

/-- The REG function of fn. -/
def aluOf : Nat → Option Alu
  | 0x000 => some .add | 0x001 => some .sub | 0x002 => some .and | 0x003 => some .or | 0x004 => some .xor
  | 0x005 => some .sll | 0x006 => some .srl | 0x007 => some .sra | 0x008 => some .slt | 0x009 => some .sltu
  | 0x00A => some .clz | 0x00B => some .permr | 0x010 => some .mul | 0x011 => some .mulhs | 0x012 => some .mulhu
  | 0x013 => some .div | 0x014 => some .divu | 0x015 => some .rem | 0x016 => some .remu
  | _ => none

/-- Opcode of an IMM function. -/
def AluI.op : AluI → Nat
  | .addi => 0x01 | .andi => 0x02 | .ori => 0x03 | .xori => 0x04 | .slti => 0x05 | .sltiu => 0x06 | .lui => 0x07
  | .slli => 0x08 | .srli => 0x09 | .srai => 0x0A

/-- Opcode of a load. -/
def Ld.op : Ld → Nat
  | .lb => 0x0C | .lbu => 0x0D | .lh => 0x0E | .lhu => 0x0F | .lw => 0x10 | .ldp => 0x11

/-- Opcode of a store. -/
def St.op : St → Nat
  | .sb => 0x12 | .sh => 0x13 | .sw => 0x14 | .stp => 0x15

/-- Opcode of a branch. -/
def Cond.op : Cond → Nat
  | .beq => 0x18 | .bne => 0x19 | .blt => 0x1A | .bge => 0x1B | .bltu => 0x1C | .bgeu => 0x1D

/-- An instruction word from its major opcode, bits [25:21], [20:16] and [15:0]. -/
def dvWord (op a b low : Nat) : W32 := w32 (op * 2 ^ 26 + a * 2 ^ 21 + b * 2 ^ 16 + low)

/-- The word of an instruction. -/
def Dv.encode : Dv → W32
  | .reg f rd ra rb => dvWord 0 rd ra (rb * 2 ^ 11 + f.fn)
  | .imm f rd ra i => dvWord f.op rd ra i
  | .load f rd b i => dvWord f.op rd b i
  | .store f rs b i => dvWord f.op rs b i
  | .br f ra rb i => dvWord f.op ra rb i
  | .j i => dvWord 0x20 0 0 i
  | .jal i => dvWord 0x21 0 0 i
  | .jalr rd ra i => dvWord 0x22 rd ra i
  | .bfx rd ra l w sx => dvWord 0x28 rd ra (l * 2 ^ 11 + (w - 1) * 2 ^ 6 + b2n sx * 32)
  | .bfi rd ra l w => dvWord 0x29 rd ra (l * 2 ^ 11 + (w - 1) * 2 ^ 6)
  | .perm rd ra sel => dvWord 0x2A rd ra (sel * 16)
  | .rep t fr inc ra n => dvWord (if t then 0x31 else 0x30) (b2n fr * 16 + b2n inc * 8) ra n
  | .kcall k => w32 (0x3F * 2 ^ 26 + k * 2 ^ 10)
  | .trap k => w32 (0x3F * 2 ^ 26 + k * 2 ^ 10 + 1)
  | .eret => w32 (0x3F * 2 ^ 26 + 2)
  | .mfs rd i => dvWord 0x3F rd i 3
  | .mts ra i => dvWord 0x3F ra i 4
  | .fence => w32 (0x3F * 2 ^ 26 + 5)
  | .waiti => w32 (0x3F * 2 ^ 26 + 6)

/-- The operands lie in their fields and the fields in their ranges (R477). -/
def Dv.wf : Dv → Bool
  | .reg f rd ra rb => decide (rd < 32 ∧ ra < 32 ∧ rb < 32 ∧ (f = .clz → rb = 0))
  | .imm f rd ra i =>
    decide (rd < 32 ∧ ra < 32 ∧ i < 65536 ∧ (f = .lui → ra = 0) ∧ (f = .slli ∨ f = .srli ∨ f = .srai → i < 32))
  | .load f rd b i => decide (rd < 32 ∧ b < 32 ∧ i < 65536 ∧ (f = .ldp → rd % 2 = 0))
  | .store f rs b i => decide (rs < 32 ∧ b < 32 ∧ i < 65536 ∧ (f = .stp → rs % 2 = 0))
  | .br _ ra rb i => decide (ra < 32 ∧ rb < 32 ∧ i < 65536)
  | .j i => decide (i < 2 ^ 26)
  | .jal i => decide (i < 2 ^ 26)
  | .jalr rd ra i => decide (rd < 32 ∧ ra < 32 ∧ i < 65536)
  | .bfx rd ra l w _ => decide (rd < 32 ∧ ra < 32 ∧ 1 ≤ w ∧ l + w ≤ 32 ∧ l < 32)
  | .bfi rd ra l w => decide (rd < 32 ∧ ra < 32 ∧ 1 ≤ w ∧ l + w ≤ 32 ∧ l < 32)
  | .perm rd ra sel => decide (rd < 32 ∧ ra < 32 ∧ sel < 4096)
  | .rep _ fr _ ra n => decide (ra < 32 ∧ n < 65536 ∧ (fr = false → ra = 0))
  | .kcall k => decide (k < 65536)
  | .trap k => decide (k < 65536)
  | .mfs rd i => decide (rd < 32 ∧ i < 32)
  | .mts ra i => decide (ra < 32 ∧ i < 32)
  | _ => true

/-- Reads a system instruction (R485). -/
def dvSys (w : W32) : Option Dv :=
  let a := field w 21 5
  let i := field w 16 5
  match field w 0 6 with
  | 0 => if field w 6 4 = 0 then some (.kcall (field w 10 16)) else none
  | 1 => if field w 6 4 = 0 then some (.trap (field w 10 16)) else none
  | 2 => if field w 6 20 = 0 then some .eret else none
  | 3 => if field w 6 10 = 0 then some (.mfs a i) else none
  | 4 => if field w 6 10 = 0 then some (.mts a i) else none
  | 5 => if field w 6 20 = 0 then some .fence else none
  | 6 => if field w 6 20 = 0 then some .waiti else none
  | _ => none

/-- Reads a word by its fields; the ranges are checked after. -/
def dvRaw (w : W32) : Option Dv :=
  let a := field w 21 5
  let b := field w 16 5
  let i := field w 0 16
  match field w 26 6 with
  | 0x00 => (aluOf (field w 0 11)).map fun f => .reg f a b (field w 11 5)
  | 0x01 => some (.imm .addi a b i)
  | 0x02 => some (.imm .andi a b i)
  | 0x03 => some (.imm .ori a b i)
  | 0x04 => some (.imm .xori a b i)
  | 0x05 => some (.imm .slti a b i)
  | 0x06 => some (.imm .sltiu a b i)
  | 0x07 => some (.imm .lui a b i)
  | 0x08 => some (.imm .slli a b i)
  | 0x09 => some (.imm .srli a b i)
  | 0x0A => some (.imm .srai a b i)
  | 0x0C => some (.load .lb a b i)
  | 0x0D => some (.load .lbu a b i)
  | 0x0E => some (.load .lh a b i)
  | 0x0F => some (.load .lhu a b i)
  | 0x10 => some (.load .lw a b i)
  | 0x11 => some (.load .ldp a b i)
  | 0x12 => some (.store .sb a b i)
  | 0x13 => some (.store .sh a b i)
  | 0x14 => some (.store .sw a b i)
  | 0x15 => some (.store .stp a b i)
  | 0x18 => some (.br .beq a b i)
  | 0x19 => some (.br .bne a b i)
  | 0x1A => some (.br .blt a b i)
  | 0x1B => some (.br .bge a b i)
  | 0x1C => some (.br .bltu a b i)
  | 0x1D => some (.br .bgeu a b i)
  | 0x20 => some (.j (field w 0 26))
  | 0x21 => some (.jal (field w 0 26))
  | 0x22 => some (.jalr a b i)
  | 0x28 => if field w 0 5 = 0 then some (.bfx a b (field w 11 5) (field w 6 5 + 1) (bitOf w 5)) else none
  | 0x29 => if field w 0 6 = 0 then some (.bfi a b (field w 11 5) (field w 6 5 + 1)) else none
  | 0x2A => if field w 0 4 = 0 then some (.perm a b (field w 4 12)) else none
  | 0x30 => if field w 21 3 = 0 then some (.rep false (bitOf w 25) (bitOf w 24) b i) else none
  | 0x31 => if field w 21 3 = 0 then some (.rep true (bitOf w 25) (bitOf w 24) b i) else none
  | 0x3F => dvSys w
  | _ => none

/-- The instruction of a word; none where the word is illegal (R477). -/
def Dv.decode (w : W32) : Option Dv :=
  match dvRaw w with
  | some d => if d.wf then some d else none
  | none => none

/-! ## Values (R478 to R484) -/

/-- Sign extension of an `n`-bit number. -/
def sext (n v : Nat) : W32 := if 2 ^ (n - 1) ≤ v % 2 ^ n then w32 (v % 2 ^ n + (2 ^ 32 - 2 ^ n)) else w32 (v % 2 ^ n)

/-- A comparison's result. -/
def flag (b : Bool) : W32 := if b then 1#32 else 0#32

/-- Leading zeros among the lowest `n` bits. -/
def clzN (w : W32) : Nat → Nat
  | 0 => 0
  | n + 1 => if w.getLsbD n then 0 else 1 + clzN w n

/-- Byte `i` of a word. -/
def byteOf (w : W32) (i : Nat) : Nat := field w (8 * i) 8

/-- PERM and PERMR (R484): `d` is rd before the instruction. -/
def permute (a d : W32) (sel : Nat) : W32 :=
  let src := fun k => if k < 4 then byteOf a k else byteOf d (k - 4)
  w32 (pack ((seqFrom 0 4).map fun i => (8 * i, src (sel / 2 ^ (3 * i) % 8))))

/-- The value of a REG function; `d` is rd before the instruction (R479, R480, R483). -/
def Alu.val (f : Alu) (a b d : W32) : W32 :=
  match f with
  | .add => a + b
  | .sub => a - b
  | .and => a &&& b
  | .or => a ||| b
  | .xor => a ^^^ b
  | .sll => a <<< (b.toNat % 32)
  | .srl => a >>> (b.toNat % 32)
  | .sra => a.sshiftRight (b.toNat % 32)
  | .slt => flag (a.slt b)
  | .sltu => flag (a.ult b)
  | .clz => w32 (clzN a 32)
  | .permr => permute a d (b.toNat % 4096)
  | .mul => a * b
  | .mulhs => BitVec.ofInt 32 (a.toInt * b.toInt / 2 ^ 32)
  | .mulhu => w32 (a.toNat * b.toNat / 2 ^ 32)
  | .div => if b = 0 then 0xFFFFFFFF#32 else BitVec.ofInt 32 (a.toInt.tdiv b.toInt)
  | .divu => if b = 0 then 0xFFFFFFFF#32 else w32 (a.toNat / b.toNat)
  | .rem => if b = 0 then a else BitVec.ofInt 32 (a.toInt.tmod b.toInt)
  | .remu => if b = 0 then a else w32 (a.toNat % b.toNat)

/-- The value of an IMM function. -/
def AluI.val (f : AluI) (a : W32) (i : Nat) : W32 :=
  match f with
  | .addi => a + sext 16 i
  | .andi => a &&& w32 i
  | .ori => a ||| w32 i
  | .xori => a ^^^ w32 i
  | .slti => flag (a.slt (sext 16 i))
  | .sltiu => flag (a.ult (sext 16 i))
  | .lui => w32 (i * 65536)
  | .slli => a <<< (i % 32)
  | .srli => a >>> (i % 32)
  | .srai => a.sshiftRight (i % 32)

/-- A branch is taken. -/
def Cond.taken (f : Cond) (a b : W32) : Bool :=
  match f with
  | .beq => a = b
  | .bne => a ≠ b
  | .blt => a.slt b
  | .bge => !a.slt b
  | .bltu => a.ult b
  | .bgeu => !a.ult b

/-- BFX (R482). -/
def bfxVal (a : W32) (lsb width : Nat) (sx : Bool) : W32 :=
  let v := field a lsb width
  if sx then sext width v else w32 v

/-- BFI (R482). -/
def bfiVal (d a : W32) (lsb width : Nat) : W32 :=
  w32 (d.toNat % 2 ^ lsb + (a.toNat % 2 ^ width) * 2 ^ lsb + d.toNat / 2 ^ (lsb + width) * 2 ^ (lsb + width))

/-! ## Registers, modes, traps -/

/-- A general register: g0 reads 0 (R473). -/
def Core.reg (k : Core) (n : Nat) : W32 := if n = 0 then 0 else k.g.getD n 0

/-- Writes a general register: writes of g0 are discarded. -/
def Core.setReg (k : Core) (n : Nat) (v : W32) : Core := if n = 0 then k else { k with g := k.g.put n v }

/-- User mode. -/
def Core.user (k : Core) : Bool := bitOf k.psr 0
/-- ie. -/
def Core.ie (k : Core) : Bool := bitOf k.psr 1

/-- A trap at the instruction's own address; `at_` is none where EADDR stays. -/
def Core.trapAt (k : Core) (cause : Nat) (at_ : Option W32) : Core := k.enterTrap k.pc cause (at_.getD k.eaddr)

/-- What an instruction answers: the state after its effect, or a trap with its EADDR and no effect. -/
inductive DvRes where
  | ok (s : State)
  | trap (cause : Nat) (eaddr : Option W32)
deriving DecidableEq, Repr

/-! ## Memory (R474, R475, R492) -/

/-- An MPU region grants an access of a kind (bit 1 read, 2 write, 3 execute) to `n` bytes at `a`. -/
def Core.mpuOk (k : Core) (kind a n : Nat) : Bool :=
  (seqFrom 0 8).any fun i =>
    let at_ := k.mpuAttr.getD i 0
    bitOf at_ 0 && bitOf at_ kind && decide ((k.mpuBase.getD i 0).toNat ≤ a) && decide (a + n ≤ (k.mpuLimit.getD i 0).toNat + 4)

/-- Where an address lies for a core: 0 local SRAM, 1 the GAF_ block, 2 the device window, 3 nothing (R474). -/
def dvRegion (c a : Nat) : Nat :=
  if a < 0x40000 then 0 else if 0x40000000 ≤ a ∧ a < 0x40010000 then 1 else if c < 6 ∧ 0x80000000 ≤ a then 2 else 3

/-- The FIFO whose registers an address holds. -/
def gafFifo (a : Nat) : Option Nat :=
  let o := a - 0x40000000
  if 0x1000 ≤ o ∧ o < 0x5000 then some ((o - 0x1000) / 32) else none

/-- The check of a window access (R82, R88, R474): memory is reached under the device tag; an unmapped or forbidden pane, and a load of an uncorrectable block, is a bus error. DEDUCED (log 33). -/
def State.devWindowCheck (s : State) (wr : Bool) (a n : Nat) : Nat :=
  match Config.window a with
  | none => 0
  | some off =>
    if wr then
      match s.fab.writeDev deviceTable off (zeros n) with
      | .ok _ => 0
      | .error e => if e = 0x30 then 0 else 7
    else
      match s.fab.readDev deviceTable off n with
      | .ok _ => 0
      | .error _ => 7

/-- The controller's part in a bus error of a window load (R88). -/
def State.windowFault (s : State) (c cause : Nat) (a : Option W32) : State :=
  match a with
  | none => s
  | some a =>
    if cause ≠ 7 ∨ dvRegion c a.toNat ≠ 2 then s
    else match Config.window a.toNat with | none => s | some off => s.memFault deviceTable off 1 false

/-- The checks of a data access of `n` bytes before it acts: 3 misaligned, 5 MPU, 7 bus error; 0 where it may act. -/
def State.dataCheck (s : State) (c : Nat) (wr : Bool) (a n : Nat) : Nat :=
  let k := s.core c
  if a % n ≠ 0 then 3
  else if 6 ≤ c ∧ k.user ∧ ¬ k.mpuOk (if wr then 2 else 1) a n then 5
  else
    match dvRegion c a with
    | 0 => 0
    | 2 => s.devWindowCheck wr a n
    | 1 =>
      match gafFifo a with
      | some f =>
        if ¬ reachesFifo c f then 5
        else if n < 4 then 7
        else if a % 32 < 0x10 ∧ n ≠ 8 then 7
        else if 0x1C ≤ a % 32 then 7
        else if a % 32 = 0x18 ∧ n = 8 then 7 else 0
      | none =>
        if n < 4 ∨ (6 ≤ c ∧ ¬ (a = 0x40000014 ∧ n = 4)) then 7
        else if a = 0x40000014 ∨ (s.gafRead (a - 0x40000000)).isSome then
          (if n = 8 ∧ (s.gafRead (a - 0x40000000 + 4)).isNone then 7 else 0)
        else 7
    | _ => 7

/-- A load that may act: its value and the state after it. A pair load of GAF_MB_POP pops; a window load reads the device's memory, or a device register, whose place is not given, as a free value. -/
def State.dvLoad (s : State) (c a n : Nat) : Nat × State :=
  match dvRegion c a with
  | 0 => (leNat (Mem.read 0 (s.core c).sram a n), s)
  | 1 =>
    let o := a - 0x40000000
    match gafFifo a with
    | some f =>
      if a % 32 = 0 then (0, s)
      else if a % 32 = 8 then (((s.fifo f).pop).1, s.modFifo f fun x => x.pop.2)
      else if n = 8 then ((s.gafRead o).getD 0 + (s.gafRead (o + 4)).getD 0 * 2 ^ 32, s)
      else ((s.gafRead o).getD 0, s)
    | none => if n = 8 then ((s.gafRead o).getD 0 + (s.gafRead (o + 4)).getD 0 * 2 ^ 32, s) else ((s.gafRead o).getD 0, s)
  | _ =>
    match (Config.window a).map fun off => s.fab.readDev deviceTable off n with
    | some (.ok bs) => (leNat bs, s)
    | _ => (s.free % 2 ^ (8 * n), s.tick)

/-- A store that may act. A pair store to GAF_MB_PUSH pushes; a window store writes the device's memory, but for an uncorrectable block it covers in part (R88); device registers have a command of their own. -/
def State.dvStore (s : State) (c a n v : Nat) : State :=
  match dvRegion c a with
  | 0 => s.modCore c fun k => k.poke a (natLe v n)
  | 1 =>
    let o := a - 0x40000000
    match gafFifo a with
    | some f =>
      if a % 32 = 0 then s.corePush f v
      else if a % 32 = 8 then s
      else if n = 8 then (s.gafWrite c o (w32 v)).gafWrite c (o + 4) (w32 (v / 2 ^ 32))
      else s.gafWrite c o (w32 v)
    | none => if n = 8 then (s.gafWrite c o (w32 v)).gafWrite c (o + 4) (w32 (v / 2 ^ 32)) else s.gafWrite c o (w32 v)
  | _ =>
    match Config.window a with
    | none => s
    | some off =>
      match s.fab.writeDev deviceTable off (natLe v n) with
      | .ok (f, _) => { s with fab := f }
      | .error _ => s.memFault deviceTable off n true

/-- Bytes of a load. -/
def Ld.size : Ld → Nat
  | .lb => 1 | .lbu => 1 | .lh => 2 | .lhu => 2 | .lw => 4 | .ldp => 8

/-- Bytes of a store. -/
def St.size : St → Nat
  | .sb => 1 | .sh => 2 | .sw => 4 | .stp => 8

/-- Writes what a load read (R478). -/
def Core.loaded (k : Core) (f : Ld) (rd v : Nat) : Core :=
  match f with
  | .lb => k.setReg rd (sext 8 v)
  | .lh => k.setReg rd (sext 16 v)
  | .ldp => (k.setReg rd (w32 v)).setReg (rd + 1) (w32 (v / 2 ^ 32))
  | _ => k.setReg rd (w32 v)

/-! ## State registers (R490, R491) -/

/-- A state register's value. -/
def Core.sreg (k : Core) (c i : Nat) : W32 :=
  if i = 0 then k.psr else if i = 1 then k.epc else if i = 2 then k.ecause else if i = 3 then k.eaddr
  else if i = 4 then k.repcnt else if i = 5 then k.kscratch else if i = 6 then k.vbase else if i = 7 then w32 c
  else if i < 16 then k.mpuBase.getD (i - 8) 0 else if i < 24 then k.mpuLimit.getD (i - 16) 0 else k.mpuAttr.getD (i - 24) 0

/-- A write of a state register; RSV bits stay 0, CORE_ID ignores it, and cores 0 to 5 never leave kernel mode. -/
def Core.setSreg (k : Core) (c i : Nat) (v : W32) : Core :=
  if i = 0 then { k with psr := v &&& (if c < 6 then 0xA#32 else 0xF#32) }
  else if i = 1 then { k with epc := v }
  else if i = 2 then { k with ecause := v &&& 0x1F#32 }
  else if i = 3 then { k with eaddr := v }
  else if i = 4 then { k with repcnt := v &&& 0x1FFFF#32 }
  else if i = 5 then { k with kscratch := v }
  else if i = 6 then { k with vbase := v &&& 0xFFFFFFFC#32 }
  else if i = 7 then k
  else if i < 16 then { k with mpuBase := k.mpuBase.put (i - 8) (v &&& 0xFFFFFFFC#32) }
  else if i < 24 then { k with mpuLimit := k.mpuLimit.put (i - 16) (v &&& 0xFFFFFFFC#32) }
  else { k with mpuAttr := k.mpuAttr.put (i - 24) (v &&& 0xF#32) }

/-! ## One instruction -/

/-- Sets a register of core `c` and goes on at the next instruction. -/
def State.dvSet (s : State) (c rd : Nat) (v : W32) : DvRes :=
  .ok (s.modCore c fun k => { k.setReg rd v with pc := k.pc + 4#32 })

/-- Continues core `c` at an address. -/
def State.dvGo (s : State) (c : Nat) (pc : W32) : DvRes := .ok (s.modCore c fun k => { k with pc := pc })

/-- A load. -/
def State.dvLd (s : State) (c : Nat) (f : Ld) (rd base imm : Nat) : DvRes :=
  let a := (s.core c).reg base + sext 16 imm
  let e := s.dataCheck c false a.toNat f.size
  if e ≠ 0 then .trap e (some a)
  else
    let (v, s) := s.dvLoad c a.toNat f.size
    .ok (s.modCore c fun k => { k.loaded f rd v with pc := k.pc + 4#32 })

/-- A store. -/
def State.dvSt (s : State) (c : Nat) (f : St) (rs base imm : Nat) : DvRes :=
  let k := s.core c
  let a := k.reg base + sext 16 imm
  let e := s.dataCheck c true a.toNat f.size
  let v := (k.reg rs).toNat + (if f = .stp then (k.reg (rs + 1)).toNat * 2 ^ 32 else 0)
  if e ≠ 0 then .trap e (some a)
  else .ok ((s.dvStore c a.toNat f.size v).modCore c fun k => { k with pc := k.pc + 4#32 })

/-- An instruction that is neither a prefix, WAITI nor KCALL, on core `c` (R478 to R485, R491). -/
def State.dvOne (s : State) (c : Nat) (d : Dv) : DvRes :=
  let k := s.core c
  match d with
  | .reg f rd ra rb => s.dvSet c rd (f.val (k.reg ra) (k.reg rb) (k.reg rd))
  | .imm f rd ra i => s.dvSet c rd (f.val (k.reg ra) i)
  | .load f rd b i => s.dvLd c f rd b i
  | .store f rs b i => s.dvSt c f rs b i
  | .br f ra rb i => s.dvGo c (if f.taken (k.reg ra) (k.reg rb) then k.pc + 4#32 + sext 16 i * 4#32 else k.pc + 4#32)
  | .j i => s.dvGo c (k.pc + 4#32 + sext 26 i * 4#32)
  | .jal i => .ok (s.modCore c fun k => { k.setReg 31 (k.pc + 4#32) with pc := k.pc + 4#32 + sext 26 i * 4#32 })
  | .jalr rd ra i =>
    let t := k.reg ra + sext 16 i
    if t.toNat % 4 ≠ 0 then .trap 4 (some t)
    else .ok (s.modCore c fun k => { k.setReg rd (k.pc + 4#32) with pc := t })
  | .bfx rd ra l w sx => s.dvSet c rd (bfxVal (k.reg ra) l w sx)
  | .bfi rd ra l w => s.dvSet c rd (bfiVal (k.reg rd) (k.reg ra) l w)
  | .perm rd ra sel => s.dvSet c rd (permute (k.reg ra) (k.reg rd) sel)
  | .kcall _ => .trap 8 none
  | .trap code => .trap 9 (some (w32 code))
  | .eret =>
    if k.user then .trap 2 (some k.pc)
    else .ok (s.modCore c fun k =>
      { k with psr := w32 (pack [(0, field k.psr 2 1), (1, field k.psr 3 1), (2, field k.psr 2 1), (3, field k.psr 3 1)])
               pc := k.epc &&& 0xFFFFFFFC#32, afterEret := true })
  | .mfs rd i =>
    if 8 ≤ i ∧ c < 6 then .trap 1 (some k.pc)
    else if k.user ∧ i ≠ 4 ∧ i ≠ 7 then .trap 2 (some k.pc)
    else s.dvSet c rd (k.sreg c i)
  | .mts ra i =>
    if 8 ≤ i ∧ c < 6 then .trap 1 (some k.pc)
    else if k.user then .trap 2 (some k.pc)
    else .ok (s.modCore c fun k => { k.setSreg c i (k.reg ra) with pc := k.pc + 4#32 })
  | .fence => s.dvGo c (k.pc + 4#32)
  | .waiti => s.dvGo c (k.pc + 4#32)
  | .rep .. => s.dvGo c (k.pc + 4#32)

/-! ## Prefixes (R486 to R489) -/

/-- An instruction a prefix may not repeat (R487). -/
def Dv.unrepeatable : Dv → Bool
  | .br .. => true
  | .j _ => true
  | .jal _ => true
  | .jalr .. => true
  | .rep .. => true
  | .kcall _ => true
  | .trap _ => true
  | .eret => true
  | .mfs .. => true
  | .mts .. => true
  | .waiti => true
  | _ => false

/-- The base advance of an iteration (R486). -/
def Dv.advance (d : Dv) (k : Core) : Core :=
  match d with
  | .load f _ b _ => k.setReg b (k.reg b + w32 f.size)
  | .store f _ b _ => k.setReg b (k.reg b + w32 f.size)
  | _ => k

/-- How a run of iterations ended: all done, stopped for an interrupt, or a trap; with the iterations left. -/
inductive RepEnd where
  | done
  | interrupted (left : Nat)
  | trapped (left cause : Nat) (eaddr : Option W32)
deriving DecidableEq, Repr

/-- Runs `n` iterations, at most `until_` of them before an interrupt is granted. -/
def State.repeatDv (c : Nat) (d : Dv) (inc : Bool) : Nat → Nat → State → State × RepEnd
  | 0, _, s => (s, .done)
  | n + 1, until_, s =>
    if until_ = 0 then (s, .interrupted (n + 1))
    else
      let pc := (s.core c).pc
      match s.dvOne c d with
      | .trap e a => (s, .trapped (n + 1) e a)
      | .ok s' => repeatDv c d inc n (until_ - 1) (s'.modCore c fun k => { (if inc then d.advance k else k) with pc := pc })

/-- A pending interrupt of a core: the alarm before the supervisor signal. -/
def Core.pendingCause (k : Core) : Option Nat := if k.alarmPend then some 0x10 else if k.signalPend then some 0x11 else none

/-- Takes an interrupt at a boundary (R494, R495). -/
def Core.takeInterrupt (k : Core) (cause : Nat) : Core :=
  { k.enterTrap k.pc cause k.eaddr with
    alarmPend := k.alarmPend && decide (cause ≠ 0x10), signalPend := k.signalPend && decide (cause ≠ 0x11) }

/-- REPCNT with `n` iterations left, valid (R488). -/
def repcntOf (n : Nat) : W32 := w32 (n % 65536 + 65536)

/-- A word of local SRAM. -/
def Core.word (k : Core) (a : W32) : W32 := w32 (leNat (Mem.read 0 k.sram a.toNat 4))

/-- The fetch checks at an address: 6 MPU fetch, 7 bus error, 0 where the word may be fetched (R474, R492). -/
def State.fetchCheck (s : State) (c : Nat) (a : W32) : Nat :=
  let k := s.core c
  if 6 ≤ c ∧ k.user ∧ ¬ k.mpuOk 3 a.toNat 4 then 6
  else if dvRegion c a.toNat = 0 ∨ dvRegion c a.toNat = 2 then 0 else 7

/-- A prefix with the instruction that follows it (R486 to R489): `until_` iterations run before a pending interrupt is granted, under REPI with ie only. -/
def State.dvRep (s : State) (c : Nat) (taking fromReg inc : Bool) (ra count until_ : Nat) : State :=
  let k := s.core c
  let e := s.fetchCheck c (k.pc + 4#32)
  let bad := s.modCore c fun k => k.trapAt 1 (some k.pc)
  if e ≠ 0 then s.modCore c fun k => k.trapAt e (some (k.pc + 4#32))
  else
    match Dv.decode (k.word (k.pc + 4#32)) with
    | none => bad
    | some d =>
      if d.unrepeatable then bad
      else
        let resume := k.afterEret && bitOf k.repcnt 16
        let n := if resume then field k.repcnt 0 16 else if fromReg then (k.reg ra).toNat % 65536 else count
        let s := if resume then s.modCore c fun k => { k with repcnt := clrBit k.repcnt 16 } else s
        let lim := match k.pendingCause with | some _ => if taking ∧ k.ie then until_ else n | none => n
        match State.repeatDv c d inc n lim s with
        | (s, .done) => s.modCore c fun k => { k with pc := k.pc + 8#32, afterEret := false }
        | (s, .interrupted left) =>
          s.modCore c fun k => ({ k with repcnt := repcntOf left }).takeInterrupt (k.pendingCause.getD 0x10)
        | (s, .trapped left cause a) =>
          (s.windowFault c cause a).modCore c fun k => ({ k with repcnt := repcntOf left }).enterTrap k.pc cause (a.getD k.eaddr)

/-! ## A core executes its next instruction -/

/-- A core that can execute: running, not halted, not waiting in WAITI. -/
def Core.live (k : Core) : Bool := k.running && !k.restarting && !k.halted && !k.waiting

/-- The word at a core's pc is the given one; words of the device window are not modelled, so any is. -/
def State.fetches (s : State) (c : Nat) (w : W32) : Bool :=
  let k := s.core c
  dvRegion c k.pc.toNat == 2 || k.word k.pc == w

/-- After an instruction that is no prefix, an ERET's REPCNT.valid is cleared (R489). -/
def Core.settleEret (k : Core) : Core := if k.afterEret then { k with repcnt := clrBit k.repcnt 16, afterEret := false } else k

/-- Clears what the last ERET left, runs one instruction, and takes its trap if it traps. -/
def State.dvRun (s : State) (c : Nat) (d : Dv) : State :=
  let s := s.modCore c Core.settleEret
  match s.dvOne c d with
  | .ok s' => s'
  | .trap e a => (s.windowFault c e a).modCore c fun k => k.trapAt e a

/-- WAITI (R485): waits until an interrupt is pending; then it continues, and the interrupt is taken if ie = 1. -/
def State.dvWait (s : State) (c : Nat) : State :=
  let s := s.modCore c Core.settleEret
  let k := s.core c
  if k.user then s.modCore c fun k => k.trapAt 2 (some k.pc)
  else
    match k.pendingCause with
    | none => s.modCore c fun k => { k with waiting := true }
    | some e =>
      s.modCore c fun k =>
        let k := { k with pc := k.pc + 4#32 }
        if k.ie then k.takeInterrupt e else k

/-- Core `c` executes the instruction at its pc, which is `d`: fetch traps first, then its own effect; nothing happens where the core cannot execute or another word stands there. -/
def State.dvStep (s : State) (c : Nat) (d : Dv) (run : State → State) : State :=
  let k := s.core c
  if 8 ≤ c ∨ ¬ k.live ∨ (6 ≤ c ∧ s.handing 6) then s
  else
    let e := s.fetchCheck c k.pc
    if e ≠ 0 then s.modCore c fun k => k.trapAt e (some k.pc)
    else if d.wf ∧ s.fetches c d.encode then run s
    else s

/-- One instruction that is neither a prefix nor WAITI. -/
def State.dvExec (s : State) (c : Nat) (d : Dv) : State := s.dvStep c d fun s => s.dvRun c d

end Sys2Proof.Machine
end

