-- ==== Sys2Proof/Machine/Dv32.lean ====
section
/-! DEFINITION. The DV32 instructions as commands: core `core` executes the instruction at its pc (spec/18 R478 to R495). -/

namespace Sys2Proof.Machine

open Sys2Proof

/-- ADD: rd = ra + rb (R479). -/
def execAdd (core : Nat) (rd ra rb : Nat) (s : State) : Host.Outcome State Fault Refusal :=
  .next (s.dvExec core (.reg .add rd ra rb))

/-- SUB: rd = ra − rb (R479). -/
def execSub (core : Nat) (rd ra rb : Nat) (s : State) : Host.Outcome State Fault Refusal :=
  .next (s.dvExec core (.reg .sub rd ra rb))

/-- AND (R479). -/
def execAnd (core : Nat) (rd ra rb : Nat) (s : State) : Host.Outcome State Fault Refusal :=
  .next (s.dvExec core (.reg .and rd ra rb))

/-- OR (R479). -/
def execOr (core : Nat) (rd ra rb : Nat) (s : State) : Host.Outcome State Fault Refusal :=
  .next (s.dvExec core (.reg .or rd ra rb))

/-- XOR (R479). -/
def execXor (core : Nat) (rd ra rb : Nat) (s : State) : Host.Outcome State Fault Refusal :=
  .next (s.dvExec core (.reg .xor rd ra rb))

/-- SLL: left shift by rb[4:0] (R479). -/
def execSll (core : Nat) (rd ra rb : Nat) (s : State) : Host.Outcome State Fault Refusal :=
  .next (s.dvExec core (.reg .sll rd ra rb))

/-- SRL: logical right shift by rb[4:0] (R479). -/
def execSrl (core : Nat) (rd ra rb : Nat) (s : State) : Host.Outcome State Fault Refusal :=
  .next (s.dvExec core (.reg .srl rd ra rb))

/-- SRA: arithmetic right shift by rb[4:0] (R479). -/
def execSra (core : Nat) (rd ra rb : Nat) (s : State) : Host.Outcome State Fault Refusal :=
  .next (s.dvExec core (.reg .sra rd ra rb))

/-- SLT: signed compare (R479). -/
def execSlt (core : Nat) (rd ra rb : Nat) (s : State) : Host.Outcome State Fault Refusal :=
  .next (s.dvExec core (.reg .slt rd ra rb))

/-- SLTU: unsigned compare (R479). -/
def execSltu (core : Nat) (rd ra rb : Nat) (s : State) : Host.Outcome State Fault Refusal :=
  .next (s.dvExec core (.reg .sltu rd ra rb))

/-- CLZ: leading zeros (R483). -/
def execClz (core : Nat) (rd ra : Nat) (s : State) : Host.Outcome State Fault Refusal :=
  .next (s.dvExec core (.reg .clz rd ra 0))

/-- PERMR: byte permute, selector rb[11:0] (R484). -/
def execPermr (core : Nat) (rd ra rb : Nat) (s : State) : Host.Outcome State Fault Refusal :=
  .next (s.dvExec core (.reg .permr rd ra rb))

/-- MUL: low word of the product (R479). -/
def execMul (core : Nat) (rd ra rb : Nat) (s : State) : Host.Outcome State Fault Refusal :=
  .next (s.dvExec core (.reg .mul rd ra rb))

/-- MULHS: high word of the signed product (R479). -/
def execMulhs (core : Nat) (rd ra rb : Nat) (s : State) : Host.Outcome State Fault Refusal :=
  .next (s.dvExec core (.reg .mulhs rd ra rb))

/-- MULHU: high word of the unsigned product (R479). -/
def execMulhu (core : Nat) (rd ra rb : Nat) (s : State) : Host.Outcome State Fault Refusal :=
  .next (s.dvExec core (.reg .mulhu rd ra rb))

/-- DIV: signed quotient, toward zero (R480). -/
def execDiv (core : Nat) (rd ra rb : Nat) (s : State) : Host.Outcome State Fault Refusal :=
  .next (s.dvExec core (.reg .div rd ra rb))

/-- DIVU: unsigned quotient (R480). -/
def execDivu (core : Nat) (rd ra rb : Nat) (s : State) : Host.Outcome State Fault Refusal :=
  .next (s.dvExec core (.reg .divu rd ra rb))

/-- REM: signed remainder, sign of ra (R480). -/
def execRem (core : Nat) (rd ra rb : Nat) (s : State) : Host.Outcome State Fault Refusal :=
  .next (s.dvExec core (.reg .rem rd ra rb))

/-- REMU: unsigned remainder (R480). -/
def execRemu (core : Nat) (rd ra rb : Nat) (s : State) : Host.Outcome State Fault Refusal :=
  .next (s.dvExec core (.reg .remu rd ra rb))

/-- ADDI with an immediate (R478). -/
def execAddi (core : Nat) (rd ra imm : Nat) (s : State) : Host.Outcome State Fault Refusal :=
  .next (s.dvExec core (.imm .addi rd ra imm))

/-- ANDI with an immediate (R478). -/
def execAndi (core : Nat) (rd ra imm : Nat) (s : State) : Host.Outcome State Fault Refusal :=
  .next (s.dvExec core (.imm .andi rd ra imm))

/-- ORI with an immediate (R478). -/
def execOri (core : Nat) (rd ra imm : Nat) (s : State) : Host.Outcome State Fault Refusal :=
  .next (s.dvExec core (.imm .ori rd ra imm))

/-- XORI with an immediate (R478). -/
def execXori (core : Nat) (rd ra imm : Nat) (s : State) : Host.Outcome State Fault Refusal :=
  .next (s.dvExec core (.imm .xori rd ra imm))

/-- SLTI with an immediate (R478). -/
def execSlti (core : Nat) (rd ra imm : Nat) (s : State) : Host.Outcome State Fault Refusal :=
  .next (s.dvExec core (.imm .slti rd ra imm))

/-- SLTIU with an immediate (R478). -/
def execSltiu (core : Nat) (rd ra imm : Nat) (s : State) : Host.Outcome State Fault Refusal :=
  .next (s.dvExec core (.imm .sltiu rd ra imm))

/-- SLLI with an immediate (R478). -/
def execSlli (core : Nat) (rd ra imm : Nat) (s : State) : Host.Outcome State Fault Refusal :=
  .next (s.dvExec core (.imm .slli rd ra imm))

/-- SRLI with an immediate (R478). -/
def execSrli (core : Nat) (rd ra imm : Nat) (s : State) : Host.Outcome State Fault Refusal :=
  .next (s.dvExec core (.imm .srli rd ra imm))

/-- SRAI with an immediate (R478). -/
def execSrai (core : Nat) (rd ra imm : Nat) (s : State) : Host.Outcome State Fault Refusal :=
  .next (s.dvExec core (.imm .srai rd ra imm))

/-- LUI: rd = imm16 × 2^16 (R478). -/
def execLui (core : Nat) (rd imm : Nat) (s : State) : Host.Outcome State Fault Refusal :=
  .next (s.dvExec core (.imm .lui rd 0 imm))

/-- LB: loads a sign-extended byte (R478). -/
def execLb (core : Nat) (rd base imm : Nat) (s : State) : Host.Outcome State Fault Refusal :=
  .next (s.dvExec core (.load .lb rd base imm))

/-- LBU: loads a zero-extended byte (R478). -/
def execLbu (core : Nat) (rd base imm : Nat) (s : State) : Host.Outcome State Fault Refusal :=
  .next (s.dvExec core (.load .lbu rd base imm))

/-- LH: loads a sign-extended half-word (R478). -/
def execLh (core : Nat) (rd base imm : Nat) (s : State) : Host.Outcome State Fault Refusal :=
  .next (s.dvExec core (.load .lh rd base imm))

/-- LHU: loads a zero-extended half-word (R478). -/
def execLhu (core : Nat) (rd base imm : Nat) (s : State) : Host.Outcome State Fault Refusal :=
  .next (s.dvExec core (.load .lhu rd base imm))

/-- LW: loads a word (R478). -/
def execLw (core : Nat) (rd base imm : Nat) (s : State) : Host.Outcome State Fault Refusal :=
  .next (s.dvExec core (.load .lw rd base imm))

/-- LDP: loads a pair of words (R478). -/
def execLdp (core : Nat) (rd base imm : Nat) (s : State) : Host.Outcome State Fault Refusal :=
  .next (s.dvExec core (.load .ldp rd base imm))

/-- SB: stores a byte (R478). -/
def execSb (core : Nat) (rs base imm : Nat) (s : State) : Host.Outcome State Fault Refusal :=
  .next (s.dvExec core (.store .sb rs base imm))

/-- SH: stores a half-word (R478). -/
def execSh (core : Nat) (rs base imm : Nat) (s : State) : Host.Outcome State Fault Refusal :=
  .next (s.dvExec core (.store .sh rs base imm))

/-- SW: stores a word (R478). -/
def execSw (core : Nat) (rs base imm : Nat) (s : State) : Host.Outcome State Fault Refusal :=
  .next (s.dvExec core (.store .sw rs base imm))

/-- STP: stores a pair of words (R478). -/
def execStp (core : Nat) (rs base imm : Nat) (s : State) : Host.Outcome State Fault Refusal :=
  .next (s.dvExec core (.store .stp rs base imm))

/-- BEQ (R478). -/
def execBeq (core : Nat) (ra rb imm : Nat) (s : State) : Host.Outcome State Fault Refusal :=
  .next (s.dvExec core (.br .beq ra rb imm))

/-- BNE (R478). -/
def execBne (core : Nat) (ra rb imm : Nat) (s : State) : Host.Outcome State Fault Refusal :=
  .next (s.dvExec core (.br .bne ra rb imm))

/-- BLT (R478). -/
def execBlt (core : Nat) (ra rb imm : Nat) (s : State) : Host.Outcome State Fault Refusal :=
  .next (s.dvExec core (.br .blt ra rb imm))

/-- BGE (R478). -/
def execBge (core : Nat) (ra rb imm : Nat) (s : State) : Host.Outcome State Fault Refusal :=
  .next (s.dvExec core (.br .bge ra rb imm))

/-- BLTU (R478). -/
def execBltu (core : Nat) (ra rb imm : Nat) (s : State) : Host.Outcome State Fault Refusal :=
  .next (s.dvExec core (.br .bltu ra rb imm))

/-- BGEU (R478). -/
def execBgeu (core : Nat) (ra rb imm : Nat) (s : State) : Host.Outcome State Fault Refusal :=
  .next (s.dvExec core (.br .bgeu ra rb imm))

/-- J (R478). -/
def execJ (core : Nat) (imm : Nat) (s : State) : Host.Outcome State Fault Refusal :=
  .next (s.dvExec core (.j imm))

/-- JAL: g31 takes the return address (R478). -/
def execJal (core : Nat) (imm : Nat) (s : State) : Host.Outcome State Fault Refusal :=
  .next (s.dvExec core (.jal imm))

/-- JALR (R478). -/
def execJalr (core : Nat) (rd ra imm : Nat) (s : State) : Host.Outcome State Fault Refusal :=
  .next (s.dvExec core (.jalr rd ra imm))

/-- BFX: extracts a bit field (R482). -/
def execBfx (core : Nat) (rd ra lsb width : Nat) (sx : Bool) (s : State) : Host.Outcome State Fault Refusal :=
  .next (s.dvExec core (.bfx rd ra lsb width sx))

/-- BFI: inserts a bit field (R482). -/
def execBfi (core : Nat) (rd ra lsb width : Nat) (s : State) : Host.Outcome State Fault Refusal :=
  .next (s.dvExec core (.bfi rd ra lsb width))

/-- PERM: byte permute (R484). -/
def execPerm (core : Nat) (rd ra sel : Nat) (s : State) : Host.Outcome State Fault Refusal :=
  .next (s.dvExec core (.perm rd ra sel))

/-- REP: the next instruction n times without taking interrupts (R486). -/
def execRep (core : Nat) (fromReg inc : Bool) (ra count : Nat) (s : State) : Host.Outcome State Fault Refusal :=
  .next (s.dvStep core (.rep false fromReg inc ra count) fun s => s.dvRep core false fromReg inc ra count 0)

/-- REPI: the next instruction n times; a pending interrupt is granted after `granted` iterations (R486, R488). -/
def execRepi (core : Nat) (fromReg inc : Bool) (ra count granted : Nat) (s : State) : Host.Outcome State Fault Refusal :=
  .next (s.dvStep core (.rep true fromReg inc ra count) fun s => s.dvRep core true fromReg inc ra count granted)

/-- TRAP: cause 0x09, EADDR = code (R485). -/
def execTrap (core : Nat) (code : Nat) (s : State) : Host.Outcome State Fault Refusal :=
  .next (s.dvExec core (.trap code))

/-- ERET: return from trap (R494). -/
def execEret (core : Nat) (s : State) : Host.Outcome State Fault Refusal :=
  .next (s.dvExec core .eret)

/-- MFS: reads a state register (R485, R490). -/
def execMfs (core : Nat) (rd index : Nat) (s : State) : Host.Outcome State Fault Refusal :=
  .next (s.dvExec core (.mfs rd index))

/-- MTS: writes a state register (R485, R490). -/
def execMts (core : Nat) (ra index : Nat) (s : State) : Host.Outcome State Fault Refusal :=
  .next (s.dvExec core (.mts ra index))

/-- FENCE: every earlier store of the core is already visible in this model (R476). -/
def execFence (core : Nat) (s : State) : Host.Outcome State Fault Refusal :=
  .next (s.dvExec core .fence)

/-- WAITI: waits until an interrupt is pending (R485). -/
def execWaiti (core : Nat) (s : State) : Host.Outcome State Fault Refusal :=
  .next (s.dvStep core .waiti fun s => s.dvWait core)

/-- ILLEGAL_INSTRUCTION (R477): the word at the core's pc decodes to nothing and takes trap 0x01. -/
def illegalBody (core : Nat) (s : State) : State :=
  let k := s.core core
  if 8 ≤ core ∨ ¬ k.live ∨ dvRegion core k.pc.toNat = 2 then s
  else
    let e := s.fetchCheck core k.pc
    if e ≠ 0 then s.modCore core fun k => k.trapAt e (some k.pc)
    else if (Dv.decode (k.word k.pc)).isSome then s
    else (s.modCore core Core.settleEret).modCore core fun k => k.trapAt 1 (some k.pc)

def execIllegalInstruction (core : Nat) (s : State) : Host.Outcome State Fault Refusal := .next (illegalBody core s)

/-- An interrupt request meets the core's boundary (R495): taken while ie = 1, pending otherwise; a core in WAITI goes on. -/
def Core.interrupt (k : Core) (cause : Nat) : Core :=
  let k := if k.waiting then { k with waiting := false, pc := k.pc + 4#32 } else k
  if k.ie then k.takeInterrupt cause
  else if cause = 0x10 then { k with alarmPend := true } else { k with signalPend := true }

/-- ALARM_INTERRUPT (R495): the core's tally alarm falls due; on an open core only one TIMER_SET armed. -/
def alarmBody (core : Nat) (s : State) : State :=
  let k := s.core core
  if 8 ≤ core ∨ ¬ (k.running && !k.restarting && !k.halted) ∨ (6 ≤ core ∧ k.alarm.isNone ∧ ¬ k.alarmPend) then s
  else s.modCore core fun k => ({ k with alarm := none }).interrupt 0x10

def execAlarmInterrupt (core : Nat) (s : State) : Host.Outcome State Fault Refusal := .next (alarmBody core s)

/-- SUPERVISOR_SIGNAL (R495): the signal from core 0. -/
def signalBody (core : Nat) (s : State) : State :=
  let k := s.core core
  if 8 ≤ core ∨ ¬ (k.running && !k.restarting && !k.halted) then s else s.modCore core fun k => k.interrupt 0x11

def execSupervisorSignal (core : Nat) (s : State) : Host.Outcome State Fault Refusal := .next (signalBody core s)

/-! ## Mailbox and watchdog commands -/

/-- GAF_MB_PUSH (R458): a core's push, or a helper's, which waits at a full FIFO. -/
def mbPushBody (core : Option Nat) (fifo entry : Nat) (s : State) : State :=
  if 512 ≤ fifo then s
  else match core with
    | some c => if 8 ≤ c ∨ ¬ reachesFifo c fifo then s else s.corePush fifo entry
    | none => s.helperPush fifo entry

def execGafMbPush (core : Option Nat) (fifo entry : Nat) (s : State) : Host.Outcome State Fault Refusal := .next (mbPushBody core fifo entry s)

/-- GAF_MB_POP (R459, R460): a core's pop or a helper's; the value is what the reader receives. -/
def mbPopBody (core : Option Nat) (fifo : Nat) (s : State) : State :=
  let ok : Bool := match core with | some c => decide (c < 8) && reachesFifo c fifo | none => true
  if 512 ≤ fifo ∨ ¬ ok then s
  else ((s.modFifo fifo fun x => x.pop.2)).emit (.popped fifo (s.fifo fifo).pop.1)

def execGafMbPop (core : Option Nat) (fifo : Nat) (s : State) : Host.Outcome State Fault Refusal := .next (mbPopBody core fifo s)

/-- GAF_MB_CTRL_WRITE (R463). -/
def execGafMbCtrlWrite (core fifo : Nat) (value : W32) (s : State) : Host.Outcome State Fault Refusal :=
  .next (s.mbCtrlWrite core fifo value)

/-- GAF_WDT_KICK (R464): the writing core's watchdog starts again; its count is time, so nothing else changes. -/
def execGafWdtKick (_core : Nat) (s : State) : Host.Outcome State Fault Refusal := .next s

end Sys2Proof.Machine
end

