-- ==== Sys2Proof/Machine/Kernel.lean ====
section
/-! DEFINITION. The services of the Gaffer kernel and the faults of open-core programs (spec/17 R469, R470; spec/18 R498, R499). -/

namespace Sys2Proof.Machine

open Sys2Proof

/-- What a service answers: the state after it with its status and results g2, g3, or still in progress. -/
inductive Served where
  | done (s : State) (status g2 g3 : Nat)
  | busy (s : State)
deriving DecidableEq, Repr

/-- The return of a kernel call: g1 the status, g2 and g3 the results, the trap's traces, and the next instruction in user mode with ie as it was. -/
def Core.kernelReturn (k : Core) (status g2 g3 : Nat) : Core :=
  let p := k.pc + 4#32
  let k := ((k.settleEret.setReg 1 (w32 status)).setReg 2 (w32 g2)).setReg 3 (w32 g3)
  { k with pc := p, epc := p, ecause := 8, psr := w32 (pack [(0, 1), (1, field k.psr 1 1), (2, 1), (3, field k.psr 1 1)]),
           afterEret := true }

/-- Core `c` is an open core whose running program stands at KCALL `n` in user mode; no live activation replaces its kernel (R535). -/
def State.atKcall (s : State) (c n : Nat) : Bool :=
  let k := s.core c
  decide (c = 6 ∨ c = 7) && k.live && !s.handing 6 && k.program && k.user && decide (s.fetchCheck c k.pc = 0) && s.fetches c (Dv.kcall n).encode

/-- Serves a kernel call where the program has made it. -/
def State.kernel (s : State) (c n : Nat) (f : State → Core → Served) : State :=
  if s.atKcall c n then
    match f s (s.core c) with
    | .done s st a b => s.modCore c fun k => k.kernelReturn st a b
    | .busy s => s
  else s

/-- Argument `gn` of a call. -/
def Core.arg (k : Core) (n : Nat) : Nat := (k.reg n).toNat

/-- A buffer lies wholly within the program's granted regions (R498). -/
def Core.buffer (k : Core) (wr : Bool) (a n : Nat) : Bool := k.mpuOk (if wr then 2 else 1) a n

/-- Bytes of a program's memory. -/
def Core.peek (k : Core) (a n : Nat) : Bytes := Mem.read 0 k.sram a n

/-- TALLY_READ (R470, R498). -/
def execTallyRead (core : Nat) (s : State) : Host.Outcome State Fault Refusal :=
  .next (s.kernel core 0x01 fun s _ =>
    let t := s.tally (0x10 + core)
    .done s 0 (t % 2 ^ 32) (t / 2 ^ 32))

/-- TIMER_SET: arms a one-shot alarm in place of an earlier one; 0 disarms. -/
def execTimerSet (core : Nat) (s : State) : Host.Outcome State Fault Refusal :=
  .next (s.kernel core 0x02 fun s k =>
    let us := k.arg 2
    .done (s.modCore core fun k => { k with alarm := if us = 0 then none else some us, alarmPend := false }) 0 us (k.arg 3))

/-- WAIT: ends when the named FIFO is ready, or when the alarm falls due; `due` says that it does. -/
def waitServe (core : Nat) (due : Bool) (s : State) (k : Core) : Served :=
  let f := k.arg 2
  if 32 ≤ f ∧ f ≠ 0xFFFFFFFF then .done s 0x10 f (k.arg 3)
  else if f < 32 ∧ (s.fifo (fifoBase core + f)).ready then .done s 0 0 (k.arg 3)
  else if k.alarmPend ∨ (due ∧ k.alarm.isSome) then .done (s.modCore core fun k => { k with alarm := none, alarmPend := false }) 0 1 (k.arg 3)
  else .busy s

def execWait (core : Nat) (due : Bool) (s : State) : Host.Outcome State Fault Refusal := .next (s.kernel core 0x03 (waitServe core due))

/-- COPY: a MOVER COPY under the bound tenant. While its writes are held the kernel waits (R73, R91). -/
def kernelCopy (core : Nat) (s : State) (k : Core) : Served :=
  let t := s.boundTenant core
  let src := k.arg 2 + k.arg 3 * 2 ^ 32; let dst := k.arg 4 + k.arg 5 * 2 ^ 32; let n := k.arg 6
  let ret := fun (s : State) (st : Nat) => Served.done s st (k.arg 2) (k.arg 3)
  if k.copying ≠ [] then
    (if k.copying.any s.pendingPane then .busy s else ret (s.modCore core fun k => { k with copying := [] }) 0)
  else if n = 0 ∨ (src < dst + n ∧ dst < src + n) then ret s 0x10
  else
    let o := Owner.unit (0x100 + core)
    match s.readC o t src n with
    | .wait s => .busy s
    | .fail st => ret ((if st = 0x30 then s.memFaultC t src n false else s).scramble t dst n) st
    | .data bs =>
      let s := s.dropArrived o
      match s.writeC t dst bs with
      | .ok (w, h) => if h = [] then ret w 0 else .busy (w.modCore core fun k => { k with copying := h })
      | .error e => ret ((if e = 0x30 then s.memFaultC t dst n true else s).scramble t dst n) e

def execKernelCopy (core : Nat) (s : State) : Host.Outcome State Fault Refusal := .next (s.kernel core 0x10 (kernelCopy core))

/-- PKT_RECV: the next slow-path packet with its slot header; 0 bytes where there is none. -/
def pktRecv (core : Nat) (s : State) (k : Core) : Served :=
  let a := k.arg 2; let n := k.arg 3
  match s.mrv.slowQ.getD core [] with
  | [] => .done s 0 0 n
  | p :: r =>
    let b := slotHeader p ++ p.bytes
    if n < b.length then .done s 0x13 a n
    else if ¬ k.buffer true a n then .done s 0x11 a n
    else .done ((s.modMrv fun m => { m with slowQ := m.slowQ.put core r }).modCore core fun k => k.poke a b) 0 b.length n

def execPktRecv (core : Nat) (s : State) : Host.Outcome State Fault Refusal := .next (s.kernel core 0x20 (pktRecv core))

/-- PKT_SEND: a frame with a transmit slot header through a leaf queue of the bound tenant; the kernel waits at a no_drop queue without room. -/
def pktSend (core : Nat) (s : State) (k : Core) : Served :=
  let a := k.arg 2; let l := k.arg 3
  if ¬ k.buffer false a 32 then .done s 0x11 a l
  else
    let h := k.peek a 32
    if ¬ k.buffer false a (32 + fieldAt h 0 2) then .done s 0x11 a l
    else
      let t := s.boundTenant core
      match s.offer l { (slotFrame t h (k.peek (a + 32) (fieldAt h 0 2))) with ofRing := false } with
      | (s, .held) => .busy s
      | (s, .placed) => .done s 0 a l
      | (s, .dropped) => .done s (if s.leafTenant l = some t then 0 else 0x12) a l

def execPktSend (core : Nat) (s : State) : Host.Outcome State Fault Refusal := .next (s.kernel core 0x21 (pktSend core))

/-- PKT_REINJECT: a packet with its receive slot header goes back to the parser (R368). -/
def pktReinject (s : State) (k : Core) : Served :=
  let a := k.arg 2
  if ¬ k.buffer false a 32 then .done s 0x11 a (k.arg 3)
  else
    let h := k.peek a 32
    if ¬ k.buffer false a (32 + fieldAt h 0 2) then .done s 0x11 a (k.arg 3)
    else if s.netPorts ≤ fieldAt h 2 1 ∨ 8 ≤ fieldAt h 3 1 then .done s 0x10 a (k.arg 3)
    else .done (s.reinject (fieldAt h 2 1) (fieldAt h 3 1) (k.peek (a + 32) (fieldAt h 0 2))) 0 a (k.arg 3)

def execPktReinject (core : Nat) (s : State) : Host.Outcome State Fault Refusal := .next (s.kernel core 0x22 pktReinject)

/-- SA_INSTALL by a program: a record under the bound tenant (R431, R470). -/
def kernelSaInstall (core : Nat) (s : State) (k : Core) : Served :=
  let a := k.arg 2
  if ¬ k.buffer false a 64 then .done s 0x11 a (k.arg 3)
  else
    match s.installSa (s.boundTenant core) (k.peek a 64) with
    | (s, .ok i) => .done s 0 i (k.arg 3)
    | (s, .error e) => .done s e a (k.arg 3)

def execKernelSaInstall (core : Nat) (s : State) : Host.Outcome State Fault Refusal := .next (s.kernel core 0x30 (kernelSaInstall core))

/-- SA_REMOVE by a program. -/
def execKernelSaRemove (core : Nat) (s : State) : Host.Outcome State Fault Refusal :=
  .next (s.kernel core 0x31 fun s k =>
    let (s, st) := s.removeSa (s.boundTenant core) (k.arg 2)
    .done s st (k.arg 2) (k.arg 3))

/-- LOG: a telemetry record of 1 to 64 bytes (R521 type 0x1003). -/
def kernelLog (core : Nat) (s : State) (k : Core) : Served :=
  let a := k.arg 2; let n := k.arg 3
  if n = 0 ∨ 64 < n then .done s 0x10 a n
  else if ¬ k.buffer false a n then .done s 0x11 a n
  else .done (s.telemetry 0x1003 (0x10 + core) (k.peek a n)) 0 a n

def execLog (core : Nat) (s : State) : Host.Outcome State Fault Refusal := .next (s.kernel core 0x40 (kernelLog core))

/-- A program stops; under restart_policy 1 it is loaded again and starts at its entry (R469). -/
def State.stopProgram (s : State) (c : Nat) : State :=
  let s := s.modCore c fun k => { k with program := false, alarm := none, alarmPend := false, copying := [] }
  if s.prof 0xC 0 7 1 = 1 then s.startProgram c else s

/-- EXIT: the exit code is logged and the program stops as at a fault, without a logged fault. -/
def execExit (core : Nat) (s : State) : Host.Outcome State Fault Refusal :=
  .next (if s.atKcall core 0x50 then (s.telemetry 0x1003 (0x10 + core) (natLe ((s.core core).arg 2) 4)).stopProgram core else s)

/-- PROGRAM_FAULT (R469): a user-mode trap has left the core in the kernel; the fault is logged, prog_fault set, and the program stopped. -/
def programFaultBody (core : Nat) (s : State) : State :=
  let k := s.core core
  let e := k.ecause.toNat
  if ¬ (core = 6 ∨ core = 7) ∨ ¬ k.program ∨ ¬ k.live ∨ k.user ∨ ¬ bitOf k.psr 2 ∨ ¬ ((1 ≤ e ∧ e ≤ 7) ∨ e = 9) then s
  else
    let s := s.modGaf fun g => { g with events := latch g.events (core + 2) }
    let s := s.report { source := 0x10 + core, severity := 1, bit := core + 2, reg := 4, block := 1,
                        d0 := k.epc.toNat, d1 := e, d2 := k.eaddr.toNat }
    s.stopProgram core

def execProgramFault (core : Nat) (s : State) : Host.Outcome State Fault Refusal := .next (programFaultBody core s)

end Sys2Proof.Machine
end

