-- ==== Sys2Proof/Machine/Withdraw.lean ====
section
/-! DEFINITION. Pane withdrawal: a candidate's contents move to another pane, and where the job space is full a replica slot makes room (spec/03 R90, spec/09 R266). -/

namespace Sys2Proof.Machine

open Sys2Proof

/-! ## Room for a replacement pane (R266) -/

/-- Job space is left for one pane more, once a withdrawn pane has shrunk it. -/
def State.paneRoom (s : State) : Bool := decide (s.jobUsed + s.ann.baseBytes + s.leh.slotBytes + paneBytes ≤ s.jobSpace)

/-- The HBM replica slot of the oldest committed epoch that may move: its index; none where that epoch has no slot in HBM. -/
def Lehr.oldestSlot (l : Lehr) : Option Nat :=
  let c := l.slots.filter (·.committed)
  let oldest := (c.map (·.epoch)).foldl min (2 ^ 64)
  l.slots.findIdx? fun x => decide (x.epoch = oldest) && x.committed && !x.onDrive

/-- Moves an HBM slot to the drive replica namespace: its segments are written there, and slot_on_drive is set; none where the namespace has no room (R266). -/
def State.slotToDrive (s : State) (k : Nat) : Option State :=
  match s.leh.slots[k]? with
  | none => none
  | some x =>
    let need := ((x.segs.map (·.1)).foldl max 0 + 1) * 0x4001000
    match s.driveBase need with
    | none => none
    | some b =>
      let s := (s.lehEvent 7).modLeh fun l => { l with slots := modNth l.slots k fun x => { x with onDrive := true, base := b, size := need } }
      some (x.segs.foldl (fun s g => s.writeSlot (b + g.1 * 0x4001000) { rank := x.rank, epoch := x.epoch, seg := g.1, bytes := g.2, ack := false }) s)

/-- Makes room for a replacement pane; none where no slot can move (R266). -/
def State.makePaneRoom (s : State) : Option State :=
  if s.paneRoom then some s else (s.leh.oldestSlot.bind s.slotToDrive).filter State.paneRoom

/-! ## Withdrawal (R90) -/

/-- A write to a pane whose contents have moved goes to the new pane. -/
def HeldWrite.moved (w : HeldWrite) (old new : Nat) : HeldWrite :=
  if paneOf w.pa = old then { w with pa := new * paneBytes + w.pa % paneBytes } else w

/-- PANE_WITHDRAW (R90, R266): a candidate's contents move to another pane, taken from free job space, and its translation entry is switched; without a pane, or room for it, it stays in service and is logged. -/
def withdrawBody (pane : Nat) (s : State) : State :=
  if ¬ s.fab.candidates.contains pane then s
  else if 65536 ≤ s.fab.withdrawn.length then
    s.report { typ := 6, source := 0x41, severity := 1, block := 5, d0 := pane }
  else if s.fab.armed pane ∨ (s.fab.scope.contains pane ∧ s.fab.badIn (pane * paneBytes) paneBytes) then s
  else
    let stays := s.report { typ := 6, source := 0x41, severity := 2, status := 0x13, block := 5, d0 := pane }
    match (s.fab.placed.find? pane), s.choosePane, s.makePaneRoom with
    | none, _, _ =>
      State.copyWithdrawn { s with fab := { s.fab with
        candidates := s.fab.candidates.filter (· ≠ pane), withdrawn := s.fab.withdrawn ++ [pane] } }
    | some _, none, _ => stays
    | some _, some _, none => stays
    | some own, some n, some s =>
      let f := s.fab
      let f := f.writeNow (n * paneBytes) (Mem.read 0 f.hbm (pane * paneBytes) paneBytes)
      let sw := fun p => if p = pane then n else p
      let s := { s.tick with fab := { f with
        bad := (f.bad.filter fun b => b / 1024 ≠ pane) ++ (f.bad.filter fun b => b / 1024 = pane).map fun b => n * 1024 + b % 1024
        panes := f.panes.mapVal fun _ t => t.mapVal fun _ e => { e with phys := sw e.phys }
        placed := (f.placed.del pane).put n own
        scope := f.scope.map sw
        doneBits := f.doneBits.map sw
        ctrls := f.ctrls.mapVal fun _ c => { c with waiting := c.waiting.map fun w : HeldWrite => w.moved pane n, held := c.held.map fun w : HeldWrite => w.moved pane n }
        unseen := f.unseen.map fun u : Unseen => { u with panes := u.panes.map sw }
        candidates := f.candidates.filter (· ≠ pane)
        withdrawn := f.withdrawn ++ [pane] } }
      (s.report { typ := 6, source := 0x41, severity := 2, bit := 5, block := 5, d0 := pane, d1 := n }).copyWithdrawn

def execPaneWithdraw (pane : Nat) (s : State) : Host.Outcome State Fault Refusal := .next (withdrawBody pane s)


end Sys2Proof.Machine
end

