-- ==== Sys2Proof/Machine/Dispatch.lean ====
section
/-! DEFINITION. One arm per command: each calls the meaning of its row. -/

namespace Sys2Proof.Machine

def exec (i : Instr) (s : State) : Host.Outcome State Fault Refusal :=
  match i with
  | .inputSag vinMv => Sys2Proof.Machine.execInputSag vinMv s
  | .railOutOfWindow rail mv => Sys2Proof.Machine.execRailOutOfWindow rail mv s
  | .undervoltageLockout vinMv => Sys2Proof.Machine.execUndervoltageLockout vinMv s
  | .lockoutEnd vinMv => Sys2Proof.Machine.execLockoutEnd vinMv s
  | .overvoltageCutOff vinMv => Sys2Proof.Machine.execOvervoltageCutOff vinMv s
  | .cutOffEnd vinMv => Sys2Proof.Machine.execCutOffEnd vinMv s
  | .modEnFall => Sys2Proof.Machine.execModEnFall s
  | .modEnRise => Sys2Proof.Machine.execModEnRise s
  | .inhibitLift vinMv => Sys2Proof.Machine.execInhibitLift vinMv s
  | .inputGlitch vinMv => Sys2Proof.Machine.execInputGlitch vinMv s
  | .junctionThrottle tempC => Sys2Proof.Machine.execJunctionThrottle tempC s
  | .throttleStep tempC => Sys2Proof.Machine.execThrottleStep tempC s
  | .thermalTrip sensor tempC => Sys2Proof.Machine.execThermalTrip sensor tempC s
  | .coreRailOvervoltage rail mv => Sys2Proof.Machine.execCoreRailOvervoltage rail mv s
  | .inputCurrentLimit ma => Sys2Proof.Machine.execInputCurrentLimit ma s
  | .aodLimitCtrlWrite value => Sys2Proof.Machine.execAodLimitCtrlWrite value s
  | .aodPowerOn vinMv cohortId hostEn sbAddr recover => Sys2Proof.Machine.execAodPowerOn vinMv cohortId hostEn sbAddr recover s
  | .modRstNAssert => Sys2Proof.Machine.execModRstNAssert s
  | .orderlyPhaseEnd => Sys2Proof.Machine.execOrderlyPhaseEnd s
  | .bootRomStart selfTest trained dies => Sys2Proof.Machine.execBootRomStart selfTest trained dies s
  | .cohortMemberJoin port member size hostEn serial sections => Sys2Proof.Machine.execCohortMemberJoin port member size hostEn serial sections s
  | .memberWaitExpiry => Sys2Proof.Machine.execMemberWaitExpiry s
  | .linkFlitReplay link failed => Sys2Proof.Machine.execLinkFlitReplay link failed s
  | .bridgeEntryOverflow domain => Sys2Proof.Machine.execBridgeEntryOverflow domain s
  | .patrolScrub ctrl errors => Sys2Proof.Machine.execPatrolScrub ctrl errors s
  | .paneErrorAgeOut ctrl pane => Sys2Proof.Machine.execPaneErrorAgeOut ctrl pane s
  | .paneWithdraw pane => Sys2Proof.Machine.execPaneWithdraw pane s
  | .armedPaneWrite pa bytes => Sys2Proof.Machine.execArmedPaneWrite pa bytes s
  | .paneCopyDone pane stallNs waitUs sram => Sys2Proof.Machine.execPaneCopyDone pane stallNs waitUs sram s
  | .selfRefreshEnter stack quadrant enter => Sys2Proof.Machine.execSelfRefreshEnter stack quadrant enter s
  | .memCtrlWrite core offset value => Sys2Proof.Machine.execMemCtrlWrite core offset value s
  | .registerWrite who block offset value => Sys2Proof.Machine.execRegisterWrite who block offset value s
  | .queueEnable fn q ctrl => Sys2Proof.Machine.execQueueEnable fn q ctrl s
  | .queueDisable fn q => Sys2Proof.Machine.execQueueDisable fn q s
  | .queueDoorbell fn q tail => Sys2Proof.Machine.execQueueDoorbell fn q tail s
  | .cqHeadWrite fn q head => Sys2Proof.Machine.execCqHeadWrite fn q head s
  | .commandFetch fn q => Sys2Proof.Machine.execCommandFetch fn q s
  | .commandStart fn q => Sys2Proof.Machine.execCommandStart fn q s
  | .syncCounterWrite fn index value => Sys2Proof.Machine.execSyncCounterWrite fn index value s
  | .copy r => Sys2Proof.Machine.execCopy r s
  | .fill r => Sys2Proof.Machine.execFill r s
  | .copyTensor r => Sys2Proof.Machine.execCopyTensor r s
  | .writeImm r => Sys2Proof.Machine.execWriteImm r s
  | .queryDevice r => Sys2Proof.Machine.execQueryDevice r s
  | .placementQuery r => Sys2Proof.Machine.execPlacementQuery r s
  | .tenantSet r => Sys2Proof.Machine.execTenantSet r s
  | .tenantQuiesce r => Sys2Proof.Machine.execTenantQuiesce r s
  | .tenantResume r => Sys2Proof.Machine.execTenantResume r s
  | .paneMap r => Sys2Proof.Machine.execPaneMap r s
  | .paneUnmap r => Sys2Proof.Machine.execPaneUnmap r s
  | .profileStage r => Sys2Proof.Machine.execProfileStage r s
  | .restart r => Sys2Proof.Machine.execRestart r s
  | .diagRead r => Sys2Proof.Machine.execDiagRead r s
  | .modelRegister r => Sys2Proof.Machine.execModelRegister r s
  | .modelLoad r => Sys2Proof.Machine.execModelLoad r s
  | .modelEvict r => Sys2Proof.Machine.execModelEvict r s
  | .modelRun r => Sys2Proof.Machine.execModelRun r s
  | .matmul r => Sys2Proof.Machine.execMatmul r s
  | .project r => Sys2Proof.Machine.execProject r s
  | .workUnitGrant r quarter others k l lo n => Sys2Proof.Machine.execWorkUnitGrant r quarter others k l lo n s
  | .workUnitDone quarter tile sram => Sys2Proof.Machine.execWorkUnitDone quarter tile sram s
  | .quarterReassign quarter => Sys2Proof.Machine.execQuarterReassign quarter s
  | .modelFetchDone tenant id => Sys2Proof.Machine.execModelFetchDone tenant id s
  | .residencyMigration tenant id seats => Sys2Proof.Machine.execResidencyMigration tenant id seats s
  | .shardDefine r => Sys2Proof.Machine.execShardDefine r s
  | .bucketDefine r => Sys2Proof.Machine.execBucketDefine r s
  | .ruleLoad r => Sys2Proof.Machine.execRuleLoad r s
  | .groupMap r => Sys2Proof.Machine.execGroupMap r s
  | .start r => Sys2Proof.Machine.execStart r s
  | .startBarrierDigest rank digest chain => Sys2Proof.Machine.execStartBarrierDigest rank digest chain s
  | .startBarrierTimeout => Sys2Proof.Machine.execStartBarrierTimeout s
  | .setConst r => Sys2Proof.Machine.execSetConst r s
  | .retry r => Sys2Proof.Machine.execRetry r s
  | .stop r => Sys2Proof.Machine.execStop r s
  | .query r => Sys2Proof.Machine.execQuery r s
  | .intakeToken contributor token => Sys2Proof.Machine.execIntakeToken contributor token s
  | .intakeTimeout => Sys2Proof.Machine.execIntakeTimeout s
  | .partialMessage imm payload => Sys2Proof.Machine.execPartialMessage imm payload s
  | .exchangeTimeout bucket => Sys2Proof.Machine.execExchangeTimeout bucket s
  | .scalarMessage imm payload => Sys2Proof.Machine.execScalarMessage imm payload s
  | .groupUpdateDone sram => Sys2Proof.Machine.execGroupUpdateDone sram s
  | .gatherMessage imm payload => Sys2Proof.Machine.execGatherMessage imm payload s
  | .weightsReady group => Sys2Proof.Machine.execWeightsReady group s
  | .abort src step reason => Sys2Proof.Machine.execAbort src step reason s
  | .epochTimerDue => Sys2Proof.Machine.execEpochTimerDue s
  | .epochAnnounce gen epoch step nonce => Sys2Proof.Machine.execEpochAnnounce gen epoch step nonce s
  | .announceAck gen src epoch => Sys2Proof.Machine.execAnnounceAck gen src epoch s
  | .segmentStage sram => Sys2Proof.Machine.execSegmentStage sram s
  | .segmentReceive gen src bytes => Sys2Proof.Machine.execSegmentReceive gen src bytes s
  | .segmentAck gen buddy epoch seg kind => Sys2Proof.Machine.execSegmentAck gen buddy epoch seg kind s
  | .segmentRefused gen buddy epoch seg => Sys2Proof.Machine.execSegmentRefused gen buddy epoch seg s
  | .shardReport gen epoch rank segments scope first count digest buddies legs => Sys2Proof.Machine.execShardReport gen epoch rank segments scope first count digest buddies legs s
  | .manifestStore gen manifest => Sys2Proof.Machine.execManifestStore gen manifest s
  | .manifestAck gen epoch => Sys2Proof.Machine.execManifestAck gen epoch s
  | .commit gen manifest => Sys2Proof.Machine.execCommit gen manifest s
  | .discard gen epoch cause => Sys2Proof.Machine.execDiscard gen epoch cause s
  | .onwardLegDone epoch kind seg ok => Sys2Proof.Machine.execOnwardLegDone epoch kind seg ok s
  | .take ref => Sys2Proof.Machine.execTake ref s
  | .policy r => Sys2Proof.Machine.execPolicy r s
  | .epochQuery r => Sys2Proof.Machine.execEpochQuery r s
  | .restore r chains confirmed => Sys2Proof.Machine.execRestore r chains confirmed s
  | .segmentPullDone holder rank seg bytes => Sys2Proof.Machine.execSegmentPullDone holder rank seg bytes s
  | .pullTimeout rank seg => Sys2Proof.Machine.execPullTimeout rank seg s
  | .paneRepair pane => Sys2Proof.Machine.execPaneRepair pane s
  | .heartbeatSend => Sys2Proof.Machine.execHeartbeatSend s
  | .heartbeat src gen => Sys2Proof.Machine.execHeartbeat src gen s
  | .suspicionTimeout rank => Sys2Proof.Machine.execSuspicionTimeout rank s
  | .suspicionLapse rank => Sys2Proof.Machine.execSuspicionLapse rank s
  | .suspectReport gen suspect watcher recent relay => Sys2Proof.Machine.execSuspectReport gen suspect watcher recent relay s
  | .probe src gen => Sys2Proof.Machine.execProbe src gen s
  | .probeReply gen src => Sys2Proof.Machine.execProbeReply gen src s
  | .probeWindowExpiry suspect => Sys2Proof.Machine.execProbeWindowExpiry suspect s
  | .lost lost gen epoch root => Sys2Proof.Machine.execLost lost gen epoch root s
  | .selfFence => Sys2Proof.Machine.execSelfFence s
  | .withdraw rank gen => Sys2Proof.Machine.execWithdraw rank gen s
  | .reshard ref status epoch flags exclude table manifest => Sys2Proof.Machine.execReshard ref status epoch flags exclude table manifest s
  | .reshardComplete digests recoveryUs => Sys2Proof.Machine.execReshardComplete digests recoveryUs s
  | .dlActive port speed width flit aperture => Sys2Proof.Machine.execDlActive port speed width flit aperture s
  | .peerCompletion port tag status bytes => Sys2Proof.Machine.execPeerCompletion port tag status bytes s
  | .peerCompletionTimeout port tag => Sys2Proof.Machine.execPeerCompletionTimeout port tag s
  | .peerTagQuarantineEnd port tag => Sys2Proof.Machine.execPeerTagQuarantineEnd port tag s
  | .inboundWrite origin port addr read bytes => Sys2Proof.Machine.execInboundWrite origin port addr read bytes s
  | .slotPowerOn port auto => Sys2Proof.Machine.execSlotPowerOn port auto s
  | .slotRefclkStart port => Sys2Proof.Machine.execSlotRefclkStart port s
  | .slotPerstRelease port => Sys2Proof.Machine.execSlotPerstRelease port s
  | .slotPowerOff port => Sys2Proof.Machine.execSlotPowerOff port s
  | .attentionIndicatorSet port value => Sys2Proof.Machine.execAttentionIndicatorSet port value s
  | .powerIndicatorSet port value => Sys2Proof.Machine.execPowerIndicatorSet port value s
  | .presenceChange port present => Sys2Proof.Machine.execPresenceChange port present s
  | .attentionButton port => Sys2Proof.Machine.execAttentionButton port s
  | .buttonWindowEnd port => Sys2Proof.Machine.execButtonWindowEnd port s
  | .powerFault port => Sys2Proof.Machine.execPowerFault port s
  | .surpriseDown port => Sys2Proof.Machine.execSurpriseDown port s
  | .linkTrainRetry port failed => Sys2Proof.Machine.execLinkTrainRetry port failed s
  | .cohortLinkDown port => Sys2Proof.Machine.execCohortLinkDown port s
  | .bmeClear fn => Sys2Proof.Machine.execBmeClear fn s
  | .bmeSet fn => Sys2Proof.Machine.execBmeSet fn s
  | .interruptDisableWrite fn disable => Sys2Proof.Machine.execInterruptDisableWrite fn disable s
  | .flr fn => Sys2Proof.Machine.execFlr fn s
  | .hotReset => Sys2Proof.Machine.execHotReset s
  | .hostLinkDown => Sys2Proof.Machine.execHostLinkDown s
  | .fundamentalReset => Sys2Proof.Machine.execFundamentalReset s
  | .bar4Read fn off len => Sys2Proof.Machine.execBar4Read fn off len s
  | .bar4Write fn off bytes => Sys2Proof.Machine.execBar4Write fn off bytes s
  | .hostReadCompletion fn tag status bytes => Sys2Proof.Machine.execHostReadCompletion fn tag status bytes s
  | .hostReadTimeout fn tag => Sys2Proof.Machine.execHostReadTimeout fn tag s
  | .hostTagQuarantineEnd fn tag => Sys2Proof.Machine.execHostTagQuarantineEnd fn tag s
  | .hbCtrlWrite fn value => Sys2Proof.Machine.execHbCtrlWrite fn value s
  | .hepHeartbeat fn => Sys2Proof.Machine.execHepHeartbeat fn s
  | .driverLossExpiry fn met => Sys2Proof.Machine.execDriverLossExpiry fn met s
  | .nvmeSqTailDoorbell fn q tail => Sys2Proof.Machine.execNvmeSqTailDoorbell fn q tail s
  | .nvmeCqHeadDoorbell fn q head => Sys2Proof.Machine.execNvmeCqHeadDoorbell fn q head s
  | .accelPairDoorbell port off bytes => Sys2Proof.Machine.execAccelPairDoorbell port off bytes s
  | .intmsWrite fn value => Sys2Proof.Machine.execIntmsWrite fn value s
  | .intmcWrite fn value => Sys2Proof.Machine.execIntmcWrite fn value s
  | .ccEnClear fn => Sys2Proof.Machine.execCcEnClear fn s
  | .ccShnSet fn shn => Sys2Proof.Machine.execCcShnSet fn shn s
  | .createIoSq fn => Sys2Proof.Machine.execCreateIoSq fn s
  | .createIoCq fn => Sys2Proof.Machine.execCreateIoCq fn s
  | .deleteIoSq fn => Sys2Proof.Machine.execDeleteIoSq fn s
  | .deleteIoCq fn => Sys2Proof.Machine.execDeleteIoCq fn s
  | .getLogPage fn => Sys2Proof.Machine.execGetLogPage fn s
  | .identify fn => Sys2Proof.Machine.execIdentify fn s
  | .nvmeAbort fn => Sys2Proof.Machine.execNvmeAbort fn s
  | .setFeatures fn => Sys2Proof.Machine.execSetFeatures fn s
  | .getFeatures fn => Sys2Proof.Machine.execGetFeatures fn s
  | .asynchronousEventRequest fn => Sys2Proof.Machine.execAsynchronousEventRequest fn s
  | .firmwareImageDownload fn => Sys2Proof.Machine.execFirmwareImageDownload fn s
  | .firmwareCommit fn recent fail restart => Sys2Proof.Machine.execFirmwareCommit fn recent fail restart s
  | .createAccelQueuePair fn => Sys2Proof.Machine.execCreateAccelQueuePair fn s
  | .deleteAccelQueuePair fn => Sys2Proof.Machine.execDeleteAccelQueuePair fn s
  | .nvmeRead c q => Sys2Proof.Machine.execNvmeRead c q s
  | .nvmeWrite c q => Sys2Proof.Machine.execNvmeWrite c q s
  | .nvmeFlush c q => Sys2Proof.Machine.execNvmeFlush c q s
  | .writeZeroes c q => Sys2Proof.Machine.execWriteZeroes c q s
  | .datasetManagement c q => Sys2Proof.Machine.execDatasetManagement c q s
  | .overlapRelease => Sys2Proof.Machine.execOverlapRelease s
  | .driveCompletion drive tag ok sram bytes => Sys2Proof.Machine.execDriveCompletion drive tag ok sram bytes s
  | .driveTimeout drive tag => Sys2Proof.Machine.execDriveTimeout drive tag s
  | .driveResetDone drive => Sys2Proof.Machine.execDriveResetDone drive s
  | .driveLost drive presence => Sys2Proof.Machine.execDriveLost drive presence s
  | .driveReinsert drive info => Sys2Proof.Machine.execDriveReinsert drive info s
  | .driveTrainRetry drive info => Sys2Proof.Machine.execDriveTrainRetry drive info s
  | .replicaAck target tag status bytes => Sys2Proof.Machine.execReplicaAck target tag status bytes s
  | .replicaTimeout target tag => Sys2Proof.Machine.execReplicaTimeout target tag s
  | .replicaWrite target message => Sys2Proof.Machine.execReplicaWrite target message s
  | .replicaRebuildDone tenant nsid target => Sys2Proof.Machine.execReplicaRebuildDone tenant nsid target s
  | .frameReceive port bytes fecCorrected fecOk fcsOk => Sys2Proof.Machine.execFrameReceive port bytes fecCorrected fecOk fcsOk s
  | .pfcRepeat port prio => Sys2Proof.Machine.execPfcRepeat port prio s
  | .pfcFrameReceive port enable quanta => Sys2Proof.Machine.execPfcFrameReceive port enable quanta s
  | .pauseExpiry port prio => Sys2Proof.Machine.execPauseExpiry port prio s
  | .pcsAlignmentLoss port => Sys2Proof.Machine.execPcsAlignmentLoss port s
  | .frameParse sram => Sys2Proof.Machine.execFrameParse sram s
  | .laneProcess lane sram => Sys2Proof.Machine.execLaneProcess lane sram s
  | .reorderSkip port => Sys2Proof.Machine.execReorderSkip port s
  | .fragmentTimeout index => Sys2Proof.Machine.execFragmentTimeout index s
  | .leafEnqueue src => Sys2Proof.Machine.execLeafEnqueue src s
  | .transmitStart port sram => Sys2Proof.Machine.execTransmitStart port sram s
  | .shaperRefill us => Sys2Proof.Machine.execShaperRefill us s
  | .hwmRead offset => Sys2Proof.Machine.execHwmRead offset s
  | .create tenant => Sys2Proof.Machine.execCreate tenant s
  | .connect tenant reorders => Sys2Proof.Machine.execConnect tenant reorders s
  | .destroy tenant => Sys2Proof.Machine.execDestroy tenant s
  | .rdmaWrite qpn => Sys2Proof.Machine.execRdmaWrite qpn s
  | .rdmaWriteWithImmediate qpn => Sys2Proof.Machine.execRdmaWriteWithImmediate qpn s
  | .rdmaSend qpn => Sys2Proof.Machine.execRdmaSend qpn s
  | .rdmaSendWithImmediate qpn => Sys2Proof.Machine.execRdmaSendWithImmediate qpn s
  | .rdmaRead qpn => Sys2Proof.Machine.execRdmaRead qpn s
  | .inboundPacket cnpDue sram => Sys2Proof.Machine.execInboundPacket cnpDue sram s
  | .ackReceive => Sys2Proof.Machine.execAckReceive s
  | .nakReceive => Sys2Proof.Machine.execNakReceive s
  | .rnrNakReceive => Sys2Proof.Machine.execRnrNakReceive s
  | .holeTimeout qpn => Sys2Proof.Machine.execHoleTimeout qpn s
  | .ackTimeout qpn => Sys2Proof.Machine.execAckTimeout qpn s
  | .cnpReceive => Sys2Proof.Machine.execCnpReceive s
  | .rateRecovery qpn => Sys2Proof.Machine.execRateRecovery qpn s
  | .windowOpen r => Sys2Proof.Machine.execWindowOpen r s
  | .windowRevoke r => Sys2Proof.Machine.execWindowRevoke r s
  | .drainLimit window => Sys2Proof.Machine.execDrainLimit window s
  | .targetConnect target serial serves => Sys2Proof.Machine.execTargetConnect target serial serves s
  | .saInstall r => Sys2Proof.Machine.execSaInstall r s
  | .saRemove r => Sys2Proof.Machine.execSaRemove r s
  | .nsCreate r => Sys2Proof.Machine.execNsCreate r s
  | .nsDelete r => Sys2Proof.Machine.execNsDelete r s
  | .nsFormat r => Sys2Proof.Machine.execNsFormat r s
  | .getNonce src => Sys2Proof.Machine.execGetNonce src s
  | .getStatus src => Sys2Proof.Machine.execGetStatus src s
  | .selfTest src failed => Sys2Proof.Machine.execSelfTest src failed s
  | .getDtkCert src => Sys2Proof.Machine.execGetDtkCert src s
  | .zeroize src level nonce sig => Sys2Proof.Machine.execZeroize src level nonce sig s
  | .ownerRelease src nonce sig => Sys2Proof.Machine.execOwnerRelease src nonce sig s
  | .debugUnlock src scope nonce sig => Sys2Proof.Machine.execDebugUnlock src scope nonce sig s
  | .nonceExpiry nonce => Sys2Proof.Machine.execNonceExpiry nonce s
  | .environmentZeroize => Sys2Proof.Machine.execEnvironmentZeroize s
  | .entropyTestFail within1s => Sys2Proof.Machine.execEntropyTestFail within1s s
  | .drbgReseed => Sys2Proof.Machine.execDrbgReseed s
  | .maskRekey => Sys2Proof.Machine.execMaskRekey s
  | .periodicSelfTest pass => Sys2Proof.Machine.execPeriodicSelfTest pass s
  | .getVersion src => Sys2Proof.Machine.execGetVersion src s
  | .getCapabilities src => Sys2Proof.Machine.execGetCapabilities src s
  | .negotiateAlgorithms src => Sys2Proof.Machine.execNegotiateAlgorithms src s
  | .getDigests src => Sys2Proof.Machine.execGetDigests src s
  | .getCertificate src slot offset len => Sys2Proof.Machine.execGetCertificate src slot offset len s
  | .challenge src slot nonce => Sys2Proof.Machine.execChallenge src slot nonce s
  | .getMeasurements src index nonce => Sys2Proof.Machine.execGetMeasurements src index nonce s
  | .gafMbPush core fifo entry => Sys2Proof.Machine.execGafMbPush core fifo entry s
  | .gafMbPop core fifo => Sys2Proof.Machine.execGafMbPop core fifo s
  | .gafMbCtrlWrite core fifo value => Sys2Proof.Machine.execGafMbCtrlWrite core fifo value s
  | .gafWdtKick core => Sys2Proof.Machine.execGafWdtKick core s
  | .watchdogExpiry core outcome recent fifos => Sys2Proof.Machine.execWatchdogExpiry core outcome recent fifos s
  | .machineCheck core outcome recent fifos => Sys2Proof.Machine.execMachineCheck core outcome recent fifos s
  | .programFault core => Sys2Proof.Machine.execProgramFault core s
  | .tallyRead core => Sys2Proof.Machine.execTallyRead core s
  | .timerSet core => Sys2Proof.Machine.execTimerSet core s
  | .wait core due => Sys2Proof.Machine.execWait core due s
  | .kernelCopy core => Sys2Proof.Machine.execKernelCopy core s
  | .pktRecv core => Sys2Proof.Machine.execPktRecv core s
  | .pktSend core => Sys2Proof.Machine.execPktSend core s
  | .pktReinject core => Sys2Proof.Machine.execPktReinject core s
  | .kernelSaInstall core => Sys2Proof.Machine.execKernelSaInstall core s
  | .kernelSaRemove core => Sys2Proof.Machine.execKernelSaRemove core s
  | .log core => Sys2Proof.Machine.execLog core s
  | .exit core => Sys2Proof.Machine.execExit core s
  | .alarmInterrupt core => Sys2Proof.Machine.execAlarmInterrupt core s
  | .supervisorSignal core => Sys2Proof.Machine.execSupervisorSignal core s
  | .add core rd ra rb => Sys2Proof.Machine.execAdd core rd ra rb s
  | .sub core rd ra rb => Sys2Proof.Machine.execSub core rd ra rb s
  | .and core rd ra rb => Sys2Proof.Machine.execAnd core rd ra rb s
  | .or core rd ra rb => Sys2Proof.Machine.execOr core rd ra rb s
  | .xor core rd ra rb => Sys2Proof.Machine.execXor core rd ra rb s
  | .sll core rd ra rb => Sys2Proof.Machine.execSll core rd ra rb s
  | .srl core rd ra rb => Sys2Proof.Machine.execSrl core rd ra rb s
  | .sra core rd ra rb => Sys2Proof.Machine.execSra core rd ra rb s
  | .slt core rd ra rb => Sys2Proof.Machine.execSlt core rd ra rb s
  | .sltu core rd ra rb => Sys2Proof.Machine.execSltu core rd ra rb s
  | .clz core rd ra => Sys2Proof.Machine.execClz core rd ra s
  | .permr core rd ra rb => Sys2Proof.Machine.execPermr core rd ra rb s
  | .mul core rd ra rb => Sys2Proof.Machine.execMul core rd ra rb s
  | .mulhs core rd ra rb => Sys2Proof.Machine.execMulhs core rd ra rb s
  | .mulhu core rd ra rb => Sys2Proof.Machine.execMulhu core rd ra rb s
  | .div core rd ra rb => Sys2Proof.Machine.execDiv core rd ra rb s
  | .divu core rd ra rb => Sys2Proof.Machine.execDivu core rd ra rb s
  | .rem core rd ra rb => Sys2Proof.Machine.execRem core rd ra rb s
  | .remu core rd ra rb => Sys2Proof.Machine.execRemu core rd ra rb s
  | .addi core rd ra imm => Sys2Proof.Machine.execAddi core rd ra imm s
  | .andi core rd ra imm => Sys2Proof.Machine.execAndi core rd ra imm s
  | .ori core rd ra imm => Sys2Proof.Machine.execOri core rd ra imm s
  | .xori core rd ra imm => Sys2Proof.Machine.execXori core rd ra imm s
  | .slti core rd ra imm => Sys2Proof.Machine.execSlti core rd ra imm s
  | .sltiu core rd ra imm => Sys2Proof.Machine.execSltiu core rd ra imm s
  | .lui core rd imm => Sys2Proof.Machine.execLui core rd imm s
  | .slli core rd ra imm => Sys2Proof.Machine.execSlli core rd ra imm s
  | .srli core rd ra imm => Sys2Proof.Machine.execSrli core rd ra imm s
  | .srai core rd ra imm => Sys2Proof.Machine.execSrai core rd ra imm s
  | .lb core rd base imm => Sys2Proof.Machine.execLb core rd base imm s
  | .lbu core rd base imm => Sys2Proof.Machine.execLbu core rd base imm s
  | .lh core rd base imm => Sys2Proof.Machine.execLh core rd base imm s
  | .lhu core rd base imm => Sys2Proof.Machine.execLhu core rd base imm s
  | .lw core rd base imm => Sys2Proof.Machine.execLw core rd base imm s
  | .ldp core rd base imm => Sys2Proof.Machine.execLdp core rd base imm s
  | .sb core rs base imm => Sys2Proof.Machine.execSb core rs base imm s
  | .sh core rs base imm => Sys2Proof.Machine.execSh core rs base imm s
  | .sw core rs base imm => Sys2Proof.Machine.execSw core rs base imm s
  | .stp core rs base imm => Sys2Proof.Machine.execStp core rs base imm s
  | .beq core ra rb imm => Sys2Proof.Machine.execBeq core ra rb imm s
  | .bne core ra rb imm => Sys2Proof.Machine.execBne core ra rb imm s
  | .blt core ra rb imm => Sys2Proof.Machine.execBlt core ra rb imm s
  | .bge core ra rb imm => Sys2Proof.Machine.execBge core ra rb imm s
  | .bltu core ra rb imm => Sys2Proof.Machine.execBltu core ra rb imm s
  | .bgeu core ra rb imm => Sys2Proof.Machine.execBgeu core ra rb imm s
  | .j core imm => Sys2Proof.Machine.execJ core imm s
  | .jal core imm => Sys2Proof.Machine.execJal core imm s
  | .jalr core rd ra imm => Sys2Proof.Machine.execJalr core rd ra imm s
  | .bfx core rd ra lsb width sx => Sys2Proof.Machine.execBfx core rd ra lsb width sx s
  | .bfi core rd ra lsb width => Sys2Proof.Machine.execBfi core rd ra lsb width s
  | .perm core rd ra sel => Sys2Proof.Machine.execPerm core rd ra sel s
  | .rep core fromReg inc ra count => Sys2Proof.Machine.execRep core fromReg inc ra count s
  | .repi core fromReg inc ra count granted => Sys2Proof.Machine.execRepi core fromReg inc ra count granted s
  | .trap core code => Sys2Proof.Machine.execTrap core code s
  | .eret core => Sys2Proof.Machine.execEret core s
  | .mfs core rd index => Sys2Proof.Machine.execMfs core rd index s
  | .mts core ra index => Sys2Proof.Machine.execMts core ra index s
  | .fence core => Sys2Proof.Machine.execFence core s
  | .waiti core => Sys2Proof.Machine.execWaiti core s
  | .setPower src target confirm early periods => Sys2Proof.Machine.execSetPower src target confirm early periods s
  | .sleepCalibrationDone periodPs late => Sys2Proof.Machine.execSleepCalibrationDone periodPs late s
  | .autoTrim => Sys2Proof.Machine.execAutoTrim s
  | .p1WorkWake => Sys2Proof.Machine.execP1WorkWake s
  | .wakeNLow periods => Sys2Proof.Machine.execWakeNLow periods s
  | .sidebandAddressMatch asleep periods => Sys2Proof.Machine.execSidebandAddressMatch asleep periods s
  | .hostActivityWake periods => Sys2Proof.Machine.execHostActivityWake periods s
  | .sleepAlarm periods => Sys2Proof.Machine.execSleepAlarm periods s
  | .getPower src => Sys2Proof.Machine.execGetPower src s
  | .setAlarm src ms => Sys2Proof.Machine.execSetAlarm src ms s
  | .resetWarm src => Sys2Proof.Machine.execResetWarm src s
  | .resetCold src => Sys2Proof.Machine.execResetCold src s
  | .tripClear src => Sys2Proof.Machine.execTripClear src s
  | .faultLogRead src offset => Sys2Proof.Machine.execFaultLogRead src offset s
  | .telemetryRead src cursor maxBytes => Sys2Proof.Machine.execTelemetryRead src cursor maxBytes s
  | .registerWindowRead offset => Sys2Proof.Machine.execRegisterWindowRead offset s
  | .registerWindowWrite offset value pecOk => Sys2Proof.Machine.execRegisterWindowWrite offset value pecOk s
  | .entdaa addr => Sys2Proof.Machine.execEntdaa addr s
  | .setdasa addr => Sys2Proof.Machine.execSetdasa addr s
  | .rstdaa => Sys2Proof.Machine.execRstdaa s
  | .enec => Sys2Proof.Machine.execEnec s
  | .disec => Sys2Proof.Machine.execDisec s
  | .getpid => Sys2Proof.Machine.execGetpid s
  | .getbcr => Sys2Proof.Machine.execGetbcr s
  | .getdcr => Sys2Proof.Machine.execGetdcr s
  | .getstatus => Sys2Proof.Machine.execGetstatus s
  | .setmwl len => Sys2Proof.Machine.execSetmwl len s
  | .getmwl => Sys2Proof.Machine.execGetmwl s
  | .setmrl len => Sys2Proof.Machine.execSetmrl len s
  | .getmrl => Sys2Proof.Machine.execGetmrl s
  | .alertResponseAddress => Sys2Proof.Machine.execAlertResponseAddress s
  | .clearUncertain core => Sys2Proof.Machine.execClearUncertain core s
  | .paceControlTick averageMw => Sys2Proof.Machine.execPaceControlTick averageMw s
  | .tallyCalibration source elapsedNs => Sys2Proof.Machine.execTallyCalibration source elapsedNs s
  | .sensorSample samples => Sys2Proof.Machine.execSensorSample samples s
  | .sensorRecord => Sys2Proof.Machine.execSensorRecord s
  | .counterSnapshot => Sys2Proof.Machine.execCounterSnapshot s
  | .aodWatchdogExpiry inTransaction => Sys2Proof.Machine.execAodWatchdogExpiry inTransaction s
  | .imageBegin src bank total => Sys2Proof.Machine.execImageBegin src bank total s
  | .imageData src offset bytes => Sys2Proof.Machine.execImageData src offset bytes s
  | .imageEnd src => Sys2Proof.Machine.execImageEnd src s
  | .imageActivate src bank mode recent => Sys2Proof.Machine.execImageActivate src bank mode recent s
  | .fwStatus src => Sys2Proof.Machine.execFwStatus src s
  | .fwActivate r recent fail restart => Sys2Proof.Machine.execFwActivate r recent fail restart s
  | .trialConfirm => Sys2Proof.Machine.execTrialConfirm s
  | .faultEntry => Sys2Proof.Machine.execFaultEntry s
  | .portLinkUp port => Sys2Proof.Machine.execPortLinkUp port s
  | .hepPerstNRelease => Sys2Proof.Machine.execHepPerstNRelease s
  | .hostLinkUp => Sys2Proof.Machine.execHostLinkUp s
  | .modRstNRelease => Sys2Proof.Machine.execModRstNRelease s
  | .ccEnSet fn cc => Sys2Proof.Machine.execCcEnSet fn cc s
  | .driveResetTimeout drive => Sys2Proof.Machine.execDriveResetTimeout drive s
  | .aodPowerLoss => Sys2Proof.Machine.execAodPowerLoss s
  | .flashProgramOrEraseDone => Sys2Proof.Machine.execFlashProgramOrEraseDone s
  | .illegalInstruction core => Sys2Proof.Machine.execIllegalInstruction core s
  | .jtagTckEdge rising tms tdi => Sys2Proof.Machine.execJtagTckEdge rising tms tdi s
  | .reportUnanswered suspect => Sys2Proof.Machine.execReportUnanswered suspect s
  | .rnrDelayExpiry qpn => Sys2Proof.Machine.execRnrDelayExpiry qpn s
  | .pmStateWrite fn d3 => Sys2Proof.Machine.execPmStateWrite fn d3 s

end Sys2Proof.Machine
end

