-- ==== Sys2Proof/Machine/Ddt.lean ====
section
/-! DEFINITION. The Device Descriptor Table as the host reads it in BAR0 while it is stable, and BAR0 reads (spec/11 R302, R304 to R308). -/

namespace Sys2Proof.Machine

open Sys2Proof

/-- A section: type, member index and its entries. -/
structure DdtSection where
  typ : Nat
  member : Nat
  bytes : Bytes
deriving DecidableEq, Repr

/-- The state of a function: 0 not presented, 1 enabled, 2 quiesced, 3 driver lost. -/
def State.ddtFnState (s : State) (fn : Nat) : Nat :=
  if ¬ s.presented fn then 0 else if (s.hostFn fn).frozen then 3 else if (s.con.fn fn).quiesced then 2 else 1

/-- A FUNCTION entry. -/
def State.ddtFunction (s : State) (fn : Nat) : Bytes :=
  natLe fn 1 ++ natLe (tenantOf fn) 1 ++ natLe (s.ddtFnState fn) 1 ++ zeros 1 ++ natLe (bar0Log fn) 1 ++ natLe 21 1 ++ natLe 39 1 ++
    zeros 1 ++ natLe (s.quotaBytes fn) 8 ++ natLe (16 * (s.quartersOf fn).length) 4 ++ natLe (qlimitsWord fn).toNat 4 ++ zeros 8

/-- An ACCEL_PORT entry. -/
def State.ddtPort (s : State) (n : Nat) : Bytes :=
  let p := s.port n
  natLe n 1 ++ natLe (b2n p.cohort) 1 ++ natLe p.speed 1 ++ natLe p.width 1 ++ natLe p.slot.code 1 ++
    natLe (pack [(0, b2n p.dl), (1, b2n (s.servesJob n))]) 1 ++ zeros 2 ++ natLe p.aperture 8

/-- A DRIVE entry. -/
def State.ddtDrive (s : State) (d : Nat) : Bytes :=
  let x := s.sdrive d
  natLe d 1 ++ natLe (b2n x.present) 1 ++ natLe x.speed 1 ++ natLe x.width 1 ++ natLe (b2n x.ready) 1 ++ zeros 3 ++ natLe x.capacity 8

/-- A NETWORK entry: a port has 32 / n of the 32 lanes, 200 Gb/s each. -/
def State.ddtNetwork (s : State) (p : Nat) : Bytes :=
  let lanes := 32 / s.netPorts
  natLe p 1 ++ natLe (s.netKey 1 1) 1 ++ natLe (b2n (s.netPort p).linkUp) 1 ++ natLe (p * lanes) 1 ++ natLe lanes 1 ++ zeros 3 ++
    natLe (lanes * 200000) 8

/-- The JOB entry. -/
def State.ddtJob (s : State) : Bytes :=
  natLe s.ann.state.code 1 ++ natLe s.ann.phaseCode 1 ++ zeros 2 ++ natLe s.jobRank 4 ++ natLe s.jobN 4 ++ natLe s.mem.gen 4 ++
    natLe s.ann.step 8 ++ natLe (match s.leh.held with | c :: _ => c.num | [] => 0) 8

/-- The COHORT entry of a member: a lost one stays with present 0. Its links are those of this device's ports that lead to it; this device's own entry names all of its cohort links (DESIGN CHOICE, log 38). -/
def State.ddtCohort (s : State) (m : Nat) : Bytes :=
  let own := decide (m = s.sup.straps.cohortId)
  let info := s.apt.memberInfo.getD m (0, 0)
  let links := ((seqFrom 0 8).map fun n => b2n ((s.port n).cohort && (s.port n).dl && (own || decide ((s.port n).partner = some m))) * 2 ^ n).sum
  natLe m 1 ++ natLe (b2n (own || s.apt.present.contains m)) 1 ++ natLe (if own then s.sup.straps.hostEn else info.1) 1 ++
    natLe links 1 ++ zeros 12 ++ (if own then (s.serial ++ zeros 16).take 16 else natLe info.2 16)

/-- This device's own sections for PF0. -/
def State.ddtOwn (s : State) : List DdtSection :=
  let sec := fun (t : Nat) (n : Nat) (f : Nat → Bytes) => ({ typ := t, member := 0, bytes := (seqFrom 0 n).flatMap f } : DdtSection)
  let members := (seqFrom 0 4).filter fun m => m == s.sup.straps.cohortId || (s.apt.memberInfo.find? m).isSome
  [sec 1 16 s.ddtFunction, sec 2 8 s.ddtPort, sec 3 4 s.ddtDrive, sec 4 s.netPorts s.ddtNetwork, ⟨5, 0, s.ddtJob⟩,
   ⟨6, 0, members.flatMap s.ddtCohort⟩]

/-- The sections the present members have sent, each under its member's index (R308). -/
def State.ddtMembers (s : State) : List DdtSection :=
  (s.apt.memberDdt.filter fun x => s.apt.present.contains x.1 && x.1 != s.sup.straps.cohortId).flatMap fun x =>
    x.2.map fun y => ⟨y.1, x.1, y.2⟩

/-- The lead's table of PF0 is the merged one (R308). -/
def State.ddtMerged (s : State) : Bool := decide (s.sup.straps.cohortId = 0) && s.apt.formed

/-- The sections a function sees: PF0 all, a tenant function its own FUNCTION entry (R306). -/
def State.ddtSections (s : State) (fn : Nat) : List DdtSection :=
  if fn = 0 then s.ddtOwn ++ (if s.ddtMerged then s.ddtMembers else []) else [⟨1, 0, s.ddtFunction fn⟩]

/-- The section table of sections that begin at `at_` (R305). -/
def ddtTable : Nat → List DdtSection → Bytes
  | _, [] => []
  | at_, x :: rest =>
    natLe x.typ 2 ++ natLe (256 * x.member) 2 ++ natLe at_ 4 ++ natLe x.bytes.length 4 ++ zeros 4 ++ ddtTable (at_ + x.bytes.length) rest

/-- The header of a function's table (R304). -/
def State.ddtHeader (s : State) (fn count total : Nat) : Bytes :=
  ascii "RDDT" ++ natLe 1 2 ++ natLe 64 2 ++ natLe total 4 ++ natLe (s.hep.ddtGen % 2 ^ 32) 4 ++ natLe 0x7400 4 ++ natLe s.boot.version 4 ++
    natLe s.con.fnContract.toNat 4 ++ natLe fn 1 ++ natLe (tenantOf fn) 1 ++
    natLe (pack [(0, b2n (decide (s.sup.straps.cohortId = 0))), (1, b2n s.boot.safe), (2, b2n s.boot.unowned), (3, b2n (s.ddtMerged && decide (fn = 0)))]) 2 ++
    (s.serial ++ zeros 16).take 16 ++ natLe count 2 ++ zeros 2 ++ natLe 64 4 ++ zeros 8

/-- The Device Descriptor Table of a function: header, section table and sections (R304 to R308). -/
def State.ddt (s : State) (fn : Nat) : Bytes :=
  let secs := s.ddtSections fn
  let base := 64 + 16 * secs.length
  s.ddtHeader fn secs.length (base + (secs.map (·.bytes.length)).sum) ++ ddtTable base secs ++ secs.flatMap (·.bytes)

/-- The value of 4 bytes at a BAR0 offset of a function; unlisted offsets, and a member window whose member is absent or presents its own endpoint, read 0 (R302, R309, R325). -/
def State.bar0Read (s : State) (fn : Nat) (off : Nat) : Nat :=
  if off < 0x100000 then fieldAt (s.ddt fn) off 4
  else if off < 0x101000 then s.fnRead fn (off - 0x100000)
  else if 0x200000 ≤ off ∧ off < 0x300000 then s.nvRegRead fn (off - 0x200000)
  else if fn = 0 ∧ 0x300000 ≤ off ∧ off < 0x310000 then (s.aptRead (off - 0x300000)).getD 0
  else 0

/-- How a BAR0 or BAR2 read is answered: with its value, with Unsupported Request, or by the member that the lead forwards it to. -/
inductive BarAnswer where
  | value (v : Nat)
  | unsupported
  | forwarded (member : Nat)
deriving DecidableEq, Repr

/-- A read of BAR0 or BAR2 (R302, R303, R309): 4 or 8 bytes, aligned; one of 8 is two of 4, the lower first. -/
def State.barRead (s : State) (fn bar off size : Nat) : BarAnswer :=
  let two := fun (f : Nat → Nat) => BarAnswer.value (f off + (if size = 8 then f (off + 4) * 2 ^ 32 else 0))
  if ¬ s.fnLive fn ∨ (size ≠ 4 ∧ size ≠ 8) ∨ off % size ≠ 0 then .unsupported
  else if bar ≠ 0 then two (s.bar2Read fn)
  else if fn = 0 ∧ 0x800000 ≤ off ∧ off < 0xE00000 ∧ s.windowLive (16 + (off - 0x800000) / 0x200000) then .forwarded (1 + (off - 0x800000) / 0x200000)
  else two (s.bar0Read fn)

/-- What a member answers a read of its queue window that the lead forwards; none where it has no lead (R294, R309). -/
def State.windowRead (s : State) (off : Nat) : Option Nat :=
  let fn := 15 + s.sup.straps.cohortId
  if s.bar2Live fn then some (s.bar2Read fn off) else none

end Sys2Proof.Machine
end

