-- ==== Sys2Proof/Safety.lean ====
section
/-! DEFINITION. The words the claims are stated in: the parts of the state, what a command leaves unchanged. -/

namespace Sys2Proof.Machine

open Sys2Proof

/-- The parts of the state, one for each field of State, the generation of the descriptor table apart from the rest of the endpoint. -/
inductive StatePart where
  | sup
  | pwr
  | tal
  | sb
  | tel
  | log
  | fl
  | boot
  | fab
  | con
  | hep
  | ddt
  | apt
  | cru
  | gaf
  | net
  | mrv
  | tm
  | ten
  | ann
  | leh
  | mem
  | rme
  | sto
  | out
  | freeCtr
  | pending
deriving DecidableEq, Repr

/-- A part has the same contents in both states. -/
def StatePart.Same : StatePart → State → State → Prop
  | .sup, s, t => t.sup = s.sup
  | .pwr, s, t => t.pwr = s.pwr
  | .tal, s, t => t.tal = s.tal
  | .sb, s, t => t.sb = s.sb
  | .tel, s, t => t.tel = s.tel
  | .log, s, t => t.log = s.log
  | .fl, s, t => t.fl = s.fl
  | .boot, s, t => t.boot = s.boot
  | .fab, s, t => t.fab = s.fab
  | .con, s, t => t.con = s.con
  | .hep, s, t => { t.hep with ddtGen := 0 } = { s.hep with ddtGen := 0 }
  | .ddt, s, t => t.hep.ddtGen = s.hep.ddtGen
  | .apt, s, t => t.apt = s.apt
  | .cru, s, t => t.cru = s.cru
  | .gaf, s, t => t.gaf = s.gaf
  | .net, s, t => t.net = s.net
  | .mrv, s, t => t.mrv = s.mrv
  | .tm, s, t => t.tm = s.tm
  | .ten, s, t => t.ten = s.ten
  | .ann, s, t => t.ann = s.ann
  | .leh, s, t => t.leh = s.leh
  | .mem, s, t => t.mem = s.mem
  | .rme, s, t => t.rme = s.rme
  | .sto, s, t => t.sto = s.sto
  | .out, s, t => t.out = s.out
  | .freeCtr, s, t => t.freeCtr = s.freeCtr
  | .pending, s, t => t.pending = s.pending

/-- Nothing changes but the named parts: the frame of a command. -/
def OnlyChanges (ps : List StatePart) (s t : State) : Prop := ∀ p : StatePart, p ∉ ps → p.Same s t

/-- The parts a completion touches: the queue and its record, the reads it gives up, memory where the record ring lies, and the destination of a failed MOVER command, which takes free values (R114). -/
def recordParts : List StatePart := [.apt, .con, .fab, .freeCtr, .hep, .log, .out]

/-- The parts an entry of the fault log touches: those of a completion (a waiting DIAG_READ may end), the record header and an alert. -/
def entryParts : List StatePart := [.pwr, .tel] ++ recordParts

/-! ## Commands of the queues -/

/-- `c` is the command started under `r`: on a queue of the engine, with the opcode, with no byte set that its layout leaves out, and none of its writes held (R107, R113, R115). -/
def Started (s : State) (r : CmdRef) (engine opcode : Nat) (used : List (Nat × Nat)) (c : Cmd) : Prop :=
  s.cmd? r = some c ∧ (s.queue r.fn r.q).engine = engine ∧ c.opcode = opcode ∧ s.unseenCmd r = false ∧ rsvBad c.bytes used = none

/-- The host's register windows of a function answer and the device is in P0 (R303, R500). -/
def HostAwake (s : State) (fn : Nat) : Prop :=
  fn < 16 ∧ s.fnLive fn = true ∧ s.pwr.state = .p0 ∧ s.asleep = false

/-! ## Supply -/

/-- Every main rail is off and PWRGD_OUT low, with the outputs of the I/O domain released (R29). -/
def mainOff (p : Supply) : Prop :=
  p.pwrgd = false ∧ p.ioReleased = true ∧ ∀ i, 2 ≤ i → i ≤ 11 → (p.rails.getD i {}).on = false

/-- Every main rail is on and in its window, and PWRGD_OUT high (R28). -/
def mainOn (p : Supply) : Prop :=
  p.pwrgd = true ∧ p.ioReleased = false ∧ ∀ i, 2 ≤ i → i ≤ 11 → (p.rails.getD i {}).on = true ∧ (p.rails.getD i {}).inWindow = true

/-! ## DV32 cores -/

/-- Core `c` exists, is running and not waiting (an open core: no live activation replaces its kernel), may fetch the word at its pc, and that word is the instruction `d` with its fields in range (R473 to R477). -/
def Runs (s : State) (c : Nat) (d : Dv) : Prop :=
  c < 8 ∧ (s.core c).live = true ∧ (6 ≤ c → s.handing 6 = false) ∧ s.fetchCheck c (s.core c).pc = 0 ∧ d.wf = true ∧ s.fetches c d.encode = true

/-- Core `c` has continued at `pc` with the general registers `r` gives for each number, and nothing else has changed but what an earlier ERET left in REPCNT (R473, R489). -/
def CoreDid (s t : State) (c : Nat) (pc : W32) (r : Nat → W32) : Prop :=
  (∀ n, (t.core c).reg n = r n) ∧
  t = s.modCore c fun k => { k.settleEret with g := (t.core c).g, pc := pc }

/-- The general registers of core `c` after a write of `v` to register `rd`: g0 reads 0 and keeps nothing (R473). -/
def regsAfter (s : State) (c rd : Nat) (v : W32) : Nat → W32 := fun n =>
  if n = rd ∧ rd ≠ 0 then v else (s.core c).reg n

/-- Core `c` has written `v` to register `rd` and gone on at the next instruction. -/
def CoreWrote (s t : State) (c rd : Nat) (v : W32) : Prop :=
  CoreDid s t c ((s.core c).pc + 4#32) (regsAfter s c rd v)

/-- Core `c` has entered a trap (R494): the saved address, cause and fault address; mode and ie saved, kernel mode with ie clear; at the trap vector; registers and memory as they were. -/
def CoreTrapped (s t : State) (c : Nat) (epc : W32) (cause : Nat) (eaddr : W32) : Prop :=
  t = s.modCore c fun k =>
    { k.settleEret with
      epc := epc, ecause := BitVec.ofNat 32 cause, eaddr := eaddr
      psr := ((s.core c).psr &&& 3#32) <<< 2
      pc := (s.core c).vbase, afterEret := false, waiting := false }

/-! ## Invariant -/

/-- Each memory is in its one canonical form: HBM, the configuration flash and the SRAM of every core (addresses strictly rising, no byte listed that an unlisted address reads as). -/
def MemoryCanonical (s : State) : Prop :=
  Mem.wf 0 s.fab.hbm = true ∧ Mem.wf 0xFF s.fl.mem = true ∧ ∀ c, Mem.wf 0 (s.core c).sram = true

end Sys2Proof.Machine
end

