-- ==== Sys2Proof/Certificates/Slice0/Obligations.lean ====
section
/-! DEFINITION. What the model claims: the statements for the provers, each formalising rules of the spec. -/

open Sys2Proof Sys2Proof.Machine

/-! ## DV32 instructions (spec/18) -/

/-- R479, R480, R482 to R484: the register instructions, the bit-field extract and insert and the byte permutes write the value the spec gives to rd and change nothing else; the functional operands a, b are ra and rb, d is rd before. -/
def Obligations.RegisterInstructions : Prop :=
  ∀ (s : State) (c rd ra rb lsb width sel : Nat),
    let a := (s.core c).reg ra
    let b := (s.core c).reg rb
    let d := (s.core c).reg rd
    let n := b.toNat % 32
    (Runs s c (.reg .add rd ra rb) → ∃ t, exec (.add c rd ra rb) s = .next t ∧ CoreWrote s t c rd (a + b)) ∧
    (Runs s c (.reg .sub rd ra rb) → ∃ t, exec (.sub c rd ra rb) s = .next t ∧ CoreWrote s t c rd (a - b)) ∧
    (Runs s c (.reg .and rd ra rb) → ∃ t, exec (.and c rd ra rb) s = .next t ∧ CoreWrote s t c rd (a &&& b)) ∧
    (Runs s c (.reg .or rd ra rb) → ∃ t, exec (.or c rd ra rb) s = .next t ∧ CoreWrote s t c rd (a ||| b)) ∧
    (Runs s c (.reg .xor rd ra rb) → ∃ t, exec (.xor c rd ra rb) s = .next t ∧ CoreWrote s t c rd (a ^^^ b)) ∧
    (Runs s c (.reg .sll rd ra rb) → ∃ t, exec (.sll c rd ra rb) s = .next t ∧ CoreWrote s t c rd (BitVec.ofNat 32 (a.toNat * 2 ^ n))) ∧
    (Runs s c (.reg .srl rd ra rb) → ∃ t, exec (.srl c rd ra rb) s = .next t ∧ CoreWrote s t c rd (BitVec.ofNat 32 (a.toNat / 2 ^ n))) ∧
    (Runs s c (.reg .sra rd ra rb) → ∃ t, exec (.sra c rd ra rb) s = .next t ∧ CoreWrote s t c rd (BitVec.ofInt 32 (a.toInt / 2 ^ n))) ∧
    (Runs s c (.reg .slt rd ra rb) → ∃ t, exec (.slt c rd ra rb) s = .next t ∧ CoreWrote s t c rd (if a.toInt < b.toInt then 1#32 else 0#32)) ∧
    (Runs s c (.reg .sltu rd ra rb) → ∃ t, exec (.sltu c rd ra rb) s = .next t ∧ CoreWrote s t c rd (if a.toNat < b.toNat then 1#32 else 0#32)) ∧
    (Runs s c (.reg .clz rd ra 0) → ∃ t, exec (.clz c rd ra) s = .next t ∧ ∃ z ≤ 32,
      CoreWrote s t c rd (BitVec.ofNat 32 z) ∧ a.toNat < 2 ^ (32 - z) ∧ (z < 32 → 2 ^ (31 - z) ≤ a.toNat)) ∧
    (Runs s c (.reg .permr rd ra rb) → ∃ t, exec (.permr c rd ra rb) s = .next t ∧ ∃ v, CoreWrote s t c rd v ∧
      ∀ i < 4, let k := b.toNat / 2 ^ (3 * i) % 8
        v.toNat / 2 ^ (8 * i) % 256 = if k < 4 then a.toNat / 2 ^ (8 * k) % 256 else d.toNat / 2 ^ (8 * (k - 4)) % 256) ∧
    (Runs s c (.bfx rd ra lsb width false) → ∃ t, exec (.bfx c rd ra lsb width false) s = .next t ∧
      CoreWrote s t c rd (BitVec.ofNat 32 (a.toNat / 2 ^ lsb % 2 ^ width))) ∧
    (Runs s c (.bfx rd ra lsb width true) → ∃ t, exec (.bfx c rd ra lsb width true) s = .next t ∧ ∃ v, CoreWrote s t c rd v ∧
      ∀ i < 32, v.getLsbD i = a.getLsbD (lsb + if i < width then i else width - 1)) ∧
    (Runs s c (.bfi rd ra lsb width) → ∃ t, exec (.bfi c rd ra lsb width) s = .next t ∧ ∃ v, CoreWrote s t c rd v ∧
      ∀ i < 32, v.getLsbD i = if lsb ≤ i ∧ i < lsb + width then a.getLsbD (i - lsb) else d.getLsbD i) ∧
    (Runs s c (.perm rd ra sel) → ∃ t, exec (.perm c rd ra sel) s = .next t ∧ ∃ v, CoreWrote s t c rd v ∧
      ∀ i < 4, let k := sel / 2 ^ (3 * i) % 8
        v.toNat / 2 ^ (8 * i) % 256 = if k < 4 then a.toNat / 2 ^ (8 * k) % 256 else d.toNat / 2 ^ (8 * (k - 4)) % 256)

/-- R479, R480: products, quotients and remainders; a zero divisor gives all ones and the dividend, the quotient of the most negative number by −1 wraps to itself, remainder 0. -/
def Obligations.MultiplyDivide : Prop :=
  ∀ (s : State) (c rd ra rb : Nat),
    let a := (s.core c).reg ra
    let b := (s.core c).reg rb
    (Runs s c (.reg .mul rd ra rb) → ∃ t, exec (.mul c rd ra rb) s = .next t ∧ CoreWrote s t c rd (BitVec.ofNat 32 (a.toNat * b.toNat))) ∧
    (Runs s c (.reg .mulhs rd ra rb) → ∃ t, exec (.mulhs c rd ra rb) s = .next t ∧ CoreWrote s t c rd (BitVec.ofInt 32 (a.toInt * b.toInt / 4294967296))) ∧
    (Runs s c (.reg .mulhu rd ra rb) → ∃ t, exec (.mulhu c rd ra rb) s = .next t ∧ CoreWrote s t c rd (BitVec.ofNat 32 (a.toNat * b.toNat / 4294967296))) ∧
    (Runs s c (.reg .div rd ra rb) → ∃ t, exec (.div c rd ra rb) s = .next t ∧
      CoreWrote s t c rd (if b = 0#32 then 0xFFFFFFFF#32 else if a = 0x80000000#32 ∧ b = 0xFFFFFFFF#32 then 0x80000000#32 else BitVec.ofInt 32 (a.toInt.tdiv b.toInt))) ∧
    (Runs s c (.reg .divu rd ra rb) → ∃ t, exec (.divu c rd ra rb) s = .next t ∧
      CoreWrote s t c rd (if b = 0#32 then 0xFFFFFFFF#32 else BitVec.ofNat 32 (a.toNat / b.toNat))) ∧
    (Runs s c (.reg .rem rd ra rb) → ∃ t, exec (.rem c rd ra rb) s = .next t ∧
      CoreWrote s t c rd (if b = 0#32 then a else if a = 0x80000000#32 ∧ b = 0xFFFFFFFF#32 then 0#32 else BitVec.ofInt 32 (a.toInt.tmod b.toInt))) ∧
    (Runs s c (.reg .remu rd ra rb) → ∃ t, exec (.remu c rd ra rb) s = .next t ∧
      CoreWrote s t c rd (if b = 0#32 then a else BitVec.ofNat 32 (a.toNat % b.toNat)))

/-- R478: ADDI, SLTI and SLTIU sign-extend imm16, ANDI, ORI and XORI zero-extend it, LUI shifts it left by 16; a branch or jump offset counts instructions from the next one, JAL links in g31, JALR in rd, and a JALR to a misaligned address traps. -/
def Obligations.ImmediateAndControl : Prop :=
  (∀ (s : State) (c rd ra i : Nat),
      let a := (s.core c).reg ra
      let z := BitVec.ofNat 32 i
      let x := (BitVec.ofNat 16 i).signExtend 32
      (Runs s c (.imm .addi rd ra i) → ∃ t, exec (.addi c rd ra i) s = .next t ∧ CoreWrote s t c rd (a + x)) ∧
      (Runs s c (.imm .andi rd ra i) → ∃ t, exec (.andi c rd ra i) s = .next t ∧ CoreWrote s t c rd (a &&& z)) ∧
      (Runs s c (.imm .ori rd ra i) → ∃ t, exec (.ori c rd ra i) s = .next t ∧ CoreWrote s t c rd (a ||| z)) ∧
      (Runs s c (.imm .xori rd ra i) → ∃ t, exec (.xori c rd ra i) s = .next t ∧ CoreWrote s t c rd (a ^^^ z)) ∧
      (Runs s c (.imm .slti rd ra i) → ∃ t, exec (.slti c rd ra i) s = .next t ∧ CoreWrote s t c rd (if a.toInt < x.toInt then 1#32 else 0#32)) ∧
      (Runs s c (.imm .sltiu rd ra i) → ∃ t, exec (.sltiu c rd ra i) s = .next t ∧ CoreWrote s t c rd (if a.toNat < x.toNat then 1#32 else 0#32)) ∧
      (Runs s c (.imm .slli rd ra i) → ∃ t, exec (.slli c rd ra i) s = .next t ∧ CoreWrote s t c rd (BitVec.ofNat 32 (a.toNat * 2 ^ i))) ∧
      (Runs s c (.imm .srli rd ra i) → ∃ t, exec (.srli c rd ra i) s = .next t ∧ CoreWrote s t c rd (BitVec.ofNat 32 (a.toNat / 2 ^ i))) ∧
      (Runs s c (.imm .srai rd ra i) → ∃ t, exec (.srai c rd ra i) s = .next t ∧ CoreWrote s t c rd (BitVec.ofInt 32 (a.toInt / 2 ^ i))) ∧
      (Runs s c (.imm .lui rd 0 i) → ∃ t, exec (.lui c rd i) s = .next t ∧ CoreWrote s t c rd (BitVec.ofNat 32 (i * 65536)))) ∧
  (∀ (s : State) (c rd ra rb i : Nat),
      let k := s.core c
      let a := k.reg ra
      let b := k.reg rb
      let on := k.pc + 4#32
      let tgt := on + (BitVec.ofNat 16 i).signExtend 32 * 4#32
      let far := on + (BitVec.ofNat 26 i).signExtend 32 * 4#32
      (Runs s c (.br .beq ra rb i) → ∃ t, exec (.beq c ra rb i) s = .next t ∧ CoreDid s t c (if a = b then tgt else on) k.reg) ∧
      (Runs s c (.br .bne ra rb i) → ∃ t, exec (.bne c ra rb i) s = .next t ∧ CoreDid s t c (if a = b then on else tgt) k.reg) ∧
      (Runs s c (.br .blt ra rb i) → ∃ t, exec (.blt c ra rb i) s = .next t ∧ CoreDid s t c (if a.toInt < b.toInt then tgt else on) k.reg) ∧
      (Runs s c (.br .bge ra rb i) → ∃ t, exec (.bge c ra rb i) s = .next t ∧ CoreDid s t c (if a.toInt < b.toInt then on else tgt) k.reg) ∧
      (Runs s c (.br .bltu ra rb i) → ∃ t, exec (.bltu c ra rb i) s = .next t ∧ CoreDid s t c (if a.toNat < b.toNat then tgt else on) k.reg) ∧
      (Runs s c (.br .bgeu ra rb i) → ∃ t, exec (.bgeu c ra rb i) s = .next t ∧ CoreDid s t c (if a.toNat < b.toNat then on else tgt) k.reg) ∧
      (Runs s c (.j i) → ∃ t, exec (.j c i) s = .next t ∧ CoreDid s t c far k.reg) ∧
      (Runs s c (.jal i) → ∃ t, exec (.jal c i) s = .next t ∧ CoreDid s t c far (regsAfter s c 31 on)) ∧
      (Runs s c (.jalr rd ra i) → (a + (BitVec.ofNat 16 i).signExtend 32).toNat % 4 = 0 →
        ∃ t, exec (.jalr c rd ra i) s = .next t ∧ CoreDid s t c (a + (BitVec.ofNat 16 i).signExtend 32) (regsAfter s c rd on)) ∧
      (Runs s c (.jalr rd ra i) → (a + (BitVec.ofNat 16 i).signExtend 32).toNat % 4 ≠ 0 →
        ∃ t, exec (.jalr c rd ra i) s = .next t ∧ CoreTrapped s t c k.pc 4 (a + (BitVec.ofNat 16 i).signExtend 32)))

/-- R475, R478, R492, R494: a load from local SRAM reads its little-endian bytes, extends them as its mnemonic says and leaves memory alone, and LDP fills rd and the next register; a store writes the low bytes of its register at the computed address and every other byte of SRAM stays; an access that is misaligned, outside every map or refused by the MPU traps with its cause and the faulting address, with no other effect. -/
def Obligations.SramAccess : Prop :=
  (∀ (s : State) (c rd base imm : Nat),
      let a := ((s.core c).reg base + (BitVec.ofNat 16 imm).signExtend 32).toNat
      let byte := fun i => (Mem.readByte 0 (s.core c).sram (a + i)).toNat
      let half := byte 0 + 256 * byte 1
      let word := half + 65536 * byte 2 + 16777216 * byte 3
      let ok := fun (f : Ld) => Runs s c (.load f rd base imm) ∧ a < 0x40000 ∧ s.dataCheck c false a f.size = 0
      (ok .lb → ∃ t, exec (.lb c rd base imm) s = .next t ∧ CoreWrote s t c rd ((BitVec.ofNat 8 (byte 0)).signExtend 32)) ∧
      (ok .lbu → ∃ t, exec (.lbu c rd base imm) s = .next t ∧ CoreWrote s t c rd (BitVec.ofNat 32 (byte 0))) ∧
      (ok .lh → ∃ t, exec (.lh c rd base imm) s = .next t ∧ CoreWrote s t c rd ((BitVec.ofNat 16 half).signExtend 32)) ∧
      (ok .lhu → ∃ t, exec (.lhu c rd base imm) s = .next t ∧ CoreWrote s t c rd (BitVec.ofNat 32 half)) ∧
      (ok .lw → ∃ t, exec (.lw c rd base imm) s = .next t ∧ CoreWrote s t c rd (BitVec.ofNat 32 word)) ∧
      (ok .ldp → ∃ t, exec (.ldp c rd base imm) s = .next t ∧
        CoreDid s t c ((s.core c).pc + 4#32) fun n =>
          if n = rd + 1 then BitVec.ofNat 32 (byte 4 + 256 * byte 5 + 65536 * byte 6 + 16777216 * byte 7)
          else if n = rd ∧ rd ≠ 0 then BitVec.ofNat 32 word else (s.core c).reg n)) ∧
  (∀ (s : State) (c rs base imm : Nat),
      let k := s.core c
      let a := (k.reg base + (BitVec.ofNat 16 imm).signExtend 32).toNat
      let v := fun (i : Nat) => if i < 4 then (k.reg rs).toNat / 2 ^ (8 * i) % 256 else (k.reg (rs + 1)).toNat / 2 ^ (8 * (i - 4)) % 256
      let ok := fun (f : St) => Runs s c (.store f rs base imm) ∧ a < 0x40000 ∧ s.dataCheck c true a f.size = 0
      let wrote := fun (t : State) (n : Nat) =>
        (∀ x, Mem.readByte 0 (t.core c).sram x = if a ≤ x ∧ x < a + n then BitVec.ofNat 8 (v (x - a)) else Mem.readByte 0 k.sram x) ∧
        t = s.modCore c fun k => { k.settleEret with sram := (t.core c).sram, pc := k.pc + 4#32 }
      (ok .sb → ∃ t, exec (.sb c rs base imm) s = .next t ∧ wrote t 1) ∧
      (ok .sh → ∃ t, exec (.sh c rs base imm) s = .next t ∧ wrote t 2) ∧
      (ok .sw → ∃ t, exec (.sw c rs base imm) s = .next t ∧ wrote t 4) ∧
      (ok .stp → ∃ t, exec (.stp c rs base imm) s = .next t ∧ wrote t 8)) ∧
  (∀ (s : State) (c r base imm : Nat),
      let k := s.core c
      let a := k.reg base + (BitVec.ofNat 16 imm).signExtend 32
      (∀ f e, Runs s c (.load f r base imm) → s.dataCheck c false a.toNat f.size = e → e ≠ 0 →
        CoreTrapped (s.windowFault c e (some a)) (s.dvExec c (.load f r base imm)) c k.pc e a) ∧
      (∀ f e, Runs s c (.store f r base imm) → s.dataCheck c true a.toNat f.size = e → e ≠ 0 →
        CoreTrapped (s.windowFault c e (some a)) (s.dvExec c (.store f r base imm)) c k.pc e a) ∧
      (Runs s c (.load .lw r base imm) → a.toNat % 4 ≠ 0 → ∃ t, exec (.lw c r base imm) s = .next t ∧ CoreTrapped s t c k.pc 3 a) ∧
      (Runs s c (.store .stp r base imm) → a.toNat % 8 ≠ 0 → ∃ t, exec (.stp c r base imm) s = .next t ∧ CoreTrapped s t c k.pc 3 a) ∧
      (Runs s c (.load .lb r base imm) → 0x40000 ≤ a.toNat → a.toNat < 0x40000000 → (k.user = true → c < 6) →
        ∃ t, exec (.lb c r base imm) s = .next t ∧ CoreTrapped s t c k.pc 7 a))

/-- R486, R488: REP and REPI run the next instruction the given number of times and go on behind it; here the next instruction adds an immediate to its own register and no ERET came before. With interrupts enabled and one pending, a REPI stops after the iterations granted, saves the rest in REPCNT with its valid bit, and takes the interrupt at the prefix's own address. -/
def Obligations.RepeatPrefixes : Prop :=
  ∀ (s : State) (c rd i n g : Nat),
    let k := s.core c
    let x := (BitVec.ofNat 16 i).signExtend 32
    let v := k.reg rd + BitVec.ofNat 32 n * x
    k.afterEret = false → rd ≠ 0 →
    s.fetchCheck c (k.pc + 4#32) = 0 → Dv.decode (k.word (k.pc + 4#32)) = some (.imm .addi rd rd i) →
    (k.pendingCause = none → Runs s c (.rep false false false 0 n) →
      ∃ t, exec (.rep c false false 0 n) s = .next t ∧ CoreDid s t c (k.pc + 8#32) (regsAfter s c rd v)) ∧
    (k.pendingCause = none → Runs s c (.rep true false false 0 n) →
      ∃ t, exec (.repi c false false 0 n g) s = .next t ∧ CoreDid s t c (k.pc + 8#32) (regsAfter s c rd v)) ∧
    (k.alarmPend = true → k.ie = true → g < n → Runs s c (.rep true false false 0 n) →
      ∃ t, exec (.repi c false false 0 n g) s = .next t ∧
        (t.core c).reg rd = k.reg rd + BitVec.ofNat 32 g * x ∧
        (t.core c).repcnt = BitVec.ofNat 32 (n - g + 65536) ∧ (t.core c).epc = k.pc ∧ (t.core c).ecause = 0x10#32 ∧
        (t.core c).pc = k.vbase ∧ (t.core c).alarmPend = false ∧ (t.core c).user = false ∧ (t.core c).ie = false ∧
        (∀ m, m ≠ rd → (t.core c).reg m = k.reg m))

/-- R477, R485, R490, R494, R495: TRAP, ERET, MFS, MTS, FENCE and WAITI, a privileged one in user mode taking trap 0x02; an illegal word traps with cause 0x01; an alarm or a supervisor signal is taken at once while ie is set and stays pending otherwise. -/
def Obligations.SystemAndInterrupts : Prop :=
  (∀ (s : State) (c r i : Nat),
      let k := s.core c
      (Runs s c (.trap i) → ∃ t, exec (.trap c i) s = .next t ∧ CoreTrapped s t c k.pc 9 (BitVec.ofNat 32 i)) ∧
      (Runs s c .eret → k.user = false → ∃ t, exec (.eret c) s = .next t ∧
        t = s.modCore c fun k => { k.settleEret with psr := (k.psr &&& 0xC#32) ||| ((k.psr >>> 2) &&& 3#32), pc := k.epc &&& 0xFFFFFFFC#32, afterEret := true }) ∧
      (Runs s c (.mfs r i) → k.user = false → (i < 8 ∨ 6 ≤ c) → i ≠ 4 →
        ∃ t, exec (.mfs c r i) s = .next t ∧ CoreWrote s t c r (k.sreg c i)) ∧
      (Runs s c (.mts r i) → k.user = false → (i < 8 ∨ 6 ≤ c) → ∃ t, exec (.mts c r i) s = .next t ∧
        t = s.modCore c fun k => { (k.settleEret.setSreg c i (k.reg r)) with pc := k.pc + 4#32 }) ∧
      (Runs s c .fence → ∃ t, exec (.fence c) s = .next t ∧ CoreDid s t c (k.pc + 4#32) k.reg) ∧
      (Runs s c .waiti → k.user = false → k.pendingCause = none → ∃ t, exec (.waiti c) s = .next t ∧
        t = s.modCore c fun k => { k.settleEret with waiting := true }) ∧
      (Runs s c .eret → k.user = true → ∃ t, exec (.eret c) s = .next t ∧ CoreTrapped s t c k.pc 2 k.pc) ∧
      (Runs s c .waiti → k.user = true → ∃ t, exec (.waiti c) s = .next t ∧ CoreTrapped s t c k.pc 2 k.pc) ∧
      (Runs s c (.mts r i) → k.user = true → (i < 8 ∨ 6 ≤ c) → ∃ t, exec (.mts c r i) s = .next t ∧ CoreTrapped s t c k.pc 2 k.pc) ∧
      (Runs s c (.mfs r i) → 8 ≤ i → c < 6 → ∃ t, exec (.mfs c r i) s = .next t ∧ CoreTrapped s t c k.pc 1 k.pc)) ∧
  (∀ (s : State) (c : Nat),
      let k := s.core c
      c < 8 → k.live = true → s.handing 6 = false →
      (s.fetchCheck c k.pc = 0 → dvRegion c k.pc.toNat ≠ 2 → Dv.decode (k.word k.pc) = none →
        ∃ t, exec (.illegalInstruction c) s = .next t ∧ CoreTrapped s t c k.pc 1 k.pc) ∧
      (k.ie = true → ∃ t, exec (.supervisorSignal c) s = .next t ∧
        t = s.modCore c fun k => { k.enterTrap k.pc 0x11 k.eaddr with signalPend := false }) ∧
      (k.ie = false → ∃ t, exec (.supervisorSignal c) s = .next t ∧ t = s.modCore c fun k => { k with signalPend := true }) ∧
      (k.ie = true → (c < 6 ∨ k.alarm.isSome) → ∃ t, exec (.alarmInterrupt c) s = .next t ∧
        (t.core c).epc = k.pc ∧ (t.core c).ecause = 0x10#32 ∧ (t.core c).pc = k.vbase ∧ (t.core c).ie = false ∧
        (t.core c).user = false ∧ (t.core c).alarm = none ∧ (t.core c).g = k.g ∧ OnlyChanges [.gaf] s t) ∧
      (k.ie = false → (c < 6 ∨ k.alarm.isSome) → ∃ t, exec (.alarmInterrupt c) s = .next t ∧
        t = s.modCore c fun k => { k with alarm := none, alarmPend := true }))

/-- R457 to R464: a push to a FIFO that is not full appends the entry with its valid tag, at a full one a core's push is dropped, counted and flagged and a helper's waits; a pop returns and removes the head; GAF_MB_CTRL takes effect only on an empty FIFO; a watchdog kick changes nothing the model holds. -/
def Obligations.MailboxFifos : Prop :=
  ∀ (s : State) (c f e : Nat) (v : W32),
    let x := s.fifo f
    f < 512 → c < 8 → reachesFifo c f = true →
    (∀ w : Option Nat, (w = none ∨ w = some c) → x.entries.length < 32 → ∃ t, exec (.gafMbPush w f e) s = .next t ∧
      (t.fifo f).entries = x.entries ++ [e % 9223372036854775808 + 9223372036854775808] ∧ OnlyChanges [.gaf] s t ∧
      (∀ g, g ≠ f → t.fifo g = s.fifo g) ∧ t.gaf.cores = s.gaf.cores) ∧
    (32 ≤ x.entries.length → ∃ t, exec (.gafMbPush (some c) f e) s = .next t ∧
      (t.fifo f).entries = x.entries ∧ (t.fifo f).overrun = true ∧ t.gaf.overruns = satInc s.gaf.overruns ∧
      bitOf t.gaf.events 10 = true ∧ OnlyChanges [.gaf] s t) ∧
    (32 ≤ x.entries.length → exec (.gafMbPush none f e) s = .next s) ∧
    (∀ (w : Option Nat) (h : Nat) (r : List Nat), (w = none ∨ w = some c) → x.entries = h :: r →
      ∃ t, exec (.gafMbPop w f) s = .next t ∧ t.out = s.out ++ [.popped f h] ∧ (t.fifo f).entries = r ∧ (t.fifo f).last = h ∧
        OnlyChanges [.gaf, .out] s t ∧ (∀ g, g ≠ f → t.fifo g = s.fifo g)) ∧
    (∀ w : Option Nat, (w = none ∨ w = some c) → x.entries = [] → x.flagMode = true →
      ∃ t, exec (.gafMbPop w f) s = .next t ∧ t.out = s.out ++ [.popped f x.last] ∧ (t.fifo f).underrun = true) ∧
    (mayCtrl c f = true → x.entries = [] → field v 2 6 ≤ 32 → ∃ t, exec (.gafMbCtrlWrite c f v) s = .next t ∧
      (t.fifo f).flagMode = v.getLsbD 0 ∧ (t.fifo f).packet = v.getLsbD 1 ∧ (t.fifo f).threshold = field v 2 6 ∧ OnlyChanges [.gaf, .log] s t) ∧
    (mayCtrl c f = true → x.entries ≠ [] → ∃ t, exec (.gafMbCtrlWrite c f v) s = .next t ∧
      t.fifo f = { x with ctrlIgnored := true } ∧ OnlyChanges [.gaf, .log] s t) ∧
    exec (.gafWdtKick c) s = .next s

/-- R477 to R486: decoding the word of an instruction whose operands lie in their fields gives that instruction, and a word that decodes is the word of what it decodes to, so no two words mean one instruction and no bit is dropped. -/
def Obligations.Dv32EncodingRoundTrip : Prop :=
  (∀ d : Dv, d.wf = true → Dv.decode d.encode = some d) ∧ (∀ (w : W32) (d : Dv), Dv.decode w = some d → d.encode = w ∧ d.wf = true)

/-- R477 to R486: words written out from the spec's encodings, one for each format. -/
def Obligations.Dv32Words : Prop :=
  Dv.decode 0b000000_00011_00100_00101_00000000001#32 = some (.reg .sub 3 4 5) ∧
  Dv.decode 0b000001_00011_00100_1111111111111111#32 = some (.imm .addi 3 4 0xFFFF) ∧
  Dv.decode 0b010000_00111_00001_0000000000001000#32 = some (.load .lw 7 1 8) ∧
  Dv.decode 0b010100_00111_00001_0000000000001000#32 = some (.store .sw 7 1 8) ∧
  Dv.decode 0b011000_00001_00010_0000000000000011#32 = some (.br .beq 1 2 3) ∧
  Dv.decode 0b100001_00000000000000000000000101#32 = some (.jal 5) ∧
  Dv.decode 0b101000_00011_00100_00101_00111_1_00000#32 = some (.bfx 3 4 5 8 true) ∧
  Dv.decode 0b111111_00000_00000_0000000000_000010#32 = some .eret ∧
  Dv.decode 0b111111_00000_00000_0000000000_000111#32 = none

/-! ## Supply, limits, rails and resets (spec/01) -/

/-- R16, R22, R23: what asserts the non-volatile write inhibit, what each cause latches and counts, and what it takes down; a dip too short to count asserts nothing. -/
def Obligations.InhibitCauses : Prop :=
  ∀ (s : State) (v rail mv : Nat), s.sup.aodUp = true →
    let sag := if s.sup.inhibit then s.sup.sagCount else satInc s.sup.sagCount
    (v < 36000 → ∃ t, exec (.inputSag v) s = .next t ∧ t.sup.inhibit = true ∧ t.sup.vinMv = v ∧ bitOf t.sup.events 0 = true ∧
      t.sup.sagCount = sag ∧ bitOf t.pwr.alertLatch 3 = true ∧ t.sup.rails = s.sup.rails ∧ OnlyChanges ([.sup, .fl] ++ entryParts) s t) ∧
    ((s.sup.rails.getD rail {}).on = true → ∃ t, exec (.railOutOfWindow rail mv) s = .next t ∧ t.sup.inhibit = true ∧ bitOf t.sup.events 1 = true ∧
      t.sup.sagCount = sag ∧ (t.sup.rails.getD rail {}).inWindow = false ∧ (t.sup.rails.getD rail {}).mv = mv ∧
      OnlyChanges ([.sup, .fl] ++ entryParts) s t) ∧
    (v ≤ 34000 → ∃ t, exec (.undervoltageLockout v) s = .next t ∧ t.sup.inhibit = true ∧ t.sup.lockout = true ∧ bitOf t.sup.events 2 = true ∧
      t.sup.sagCount = sag ∧ mainOff t.sup ∧ t.con = {} ∧ t.fab.hbm = [] ∧ t.sb = s.sb) ∧
    (56000 < v → ∃ t, exec (.overvoltageCutOff v) s = .next t ∧ t.sup.inhibit = true ∧ t.sup.cutoff = true ∧ bitOf t.sup.events 3 = true ∧
      mainOff t.sup ∧ t.sb = s.sb) ∧
    (∃ t, exec .modEnFall s = .next t ∧ t.sup.inhibit = true ∧ t.sup.modEn = false ∧ t.sup.sagCount = sag ∧ mainOff t.sup ∧ t.con = {} ∧
      t.log.count = s.log.count ∧ t.sb = s.sb ∧ t.out = s.out) ∧
    (v < 36000 → ∃ t, exec (.inputGlitch v) s = .next t ∧ t.sup.inhibit = s.sup.inhibit ∧ t.sup.glitchCount = satInc s.sup.glitchCount ∧
      bitOf t.sup.events 6 = true ∧ OnlyChanges (.sup :: entryParts) s t)

/-- R16, R23, R28, R61: the end of a lockout or a cut-off and MOD_EN rising bring the main rails up by a cold reset where nothing else holds them off; the inhibit lifts at 38.0 V with every powered rail in its window and MOD_EN high. -/
def Obligations.SupplyRecovery : Prop :=
  ∀ (s : State) (v : Nat), s.sup.aodUp = true → s.sup.tripLatched = false →
    let fresh := fun (t : State) => mainOn t.sup ∧ t.sup.limitCtrl = 0xA3847369#32 ∧ t.boot.pendingStart = !s.sup.modRstLow ∧ t.con = {} ∧ t.fab.hbm = [] ∧ t.sb = s.sb
    (s.sup.lockout = true → s.sup.cutoff = false → s.sup.modEn = true → 37000 ≤ v →
      ∃ t, exec (.lockoutEnd v) s = .next t ∧ t.sup.lockout = false ∧ fresh t) ∧
    (s.sup.lockout = true → s.sup.modEn = false → 37000 ≤ v →
      exec (.lockoutEnd v) s = .next { s with sup := { (s.sup.measureVin v 0) with lockout := false } }) ∧
    (s.sup.cutoff = true → s.sup.modEn = false → v ≤ 54000 →
      exec (.cutOffEnd v) s = .next { s with sup := { (s.sup.measureVin v 0) with cutoff := false } }) ∧
    (s.sup.cutoff = true → s.sup.lockout = false → s.sup.modEn = true → v ≤ 54000 →
      ∃ t, exec (.cutOffEnd v) s = .next t ∧ t.sup.cutoff = false ∧ fresh t) ∧
    (s.sup.modEn = false → s.sup.lockout = false → s.sup.cutoff = false →
      ∃ t, exec .modEnRise s = .next t ∧ t.sup.modEn = true ∧ fresh t) ∧
    (s.sup.inhibit = true → 38000 ≤ v → s.sup.modEn = true → (∀ i r, (i, r) ∈ s.sup.rails → r.on = true → r.inWindow = true) →
      ∃ t, exec (.inhibitLift v) s = .next t ∧ t.sup.inhibit = false ∧ t.sup.vinOk = true ∧ t.sup.vinMv = v)

/-- R19, R21: the throttle threshold starts lowering the core rails by 10 mV, to no less than 550 mV, and each 100 µs step goes on until the hottest sensor is 2 °C below; a trip or a core rail above 0.92 V takes the main rails down; the input current limit is latched. -/
def Obligations.ThermalProtection : Prop :=
  ∀ (s : State) (x tempC rail mv ma : Nat),
    let core := fun (t : State) (f : Rail → Nat) => ∀ i r, (i, r) ∈ s.sup.rails → isCoreRail i = true → r.on = true → (i, { r with mv := f r }) ∈ t.sup.rails
    (s.sup.pwrgd = true → field s.sup.limitCtrl 0 8 ≤ tempC → ∃ t, exec (.junctionThrottle tempC) s = .next t ∧
      t.sup.throttling = true ∧ t.sup.lowering = true ∧ t.sup.hottestC = tempC ∧ bitOf t.sup.events 5 = true ∧ core t (fun r => max 550 (r.mv - 10)) ∧
      OnlyChanges (.sup :: entryParts) s t) ∧
    (s.sup.throttling = true → s.sup.lowering = true → field s.sup.limitCtrl 0 8 < tempC + 2 → ∃ t, exec (.throttleStep tempC) s = .next t ∧
      t.sup.lowering = true ∧ t.sup.throttling = true ∧ core t (fun r => max 550 (r.mv - 10)) ∧ OnlyChanges (.sup :: entryParts) s t) ∧
    (s.sup.throttling = true → s.sup.lowering = true → tempC + 2 ≤ field s.sup.limitCtrl 0 8 → ∃ t, exec (.throttleStep tempC) s = .next t ∧
      t.sup.lowering = false ∧ core t (fun r => min r.cmdMv (r.mv + 10)) ∧ OnlyChanges (.sup :: entryParts) s t) ∧
    (s.sup.aodUp = true → field s.sup.limitCtrl 8 8 ≤ tempC → ∃ t, exec (.thermalTrip x tempC) s = .next t ∧
      t.sup.thermTripLow = true ∧ t.sup.tripLatched = true ∧ t.sup.inhibit = true ∧ mainOff t.sup ∧ bitOf t.pwr.alertLatch 2 = true) ∧
    (s.sup.aodUp = true → isCoreRail rail = true → (s.sup.rails.getD rail {}).on = true → 920 < mv → ∃ t, exec (.coreRailOvervoltage rail mv) s = .next t ∧
      t.sup.tripLatched = true ∧ t.sup.thermTripLow = s.sup.thermTripLow ∧ mainOff t.sup ∧ bitOf t.sup.events 7 = true ∧ bitOf t.pwr.alertLatch 2 = true) ∧
    (s.sup.aodUp = true → field s.sup.limitCtrl 26 6 * 1000 ≤ ma → ∃ t, exec (.inputCurrentLimit ma) s = .next t ∧
      t.sup.ilim = true ∧ t.sup.iinMa = ma ∧ bitOf t.sup.events 4 = true ∧ t.sup.rails = s.sup.rails ∧ OnlyChanges (.sup :: entryParts) s t)

/-- R20: a write of AOD_LIMIT_CTRL raises no limit whatever is written, and a value that is in range, lowers every field and keeps trip_c at least 5 °C above throttle_c is taken as it is, without an entry. -/
def Obligations.LimitsOnlyFall : Prop :=
  ∀ (s : State) (v : W32), s.sup.aodUp = true →
    let old := s.sup.limitCtrl
    (∃ t, exec (.aodLimitCtrlWrite v) s = .next t ∧
      field t.sup.limitCtrl 0 8 ≤ field old 0 8 ∧ field t.sup.limitCtrl 8 8 ≤ field old 8 8 ∧
      field t.sup.limitCtrl 16 10 ≤ field old 16 10 ∧ field t.sup.limitCtrl 26 6 ≤ field old 26 6 ∧ OnlyChanges (.sup :: entryParts) s t) ∧
    (60 ≤ field v 0 8 → field v 0 8 ≤ 105 → field v 0 8 ≤ field old 0 8 → 70 ≤ field v 8 8 → field v 8 8 ≤ 115 → field v 8 8 ≤ field old 8 8 →
      720 ≤ field v 16 10 → field v 16 10 ≤ 900 → field v 16 10 ≤ field old 16 10 → 20 ≤ field v 26 6 → field v 26 6 ≤ 40 → field v 26 6 ≤ field old 26 6 →
      field v 0 8 + 5 ≤ field v 8 8 →
      ∃ t, exec (.aodLimitCtrlWrite v) s = .next t ∧ t.sup.limitCtrl = v ∧ t.sup.faultCount = s.sup.faultCount ∧ OnlyChanges [.sup] s t)

/-- R24, R28, R37, R61, R62: AOD power-on samples the straps and starts from reset with flash and fuses kept; MOD_RST_N low is a warm reset that clears HBM and keeps the rails; its release starts the sequence; the end of the orderly phase is the reset it prepared; a finished flash operation takes effect. -/
def Obligations.PowerOnAndResets : Prop :=
  ∀ (s : State) (v a b c d : Nat),
    (s.sup.aodUp = false → 38000 ≤ v → a < 4 → b < 2 → c < 4 → d < 2 → ∃ t, exec (.aodPowerOn v a b c d) s = .next t ∧
      t.sup.aodUp = true ∧ t.sup.straps = { cohortId := a, hostEn := b, sbAddr := c, recover := d } ∧ t.sup.inhibit = true ∧
      t.pwr = {} ∧ t.log = {} ∧ t.con = {} ∧ t.fab = {} ∧ (s.fl.busy = false → t.fl.mem = s.fl.mem) ∧ t.cru.fuses = s.cru.fuses ∧
      (s.sup.modEn = true → mainOn t.sup ∧ t.boot.pendingStart = !s.sup.modRstLow) ∧ (s.sup.modEn = false → t.sup.pwrgd = false) ∧
      t.out = s.out ∧ t.pending = s.pending) ∧
    (∃ t, exec .aodPowerLoss s = .next t ∧ t.sup.aodUp = false ∧ t.sup.modEn = s.sup.modEn ∧ (s.fl.busy = false → t.fl.mem = s.fl.mem) ∧ t.cru.fuses = s.cru.fuses ∧ t.log = {} ∧ t.fab = {}) ∧
    (s.sup.pwrgd = true → ∃ t, exec .modRstNAssert s = .next t ∧ t.sup.modRstLow = true ∧ t.sup.pwrgd = true ∧ t.sup.limitCtrl = s.sup.limitCtrl ∧
      t.boot.pendingStart = false ∧ t.con = {} ∧ t.fab.hbm = [] ∧ t.tal.uncertain = true ∧ t.ann.state = .unconfigured ∧ t.sb = s.sb) ∧
    (s.sup.modRstLow = true → exec .modRstNRelease s =
      .next { s with sup := { s.sup with modRstLow := false }, boot := { s.boot with pendingStart := s.sup.pwrgd } }) ∧
    (s.boot.orderly = true → ∃ t, exec .orderlyPhaseEnd s = .next t ∧ t.boot.orderly = false ∧ t.con = {} ∧ t.fab.hbm = [] ∧ t.sup.limitCtrl = s.sup.limitCtrl) ∧
    (∀ op, s.fl.busy = true → s.fl.suspended = false → s.fl.queue = [op] → exec .flashProgramOrEraseDone s =
      .next { s with fl := { s.fl with mem := op.apply s.fl.mem, queue := [], busy := false } })

/-! ## Start and cohort formation (spec/02) -/

/-- R42, R43, R45, R46: the boot ROM halts the device on a failed self-test, waits in recovery mode under FLASH_RECOVER, and otherwise loads the active bank when the directory calls it valid and its image passes, after which the supervisor runs and the host endpoint is released. R60: a member whose index is free and whose cohort size agrees joins while the wait runs; the end of the wait reports each absent member at the lead and nothing at a member. -/
def Obligations.BootAndFormation : Prop :=
  (∀ (s : State) (test trained dies : Nat), s.boot.pendingStart = true →
      (test ≠ 0 → ∃ t, exec (.bootRomStart test trained dies) s = .next t ∧ t.boot.halted = true ∧ t.boot.supervisor = false ∧
        t.boot.pendingStart = false ∧ bitOf t.pwr.alertLatch 4 = true ∧ t.sup.pwrgd = s.sup.pwrgd) ∧
      (s.sup.straps.recover = 1 → ∃ t, exec (.bootRomStart 0 trained dies) s = .next t ∧ t.boot.recovery = true ∧ t.boot.pendingStart = false ∧
        t.boot.supervisor = s.boot.supervisor ∧ t.fab.hbm = s.fab.hbm) ∧
      (∀ d c, s.sup.straps.recover ≠ 1 → s.fl.view.directory = some (d, c) → selectBank d = (0, d, false) → d.bankA = .valid →
        Image.bootFailure (State.cruStart (State.resumeFuses { s with boot := { s.boot with pendingStart := false } })).vendorHash
          (State.cruStart (State.resumeFuses { s with boot := { s.boot with pendingStart := false } })).fwArb (s.fl.view.image 0) = none →
        s.sup.straps.cohortId = 0 →
        ∃ t, exec (.bootRomStart 0 trained dies) s = .next t ∧ t.boot.supervisor = true ∧ t.boot.bank = 0 ∧ t.boot.pendingStart = false ∧
          t.boot.version = Image.version (s.fl.view.image 0) ∧ t.hep.released = true ∧ t.tal.stopped = false)) ∧
  (∀ (s : State) (port member size hostEn serial : Nat) (secs : List (Nat × Bytes)), s.boot.supervisor = true → s.boot.memberWait = true →
      ((s.port port).cohort = true → member < 4 → member ≠ s.sup.straps.cohortId → size = s.prof 2 0 1 1 → s.boot.members.contains member = true →
        s.apt.present.contains member = true → (s.port port).partner = some member →
        exec (.cohortMemberJoin port member size hostEn serial secs) s =
          .next { s with apt := { s.apt with memberDdt := s.apt.memberDdt.put member secs }, hep := { s.hep with ddtGen := s.hep.ddtGen + 2 } }) ∧
      ((s.port port).cohort = true → member < 4 → member ≠ s.sup.straps.cohortId → size = s.prof 2 0 1 1 → member < size →
        (s.sup.straps.cohortId = 0 ∨ member = 0) → s.boot.members.contains member = false →
        ∃ t, exec (.cohortMemberJoin port member size hostEn serial secs) s = .next t ∧ t.boot.members.contains member = true ∧
          t.apt.formed = true ∧ t.apt.present.contains member = true ∧ bitOf t.apt.events 3 = true ∧ (t.port port).partner = some member ∧
          t.apt.memberInfo.find? member = some (hostEn % 2, serial) ∧ t.apt.memberDdt.find? member = some secs ∧ t.hep.ddtGen = s.hep.ddtGen + 2 ∧ OnlyChanges [.boot, .apt, .ddt] s t) ∧
      ((s.port port).cohort = true → member < 4 → member = s.sup.straps.cohortId →
        ∃ t, exec (.cohortMemberJoin port member size hostEn serial secs) s = .next t ∧ (t.port port).dl = false ∧
          t.boot.conflicts = s.boot.conflicts ++ [port] ∧ t.log.reports.length = s.log.reports.length + 1 ∧ OnlyChanges [.boot, .apt, .log] s t) ∧
      (s.sup.straps.cohortId ≠ 0 → exec .memberWaitExpiry s = .next { s with boot := { s.boot with memberWait := false } }) ∧
      (s.sup.straps.cohortId = 0 → ∃ t, exec .memberWaitExpiry s = .next t ∧ t.boot = { s.boot with memberWait := false } ∧
        OnlyChanges [.boot, .log] s t ∧
        t.log.reports.length = s.log.reports.length + ((seqFrom 1 (s.prof 2 0 1 1 - 1)).filter fun m => !(s.boot.members.contains m)).length))

/-! ## Fabric and memory (spec/03) -/

/-- R76, R79, R84, R90, R96: a replayed flit and a dropped bridge entry are counted and latched, the sixteenth failed replay of a link starts the orderly phase of a reset, an entry dropped in an Ethernet lane's domain is a receive error too, a quadrant enters or leaves self-refresh, an aged entry leaves the table of corrected errors, and the two memory control registers take the fields that are in range, from the supervisor and core 3 only, any other core taking a trap. R86 to R90: a scrubbed block that decodes without an error changes nothing but the place of the scrub and the self-refresh its quadrant leaves; a corrected one is counted, latched and reported; an uncorrectable one is counted, marked and reported; no byte of HBM changes. -/
def Obligations.FabricAndScrub : Prop :=
  (∀ (s : State) (n q pane core : Nat) (v : W32),
      (n < 8 → s.fab.linkRun.getD n 0 ≠ 15 → ∃ t, exec (.linkFlitReplay n true) s = .next t ∧ t.fab.retryCount = satInc s.fab.retryCount ∧
        bitOf t.fab.linkEvents n = true ∧ t.fab.linkRun.getD n 0 = s.fab.linkRun.getD n 0 + 1 ∧ t.fab.hbm = s.fab.hbm ∧ OnlyChanges [.fab] s t) ∧
      (n < 8 → ∃ t, exec (.linkFlitReplay n false) s = .next t ∧ t.fab.retryCount = satInc s.fab.retryCount ∧ bitOf t.fab.linkEvents n = true ∧
        t.fab.linkRun.getD n 0 = 0 ∧ OnlyChanges [.fab] s t) ∧
      (n < 8 → s.fab.linkRun.getD n 0 = 15 → s.boot.supervisor = true → (s.pwr.state = .p0 ∨ s.pwr.state = .p1) → s.coreRestarting 0 = false →
        ∃ t, exec (.linkFlitReplay n true) s = .next t ∧ t.boot.orderly = true ∧ t.boot.trigger = 4) ∧
      (n < 160 → s.domainPowered n = true → ∃ t, exec (.bridgeEntryOverflow n) s = .next t ∧ bitOf t.fab.linkEvents 14 = true ∧
        (t.fab.domains.getD n {}).overflow = satInc (s.fab.domains.getD n {}).overflow ∧
        (∀ m, m ≠ n → t.fab.domains.getD m {} = s.fab.domains.getD m {}) ∧ t.fab.hbm = s.fab.hbm ∧ OnlyChanges [.fab] s t) ∧
      (160 ≤ n → n < 192 → s.domainPowered n = true → ∃ t, exec (.bridgeEntryOverflow n) s = .next t ∧ bitOf t.fab.linkEvents 14 = true ∧
        (t.fab.domains.getD n {}).overflow = satInc (s.fab.domains.getD n {}).overflow ∧
        (let p := (n - 160) / (32 / s.netPorts)
         (t.net.ports.getD p {}).rxErr = satInc (s.net.ports.getD p {}).rxErr) ∧ OnlyChanges [.fab, .net] s t) ∧
      ((192 ≤ n ∨ s.domainPowered n = false) → exec (.bridgeEntryOverflow n) s = .next s) ∧
      (n < 8 → q < 4 → ∀ enter, ∃ t, exec (.selfRefreshEnter n q enter) s = .next t ∧
        (t.fab.ctrl n).quadrantSr / 2 ^ q % 2 = (if enter then 1 else 0) ∧ (∀ m, m ≠ n → t.fab.ctrl m = s.fab.ctrl m) ∧
        t.fab.hbm = s.fab.hbm ∧ OnlyChanges [.fab] s t) ∧
      (n < 8 → ∃ t, exec (.paneErrorAgeOut n pane) s = .next t ∧ (∀ e ∈ (t.fab.ctrl n).ceTable, e.pane ≠ pane) ∧
        (∀ e ∈ (s.fab.ctrl n).ceTable, e.pane ≠ pane → e ∈ (t.fab.ctrl n).ceTable) ∧ (∀ m, m ≠ n → t.fab.ctrl m = s.fab.ctrl m) ∧
        t.fab.hbm = s.fab.hbm ∧ OnlyChanges [.fab] s t) ∧
      ((core = 0 ∨ core = 3) → 6 ≤ field v 0 8 → field v 0 8 ≤ 168 → field v 9 23 = 0 →
        exec (.memCtrlWrite core 0x10 v) s = .next { s with fab := { s.fab with scrubCtrl := v } }) ∧
      ((core = 0 ∨ core = 3) → field v 0 8 < 2 → field s.fab.withdrawCtrl 0 8 ≠ field v 0 8 → ∃ t, exec (.memCtrlWrite core 0x8 v) s = .next t ∧
        field t.fab.withdrawCtrl 0 8 = field s.fab.withdrawCtrl 0 8 ∧ t.fab.faultCount = s.fab.faultCount + 1 ∧ OnlyChanges [.fab, .log] s t) ∧
      (core ≠ 0 → core ≠ 3 → ∃ t, exec (.memCtrlWrite core q v) s = .next t ∧ (t.core core).ecause = 5#32 ∧
        (t.core core).epc = (s.core core).pc ∧ (t.core core).pc = (s.core core).vbase ∧ OnlyChanges [.gaf] s t)) ∧
  (∀ (s : State) (n : Nat) (errs : List (Nat × Byte)), n < 8 → bitOf s.fab.scrubCtrl 8 = true → (s.fab.ctrl n).trained = true →
      s.pwr.state ≠ .p2 → (s.fab.ctrl n).scrubNext + 1 < 1073741824 →
      let c := s.fab.ctrl n
      let pa := n * 68719476736 + c.scrubNext * 64
      let found := Temper.decode (c.marks.getD (channelOf pa) []) (Temper.corrupt (Temper.codeword pa (Mem.read 0 s.fab.hbm pa 64)) errs)
      (s.fab.bad.contains (pa / 64) = false → found = .clean →
        ∃ t, exec (.patrolScrub n errs) s = .next t ∧ (∃ sr, t.fab.ctrl n = { c with scrubNext := c.scrubNext + 1, quadrantSr := sr }) ∧ t.fab.hbm = s.fab.hbm ∧
          t.fab.bad = s.fab.bad ∧ OnlyChanges [.fab] s t) ∧
      (∀ es, s.fab.bad.contains (pa / 64) = false → found = .corrected es →
        ∃ t, exec (.patrolScrub n errs) s = .next t ∧ (t.fab.ctrl n).scrubNext = c.scrubNext + 1 ∧ (t.fab.ctrl n).ceCount = satInc c.ceCount ∧
          bitOf (t.fab.ctrl n).events 0 = true ∧ t.fab.hbm = s.fab.hbm ∧ s.log.reports.length < t.log.reports.length ∧ OnlyChanges [.fab, .log] s t) ∧
      ((s.fab.bad.contains (pa / 64) = true ∨ ∃ v, found = .uncorrectable v) →
        ∃ t, exec (.patrolScrub n errs) s = .next t ∧ (t.fab.ctrl n).scrubNext = c.scrubNext + 1 ∧ (t.fab.ctrl n).ueCount = satInc c.ueCount ∧
          bitOf (t.fab.ctrl n).events 1 = true ∧ t.fab.bad.contains (pa / 64) = true ∧ t.fab.hbm = s.fab.hbm ∧
          s.log.reports.length < t.log.reports.length ∧ OnlyChanges [.fab, .log] s t))

/-- R90, R91: a candidate that nothing owns joins the withdrawn list, and one in use has its bytes moved to the pane chosen for it (here while the inhibit holds, so the list is copied later); a write into one pane is applied byte for byte where the pane is not armed and the hold buffer has room, and is held, leaving HBM as it was and asking Lehr for the pane, where it is armed; it waits behind a full hold buffer. -/
def Obligations.WithdrawalAndSnapshotHooks : Prop :=
  ∀ (s : State) (pane pa : Nat) (bs : Bytes),
    let i := stackOf pa
    let c := s.fab.ctrl i
    (s.fab.candidates.contains pane = true → s.fab.withdrawn.length < 65536 → s.fab.armed pane = false → s.fab.scope.contains pane = false →
      s.sup.inhibit = true → s.fab.placed.find? pane = none →
      exec (.paneWithdraw pane) s = .next { s with
        fab := { s.fab with candidates := s.fab.candidates.filter fun x => x ≠ pane, withdrawn := s.fab.withdrawn ++ [pane] }
        fl := { s.fl with listDue := true } }) ∧
    (∀ own n, s.fab.candidates.contains pane = true → s.fab.withdrawn.length < 65536 → s.fab.armed pane = false → s.fab.scope.contains pane = false →
      s.sup.inhibit = true → s.fab.placed.find? pane = some own → s.choosePane = some n → s.paneRoom = true →
      ∃ t, exec (.paneWithdraw pane) s = .next t ∧ t.fab.withdrawn = s.fab.withdrawn ++ [pane] ∧ t.fab.candidates.contains pane = false ∧
        t.fab.placed.find? n = some own ∧
        (∀ x < 65536, Mem.readByte 0 t.fab.hbm (n * 65536 + x) = Mem.readByte 0 s.fab.hbm (pane * 65536 + x)) ∧
        (∀ x, x < n * 65536 ∨ (n + 1) * 65536 ≤ x → Mem.readByte 0 t.fab.hbm x = Mem.readByte 0 s.fab.hbm x) ∧
        OnlyChanges [.fab, .fl, .log, .freeCtr] s t) ∧
    (s.pwr.state ≠ .p2 → pa + bs.length ≤ 549755813888 → bs ≠ [] → pa % 65536 + bs.length ≤ 65536 → c.held.length < 256 →
      s.fab.armed (paneOf pa) = false → s.fab.badPartial pa bs.length = false →
      ∃ t, exec (.armedPaneWrite pa bs) s = .next t ∧ OnlyChanges [.fab] s t ∧
        (∀ j < bs.length, some (Mem.readByte 0 t.fab.hbm (pa + j)) = bs[j]?) ∧
        (∀ x, x < pa ∨ pa + bs.length ≤ x → Mem.readByte 0 t.fab.hbm x = Mem.readByte 0 s.fab.hbm x)) ∧
    (s.pwr.state ≠ .p2 → pa + bs.length ≤ 549755813888 → bs ≠ [] → pa % 65536 + bs.length ≤ 65536 → c.held.length < 256 → s.fab.armed (paneOf pa) = true →
      ∃ t, exec (.armedPaneWrite pa bs) s = .next t ∧ OnlyChanges [.fab] s t ∧ t.fab.hbm = s.fab.hbm ∧
        (t.fab.ctrl i).held = c.held ++ [⟨pa, bs⟩] ∧ (t.fab.ctrl i).heldCount = satInc c.heldCount ∧ t.fab.copyReq.contains (paneOf pa) = true) ∧
    (s.pwr.state ≠ .p2 → pa + bs.length ≤ 549755813888 → bs ≠ [] → pa % 65536 + bs.length ≤ 65536 → 256 ≤ c.held.length →
      ∃ t, exec (.armedPaneWrite pa bs) s = .next t ∧ OnlyChanges [.fab] s t ∧ t.fab.hbm = s.fab.hbm ∧ (t.fab.ctrl i).held = c.held ∧
        (t.fab.ctrl i).waiting = c.waiting ++ [⟨pa, bs⟩] ∧ bitOf (t.fab.ctrl i).events 6 = true)

/-! ## Queues of the command contract (spec/04) -/

/-- R105, R107, R108, R115: a command's final status lets its signal land and takes the command out of its queue; its record is posted, or held for a frozen function, or waits in the fabric for a slot that cannot be written yet, or its queue is in ERROR because the record could not be written, and a quiet success posts none. Nothing but the queue, its record, the reads the command gave up and, where a MOVER command fails, its destination changes. R105 to R109, R111, R115: a fetch reads the slot at the head once and gives the command its handle; a command starts once fence and wait allow it, an unknown opcode ends with 0x10; TENANT_QUIESCE pauses every running queue of the tenant and TENANT_RESUME resumes them. -/
def Obligations.RecordsAndFlow : Prop :=
  (∀ (s : State) (r : CmdRef) (c : Cmd) (status detail r0 r1 : Nat), s.cmd? r = some c →
      let u := s.queue r.fn r.q
      let t := s.finishD r status detail r0 r1
      let v := t.queue r.fn r.q
      t.cmd? r = none ∧
      (c.signals = true → (t.con.fn r.fn).sync.getD (c.fld 0x0A 2) 0 = signalled ((s.con.fn r.fn).sync.getD (c.fld 0x0A 2) 0) status) ∧
      (c.signals = false → (t.con.fn r.fn).sync = (s.con.fn r.fn).sync) ∧
      (c.quiet = true → status = 0 → c.accepted = false → v.cqTail = u.cqTail ∧ (u.state ≠ .stopping → t.out = s.out)) ∧
      (¬ (c.quiet = true ∧ status = 0 ∧ c.accepted = false) →
        v.cqTail = (u.cqTail + 1) % 4294967296 ∨ (v.state = .error ∧ bitOf v.err 2 = true) ∨
          ((t.hostFn (hostOf r.fn)).held.length = (s.hostFn (hostOf r.fn)).held.length + 1 ∧ v.cqTail = u.cqTail) ∨
          (t.fab.records.length = s.fab.records.length + 1 ∧ v.cqTail = u.cqTail)) ∧
      OnlyChanges recordParts s t) ∧
  (∀ (s : State) (fn q : Nat) (r : CmdRef), s.ioRuns = true → s.asleep = false → s.pwr.state = .p0 →
      let u := s.queue fn q
      let mgmt := tenantOf fn = 0 ∨ u.engine ≠ 5
      (∀ bs, s.fetchable fn q = true → s.readC (.fetch fn q) fn (u.sqBase.toNat + 64 * (u.sqHead % 2 ^ u.sqLog)) 64 = .data bs →
        ∃ t, exec (.commandFetch fn q) s = .next t ∧ (t.queue fn q).sqHead = (u.sqHead + 1) % 4294967296 ∧ (t.queue fn q).seq = (u.seq + 1) % 4294967296 ∧
          (t.queue fn q).fetched = u.fetched ++ [{ handle := u.engine * 72057594037927936 + (fn * 256 + q) * 1099511627776 + u.seq * 256 + u.generation, bytes := bs }] ∧
          (∀ p, p ≠ q → t.queue fn p = s.queue fn p) ∧ OnlyChanges [.con, .hep, .apt] s t) ∧
      (∀ c rest, u.state = .running → u.fetched = c :: rest → s.boot.orderly = false → c.fences u.engine = false → c.waits = false →
        headerBad u.engine (field s.con.fnContract 0 8) c = none → mgmt → s.boot.safe = false → s.boot.unowned = false → s.alone = false →
        ∃ t, exec (.commandStart fn q) s = .next t ∧ t.queue fn q = { u with fetched := rest, running := u.running ++ [c] } ∧
          (∀ p, p ≠ q → t.queue fn p = s.queue fn p) ∧ OnlyChanges [.con] s t) ∧
      (∀ c rest, u.state = .running → u.fetched = c :: rest → s.boot.orderly = false → c.fences u.engine = false → c.waits = false →
        (opcodes u.engine).any (fun o => o.1 = c.opcode) = false →
        ∃ v, exec (.commandStart fn q) s = .next (v.failAt ⟨fn, q, c.handle⟩ 0x10 0) ∧
          v.queue fn q = { u with fetched := rest, running := u.running ++ [c] } ∧ OnlyChanges [.con] s v) ∧
      (∀ c, Started s r 5 0x11 [(0x10, 1)] c → 1 ≤ c.byte 0x10 → c.byte 0x10 < 16 → s.tenantOn (c.byte 0x10) = true →
        ∃ v, exec (.tenantQuiesce r) s = .next (v.finish r 0 0 0) ∧ (v.con.fn (c.byte 0x10)).quiesced = true ∧
          (∀ p x, (s.con.fn (c.byte 0x10)).queues.find? p = some x → ∃ y, (v.con.fn (c.byte 0x10)).queues.find? p = some y ∧
            y = if x.state = .running then { x with state := .paused } else x) ∧
          (∀ m, m ≠ c.byte 0x10 → v.con.fn m = s.con.fn m) ∧ v.hep.ddtGen = s.hep.ddtGen + 2 ∧ OnlyChanges [.con, .ddt] s v) ∧
      (∀ c, Started s r 5 0x12 [(0x10, 1)] c → 1 ≤ c.byte 0x10 → c.byte 0x10 < 16 → s.tenantOn (c.byte 0x10) = true → s.con.pausedEngines = [] →
        ∃ v, exec (.tenantResume r) s = .next (v.finish r 0 0 0) ∧ (v.con.fn (c.byte 0x10)).quiesced = false ∧
          (∀ p x, (s.con.fn (c.byte 0x10)).queues.find? p = some x → ∃ y, (v.con.fn (c.byte 0x10)).queues.find? p = some y ∧
            y = if x.state = .paused then { x with state := .running } else x) ∧
          (∀ m, m ≠ c.byte 0x10 → v.con.fn m = s.con.fn m) ∧ OnlyChanges [.con, .ddt] s v))

/-- R100, R102, R103, R104, R108: enabling, disabling and ringing a queue, the completion head, and a software write of a sync counter. -/
def Obligations.QueueControl : Prop :=
  ∀ (s : State) (fn q n : Nat) (v : W32), HostAwake s fn → q < 256 →
    let u := s.queue fn q
    let others := fun (t : State) => ∀ p, p ≠ q → t.queue fn p = s.queue fn p
    (bitOf v 0 = true → u.state = .disabled → s.con.configOk fn { u with ctrl := v &&& qctrlMask } = true → (s.con.fn fn).quiesced = false →
      s.con.pausedEngines = [] →
      ∃ t, exec (.queueEnable fn q v) s = .next t ∧ (t.queue fn q).state = .running ∧ (t.queue fn q).generation = nextGeneration u.generation ∧
        (t.queue fn q).sqHead = 0 ∧ (t.queue fn q).cqTail = 0 ∧ (t.queue fn q).cqHead = 0 ∧ (t.queue fn q).tail = 0 ∧ others t ∧
        OnlyChanges [.con, .hep, .apt, .out, .log] s t) ∧
    (bitOf v 0 = true → u.state = .disabled → s.con.configOk fn { u with ctrl := v &&& qctrlMask } = false →
      ∃ t, exec (.queueEnable fn q v) s = .next t ∧ (t.queue fn q).state = .disabled ∧ bitOf (t.queue fn q).err 5 = true ∧
        bitOf (t.queue fn q).ctrl 0 = false ∧ others t ∧ OnlyChanges [.con, .hep, .apt, .out, .log] s t) ∧
    (u.state = .running → u.fetched = [] → u.running = [] → u.owed = [] → s.log.waiters = [] → s.recordWaits fn q = false → s.frozenQ fn q = false →
      ∃ t, exec (.queueDisable fn q) s = .next t ∧ (t.queue fn q).state = .disabled ∧ bitOf (t.queue fn q).ctrl 0 = false ∧ others t ∧
        OnlyChanges [.con, .hep, .out] s t) ∧
    (u.state = .running → (n % 4294967296 + 4294967296 - u.tail) % 4294967296 < 2147483648 →
      (n % 4294967296 + 4294967296 - u.sqHead) % 4294967296 ≤ 2 ^ u.sqLog →
      ∃ t, exec (.queueDoorbell fn q n) s = .next t ∧ t.queue fn q = { u with tail := n % 4294967296 } ∧ others t ∧ OnlyChanges [.con] s t) ∧
    (u.state = .running → 2 ^ u.sqLog < (n % 4294967296 + 4294967296 - u.sqHead) % 4294967296 →
      ∃ t, exec (.queueDoorbell fn q n) s = .next t ∧ (t.queue fn q).state = .error ∧ bitOf (t.queue fn q).err 0 = true ∧
        (t.queue fn q).tail = u.tail ∧ others t ∧ t.log.reports.length = s.log.reports.length + 1 ∧ OnlyChanges [.con, .log] s t) ∧
    (u.state = .disabled → ∃ t, exec (.queueDoorbell fn q n) s = .next t ∧ t.queue fn q = { u with ignored := satInc u.ignored } ∧ OnlyChanges [.con] s t) ∧
    (n < 4294967296 → (n + 4294967296 - u.cqHead) % 4294967296 < 2147483648 →
      (n + 4294967296 - u.cqHead) % 4294967296 ≤ (u.cqTail + 4294967296 - u.cqHead) % 4294967296 →
      ∃ t, exec (.cqHeadWrite fn q n) s = .next t ∧ t.queue fn q = { u with cqHead := n } ∧ others t ∧ OnlyChanges [.con, .hep, .out] s t) ∧
    (n < 4096 → ∃ t, exec (.syncCounterWrite fn n v) s = .next t ∧ (t.con.fn fn).sync.getD n 0 = v ∧
      (∀ m, m ≠ n → (t.con.fn fn).sync.getD m 0 = (s.con.fn fn).sync.getD m 0) ∧ (∀ p, t.queue fn p = s.queue fn p))

/-! ## Host endpoint (spec/11) -/

/-- R299, R311, R315, R316, R30: Bus Master Enable, D3hot and Interrupt Disable of one function, and the host link coming up once the endpoint is released and HEP_PERST_N is high. Every other function keeps its registers. R303: a BAR4 read of mapped device memory answers its bytes in completions of at most 512 and changes nothing else; a BAR4 write reaches device memory through the tenant's panes; an access with no mapping is answered as an unsupported request, or dropped and counted. R304 to R306: a tenant function reads a descriptor table of a header and one section that holds its own FUNCTION entry. -/
def Obligations.HostWindows : Prop :=
  (∀ (s : State) (fn : Nat), s.cfgLive fn = true →
      let h := s.hostFn fn
      let others := fun (t : State) => ∀ m, m ≠ fn → t.hostFn m = s.hostFn m
      (h.bme = true → ∃ t, exec (.bmeClear fn) s = .next t ∧ (t.hostFn fn).bme = false ∧ others t ∧
        (∀ x ∈ t.hep.reads, x.fn = fn → x.discard = true) ∧
        (s.hep.outstanding fn ≠ [] → bitOf (t.hostFn fn).events 1 = true) ∧ (s.hep.outstanding fn = [] → (t.hostFn fn).events = h.events) ∧
        OnlyChanges [.hep] s t) ∧
      (h.bme = false → exec (.bmeClear fn) s = .next s) ∧
      (∃ t, exec (.bmeSet fn) s = .next t ∧ t.hostFn fn = { h with bme := true } ∧ others t ∧ t.hep.reads = s.hep.reads ∧ OnlyChanges [.hep] s t) ∧
      (∃ t, exec (.pmStateWrite fn true) s = .next t ∧ t.hostFn fn = { h with d3 := true } ∧ others t ∧
        (∀ x ∈ t.hep.reads, x.fn = fn → x.discard = true) ∧ OnlyChanges [.hep] s t) ∧
      (∃ t, exec (.pmStateWrite fn false) s = .next t ∧ t.hostFn fn = { h with d3 := false } ∧ others t ∧ t.hep.reads = s.hep.reads ∧ OnlyChanges [.hep] s t) ∧
      (∀ on, ∃ t, exec (.interruptDisableWrite fn on) s = .next t ∧ (t.hostFn fn).intDisable = on ∧ others t ∧
        (t.hostFn fn).intxSent = (((s.con.fn fn).intx || s.nvLevel fn) && !on) ∧
        (t.out = s.out ∨ t.out = s.out ++ [.intx fn (t.hostFn fn).intxSent]) ∧ OnlyChanges [.con, .hep, .out] s t) ∧
      (s.hep.released = true → s.hep.perstLow = false →
        ∃ t, exec .hostLinkUp s = .next t ∧ t.hep.linkUp = true ∧ 1 ≤ t.hep.speed ∧ t.hep.speed ≤ 6 ∧ t.hep.width ∈ [1, 2, 4, 8, 16] ∧
          t.hep.fns = s.hep.fns ∧ t.pwr = { s.pwr with hepWakeLow := false } ∧ OnlyChanges [.hep, .pwr, .freeCtr] s t) ∧
      exec .hepPerstNRelease s = .next { s with hep := { s.hep with perstLow := false } }) ∧
  (∀ (s : State) (fn off len : Nat) (bs : Bytes), HostAwake s fn → s.hep.linkUp = true →
      (∀ d, 0 < len → len ≤ 512 → off % 4096 + len ≤ 4096 → off + len ≤ 549755813888 → s.fab.readDev (tenantOf fn) off len = .ok d → d.length = len →
        exec (.bar4Read fn off len) s = .next (s.emit (.hostCpl fn 0 d))) ∧
      (0 < len → off % 4096 + len ≤ 4096 → off + len ≤ 549755813888 → s.fab.readDev (tenantOf fn) off len = .error 0x11 →
        exec (.bar4Read fn off len) s = .next (s.emit (.hostCpl fn 1 []))) ∧
      (∀ pa, off % 65536 + bs.length ≤ 65536 → bs ≠ [] → off + bs.length ≤ 549755813888 → s.fab.translate (tenantOf fn) off true = .ok pa →
        s.fab.bad = [] → (s.fab.ctrl (stackOf pa)).held.length < 256 → s.fab.armed (paneOf pa) = false →
        ∃ t, exec (.bar4Write fn off bs) s = .next t ∧ OnlyChanges [.fab] s t ∧
          (∀ j < bs.length, some (Mem.readByte 0 t.fab.hbm (pa + j)) = bs[j]?) ∧
          (∀ x, x < pa ∨ pa + bs.length ≤ x → Mem.readByte 0 t.fab.hbm x = Mem.readByte 0 s.fab.hbm x)) ∧
      (off + bs.length ≤ 549755813888 → s.fab.writeDev (tenantOf fn) off bs = .error 0x11 →
        ∃ t, exec (.bar4Write fn off bs) s = .next t ∧ (t.hostFn fn).barDrops = satInc (s.hostFn fn).barDrops ∧ bitOf (t.hostFn fn).events 4 = true ∧
          OnlyChanges [.hep] s t)) ∧
  (∀ (s : State) (fn : Nat), 1 ≤ fn → fn < 16 →
      (s.ddt fn).length = 112 ∧ slice (s.ddt fn) 0 4 = ascii "RDDT" ∧ fieldAt (s.ddt fn) 8 4 = 112 ∧ fieldAt (s.ddt fn) 0x0C 4 = s.hep.ddtGen % 4294967296 ∧
        fieldAt (s.ddt fn) 0x30 2 = 1 ∧ fieldAt (s.ddt fn) 64 2 = 1 ∧ fieldAt (s.ddt fn) 68 4 = 80 ∧ slice (s.ddt fn) 80 32 = s.ddtFunction fn)

/-- R314, R315: a completion that brings every byte of an outstanding read gives its data to the command that waits and frees the tag; one of a read the closed gate discards is counted; a timeout puts the tag in quarantine, is counted and logged, and the end of the quarantine frees it. -/
def Obligations.HostReads : Prop :=
  ∀ (s : State) (fn tag : Nat) (bs : Bytes) (x : ExtRead), s.cfgLive fn = true →
    (s.hep.read? fn tag = some x → x.discard = false → bs.length = x.len → s.awaits x.owner = true → s.apt.carried = [] →
      ∃ t, exec (.hostReadCompletion fn tag 0 bs) s = .next t ∧
        t.hep.arrived = s.hep.arrived ++ [{ owner := x.owner, addr := x.addr, bytes := bs }] ∧ t.hep.read? fn tag = none ∧
        (∀ y ∈ s.hep.reads, ¬ (y.fn = fn ∧ y.tag = tag) → y ∈ t.hep.reads) ∧ t.hep.fns = s.hep.fns ∧ OnlyChanges [.hep] s t) ∧
    (s.hep.read? fn tag = some x → x.discard = true → x.owner = .unit 0 →
      ∃ t, exec (.hostReadCompletion fn tag 0 bs) s = .next t ∧ (t.hostFn fn).discards = satInc (s.hostFn fn).discards ∧
        bitOf (t.hostFn fn).events 3 = true ∧ t.hep.arrived = s.hep.arrived ∧ t.hep.read? fn tag = none ∧ OnlyChanges [.hep] s t) ∧
    (s.hep.read? fn tag = none → s.hep.quarantine.contains (tag, fn) = true →
      ∃ t, exec (.hostReadCompletion fn tag 0 bs) s = .next t ∧ (t.hostFn fn).discards = satInc (s.hostFn fn).discards ∧
        t.fab.lateDiscard = satInc s.fab.lateDiscard ∧ t.hep.arrived = s.hep.arrived ∧ OnlyChanges [.hep, .fab, .freeCtr] s t) ∧
    (s.hep.read? fn tag = some x → x.owner = .unit 0 →
      ∃ t, exec (.hostReadTimeout fn tag) s = .next t ∧ t.hep.quarantine = s.hep.quarantine ++ [(tag, fn)] ∧ t.hep.read? fn tag = none ∧
        (t.hostFn fn).cplTimeouts = satInc (s.hostFn fn).cplTimeouts ∧ bitOf (t.hostFn fn).events 2 = true ∧
        bitOf (t.hostFn fn).aerUncorr 14 = true ∧ t.fab.timeoutWon = satInc s.fab.timeoutWon ∧ OnlyChanges [.hep, .fab, .freeCtr] s t) ∧
    (∃ t, exec (.hostTagQuarantineEnd fn tag) s = .next t ∧ t.hep.quarantine = s.hep.quarantine.filter (fun y => y ≠ (tag, fn)) ∧
      t.hep.reads = s.hep.reads ∧ OnlyChanges [.hep] s t)

/-- R319 to R322: arming the heartbeat, a heartbeat, the loss of the driver freezing its function, and a resume that lets the held records go and lifts the freeze; the lead tells the member whose queues it carries. R316 to R318: a function level reset leaves the function's queues, sync counters and enables as after reset, sets flr_done and unmaps the tenant's memory; a hot reset, the loss of the link and HEP_PERST_N do so for every function and take the link down. -/
def Obligations.HostDriverAndResets : Prop :=
  (∀ (s : State) (fn : Nat), HostAwake s fn →
      let h := s.hostFn fn
      (h.frozen = false → ∀ v, exec (.hbCtrlWrite fn v) s = .next (s.modHost fn fun h => { h with hbArmed := v.getLsbD 0 })) ∧
      (h.frozen = true → h.held = [] → (∀ x ∈ (s.con.fn fn).queues, x.2.state ≠ .stopping) → (fn = 0 → s.carriedBy = false) →
        ∃ t, exec (.hbCtrlWrite fn 1#32) s = .next t ∧ t.hostFn fn = { h with hbArmed := true, frozen := false } ∧
          t.hep.ddtGen = s.hep.ddtGen + 2 ∧ (fn ≠ 0 → t.out = s.out) ∧
          (∀ m, fn = 0 → s.sup.straps.cohortId = 0 → s.apt.present = [m] → 1 ≤ m → m ≤ 3 → (s.apt.memberInfo.getD m (0, 0)).1 = 0 →
            t.out = s.out ++ [.cohortMsg m 0x17 []]) ∧ OnlyChanges [.hep, .ddt, .out] s t) ∧
      exec (.hepHeartbeat fn) s = .next s ∧
      (h.hbArmed = true → h.frozen = false → (fn = 0 ∨ s.prof 4 fn 4 0 ≠ 1) →
        ∃ t, exec (.driverLossExpiry fn false) s = .next t ∧ t.hostFn fn = { h with frozen := true, events := setBit h.events 0 } ∧
          t.log.reports.length = s.log.reports.length + 1 ∧ t.hep.ddtGen = s.hep.ddtGen + 2 ∧ t.con = s.con ∧
          t.fab.timeoutWon = satInc s.fab.timeoutWon ∧ (fn ≠ 0 → t.out = s.out) ∧
          (∀ m, fn = 0 → s.sup.straps.cohortId = 0 → s.apt.present = [m] → 1 ≤ m → m ≤ 3 → (s.apt.memberInfo.getD m (0, 0)).1 = 0 →
            t.out = s.out ++ [.cohortMsg m 0x16 []]) ∧ OnlyChanges [.hep, .ddt, .fab, .log, .freeCtr, .out] s t) ∧
      (h.hbArmed = true → h.frozen = false → fn ≠ 0 → s.prof 4 fn 4 0 = 1 →
        ∃ t, exec (.driverLossExpiry fn false) s = .next t ∧ (t.hostFn fn).frozen = true ∧ (t.con.fn fn).quiesced = true ∧
          (∀ m, m ≠ fn → t.con.fn m = s.con.fn m) ∧ OnlyChanges [.hep, .ddt, .fab, .log, .con, .freeCtr] s t)) ∧
  (∀ (s : State) (fn : Nat),
      (s.cfgLive fn = true → 1 ≤ fn → ∃ t, exec (.flr fn) s = .next t ∧ (∀ q, t.queue fn q = {}) ∧ (t.con.fn fn).sync = [] ∧
        (t.hostFn fn).bme = false ∧ (t.hostFn fn).mse = false ∧ (t.hostFn fn).d3 = false ∧ bitOf (t.hostFn fn).events 5 = true ∧
        (∀ off < 549755813888, t.fab.pane? fn off = none) ∧ t.pwr = s.pwr) ∧
      (s.hep.linkUp = true → ∃ t, exec .hotReset s = .next t ∧ exec .hostLinkDown s = .next t ∧ t.hep.linkUp = false ∧ t.pwr = s.pwr) ∧
      (∃ t, exec .fundamentalReset s = .next t ∧ t.hep.perstLow = true ∧ t.hep.linkUp = false ∧ t.pwr = s.pwr))

/-! ## Firmware update (spec/20) -/

/-- R527, R528, R532: the sideband image commands. A transfer begins with its bank EMPTY in the directory; data in order is kept and data out of order is refused and changes nothing; the end verifies the whole image, and only a good one makes its bank TRIAL with three boots; the running bank is never written. -/
def Obligations.ImageCommands : Prop :=
  ∀ (s : State) (src : MsgSrc) (bank n : Nat) (bs : Bytes), s.imageHeard src = true → s.imageHost = true →
    let parts : List StatePart := [.boot, .sup, .fl] ++ recordParts
    (bank < 2 → 0 < n → n ≤ imageMax → bank ≠ s.lockedBank → s.boot.transfer = none → s.boot.activation = none →
      ∃ t, exec (.imageBegin src bank n) s = .next t ∧ t.boot.dir.bank bank = .empty ∧ t.boot.dir.bank (1 - bank) = s.boot.dir.bank (1 - bank) ∧
        t.boot.dir.activeBank = s.boot.dir.activeBank ∧ t.boot.phase = 1 ∧
        t.boot.transfer = some { bank := bank, next := 0, total := some n, manifestOk := false, path := if s.boot.recovery then 3 else 1, image := [] } ∧
        OnlyChanges parts s t) ∧
    (bank < 2 → 0 < n → n ≤ imageMax → bank = s.lockedBank → exec (.imageBegin src bank n) s = .next (s.reply src 0xA1 [])) ∧
    (∀ x, s.sbTransfer = some x →
      (n ≠ x.next → exec (.imageData src n bs) s = .next (s.reply src 0x10 [])) ∧
      (n = x.next → 4 ≤ bs.length → bs.length ≤ 1024 → bs.length % 4 = 0 → n + bs.length ≤ x.total.getD 0 → x.manifestOk = false →
        n + bs.length < 65536 → ∃ t, exec (.imageData src n bs) s = .next t ∧
          t.boot.transfer = some { x with next := n + bs.length, image := x.image ++ bs } ∧ t.boot.dir = s.boot.dir ∧ OnlyChanges parts s t) ∧
      (s.fl.idle = true → x.manifestOk = true → x.next = 65536 + 4096 * Image.blockCount x.image →
        Image.status s.vendorHash s.fwArb (s.fl.view.image x.bank) = 0 →
        ∃ t, exec (.imageEnd src) s = .next t ∧ t.boot.dir.bank x.bank = .trial ∧ t.boot.dir.trialLeft = 3 ∧ t.boot.transfer = none ∧
          t.boot.dir.activeBank = (if s.boot.recovery then x.bank else s.boot.dir.activeBank) ∧ OnlyChanges parts s t) ∧
      (s.fl.idle = true → (x.manifestOk = false ∨ Image.status s.vendorHash s.fwArb (s.fl.view.image x.bank) ≠ 0) →
        ∃ t, exec (.imageEnd src) s = .next t ∧ t.boot.dir = s.boot.dir ∧ t.boot.transfer = none ∧ OnlyChanges [.boot, .out] s t)) ∧
    (bank < 2 → s.boot.recovery = false → (s.boot.dir.bank bank = .trial ∨ s.boot.dir.bank bank = .valid) →
      ∃ t, exec (.imageActivate src bank 2 false) s = .next t ∧ t.boot.dir.activeBank = bank ∧ t.boot.dir.bank bank = .trial ∧
        t.boot.dir.trialLeft = 3 ∧ t.boot.bank = s.boot.bank ∧ OnlyChanges parts s t) ∧
    exec (.fwStatus src) s = .next (s.reply src 0 (natLe s.boot.fwStatus 4))

/-- R529, R530, R532: FW_ACTIVATE for the next start makes the bank active and TRIAL with three boots and leaves the running firmware alone; one without an image on a bank that is neither TRIAL nor VALID is refused with 0xA0. The end of the trial makes the running bank VALID. -/
def Obligations.FirmwareActivation : Prop :=
  (∀ (s : State) (r : CmdRef) (c : Cmd), Started s r 5 0x41 [(0x10, 1), (0x11, 1), (0x14, 4), (0x18, 8)] c →
    c.byte 0x10 < 2 → c.byte 0x11 = 2 → c.fld 0x14 4 = 0 → c.fld 0x18 8 = 0 → c.prog = [] → (∀ a, s.boot.activation = some a → a.ref ≠ some r) →
    ((s.boot.dir.bank (c.byte 0x10) = .trial ∨ s.boot.dir.bank (c.byte 0x10) = .valid) →
      ∃ v, exec (.fwActivate r false none none) s = .next (v.finish r 0 (Image.version (s.fl.view.image (c.byte 0x10))) 0) ∧
        v.boot.dir.activeBank = c.byte 0x10 ∧ v.boot.dir.bank (c.byte 0x10) = .trial ∧ v.boot.dir.trialLeft = 3 ∧
        v.boot.bank = s.boot.bank ∧ v.boot.components = s.boot.components ∧ OnlyChanges ([.boot, .sup, .fl] ++ recordParts) s v) ∧
    ((s.boot.dir.bank (c.byte 0x10) = .empty ∨ s.boot.dir.bank (c.byte 0x10) = .bad) →
      ∃ v, exec (.fwActivate r false none none) s = .next (v.finish r 0xA0 (Image.version (s.fl.view.image (c.byte 0x10))) 0) ∧
        v.boot.dir = s.boot.dir ∧ v.boot.bank = s.boot.bank ∧ bitOf v.boot.events 1 = true ∧ OnlyChanges ([.boot] ++ recordParts) s v)) ∧
  (∀ (s : State), s.boot.supervisor = true → s.boot.dir.bank s.boot.bank = .trial →
    (s.boot.trialBroken = false → ∃ t, exec .trialConfirm s = .next t ∧ t.boot.dir.bank s.boot.bank = .valid ∧ bitOf t.boot.events 3 = true ∧
      t.boot.dir.activeBank = s.boot.dir.activeBank ∧ t.boot.bank = s.boot.bank) ∧
    (s.boot.trialBroken = true → exec .trialConfirm s = .next { s with boot := { s.boot with trialBroken := false } }))

/-! ## Time, telemetry and the fault log (spec/19, spec/21) -/

/-- R512 to R514, R517, R520 to R522, R541: what the AOD and cores 0 and 5 do with time. The uncertainty of the tallies is cleared by cores 0 and 5 only; a running tally goes on by the elapsed time; a sample of the sensors sets hottest_c and the time below 80 degrees; a sensor record uses the next sequence of its source, or is lost and counted while core 5 restarts; a pace step moves a powered core rail by 5 mV, never below 720 mV when it lowers it. -/
def Obligations.TalliesAndSensors : Prop :=
  ∀ (s : State) (n core : Nat) (l : List (Nat × Int)),
    ((core = 0 ∨ core = 5) → exec (.clearUncertain core) s = .next { s with tal := { s.tal with uncertain := false, bound := 0 } }) ∧
    (core ≠ 0 → core ≠ 5 → exec (.clearUncertain core) s = .next s) ∧
    (tallySources.contains core = true → s.tal.stopped = false → ∃ t, exec (.tallyCalibration core n) s = .next t ∧
      t.tal.ns.getD core 0 = (s.tal.ns.getD core 0 + n) % 9223372036854775808 ∧ (∀ m, m ≠ core → t.tal.ns.getD m 0 = s.tal.ns.getD m 0) ∧
      t.tal.uncertain = s.tal.uncertain ∧ t.tal.bound = s.tal.bound ∧ OnlyChanges [.tal] s t) ∧
    (s.sup.aodUp = true → ∃ t, exec (.sensorSample l) s = .next t ∧ t.sup.hottestC = t.tel.hottest ∧
      t.sup.coolUs = (if t.tel.hottest < 80 then s.sup.coolUs + (if s.pwr.state = .p3 then 10000 else 100) else 0) ∧
      (∀ i, (∀ x ∈ l, x.1 ≠ i) → t.tel.sensors.find? i = s.tel.sensors.find? i) ∧ t.sup.inhibit = s.sup.inhibit ∧
      t.sup.pwrgd = s.sup.pwrgd ∧ OnlyChanges [.sup, .tel] s t) ∧
    (s.coreRestarting 5 = false → ∃ t, exec .sensorRecord s = .next t ∧ t.tel.seqs.getD 0x15 0 = (s.tel.seqs.getD 0x15 0 + 1) % 4294967296 ∧
      t.tel.lost = s.tel.lost ∧ ((s.pwr.state = .p2 ∨ s.pwr.state = .p3) → t.tel.kept.length = s.tel.kept.length + 1 ∧ t.tel.ring = s.tel.ring) ∧
      (s.pwr.state ≠ .p2 → s.pwr.state ≠ .p3 → s.tel.cursor < t.tel.cursor ∧ t.tel.kept = s.tel.kept) ∧ OnlyChanges [.tel] s t) ∧
    (s.coreRestarting 5 = true → ∃ t, exec .sensorRecord s = .next t ∧ t.tel.lost = satInc s.tel.lost ∧ t.tel.gaps.contains 0x15 = true ∧
      t.tel.ring = s.tel.ring ∧ t.tel.kept = s.tel.kept ∧ OnlyChanges [.tel] s t) ∧
    (s.coreRestarting 5 = true → exec (.paceControlTick n) s = .next s) ∧
    (s.coreRestarting 5 = false → ∃ t, exec (.paceControlTick n) s = .next t ∧ OnlyChanges [.sup] s t ∧ t.sup.inhibit = s.sup.inhibit ∧
      (∀ i r, isCoreRail i = true → s.sup.rails.find? i = some r → r.on = true → ∃ q, t.sup.rails.find? i = some q ∧
        (1180000 < n → q.cmdMv = max 720 (r.cmdMv - 5)) ∧ (1100000 ≤ n → n ≤ 1180000 → q.cmdMv = r.cmdMv) ∧
        (n < 1100000 → q.cmdMv = max r.cmdMv (min (min s.pwr.paceMv s.sup.vcoreMax) (r.cmdMv + 5)))) ∧
      (∀ i, isCoreRail i = false → t.sup.rails.find? i = s.sup.rails.find? i))

/-- R541, R543 to R546: the oldest report on its way becomes the newest entry of the fault log, with the next sequence of its source; the log keeps the last 2,048 and counts all. -/
def Obligations.FaultLogEntries : Prop :=
  ∀ (s : State),
    (s.log.reports = [] → exec .faultEntry s = .next s) ∧
    (∀ r rest, s.log.reports = r :: rest → s.boot.supervisor = true → s.coreRestarting 0 = false →
      ∃ t, exec .faultEntry s = .next t ∧ t.log.count = s.log.count + 1 ∧
        t.log.entries = (s.log.entries ++ [s.nextRecord r.typ r.source r.payload]).drop (s.log.entries.length + 1 - 2048) ∧
        (s.log.entries.length ≤ s.log.count → t.log.entries.length ≤ t.log.count) ∧ t.log.entries.length ≤ max 2048 s.log.entries.length ∧
        (∃ more, t.log.reports = rest ++ more) ∧ (2 ≤ r.severity → bitOf t.pwr.alertLatch 1 = true) ∧
        OnlyChanges ([.fl, .sup] ++ entryParts) s t) ∧
    (∀ r rest, s.log.reports = r :: rest → s.coreRestarting 0 = true → exec .faultEntry s = .next s)

/-! ## The services of the Gaffer kernel (spec/17, spec/18) -/

/-- R469, R470, R498, R499: the kernel calls of an open-core program. Each returns its status in g1 and its results in g2 and g3, keeps every other register and goes on at the next instruction in user mode; TALLY_READ, TIMER_SET, WAIT, COPY, PKT_RECV, PKT_SEND, PKT_REINJECT, SA_INSTALL, SA_REMOVE, LOG and EXIT have their effect on the state `v` the call returns from. A fault of the program is logged, latched and stops it. -/
def Obligations.KernelServices : Prop :=
  ∀ (s : State) (c : Nat),
    let k := s.core c
    let g := k.arg
    let on := fun (n : Nat) => s.atKcall c n = true
    let ret := fun (v : State) (st a b : Nat) => v.modCore c fun k => k.kernelReturn st a b
    let tenant := s.boundTenant c
    let slot := k.peek (g 2) 32
    let len := fieldAt slot 0 2
    let body := k.peek (g 2 + 32) len
    (∀ (k : Core) (st a b : Nat), let r := k.kernelReturn st a b
      r.reg 1 = BitVec.ofNat 32 st ∧ r.reg 2 = BitVec.ofNat 32 a ∧ r.reg 3 = BitVec.ofNat 32 b ∧ (∀ n, n = 0 ∨ 3 < n → r.reg n = k.reg n) ∧
        r.pc = k.pc + 4#32 ∧ r.user = true ∧ r.ie = k.ie ∧ r.sram = k.sram) ∧
    (on 0x01 → exec (.tallyRead c) s = .next (ret s 0 (s.tally (0x10 + c) % 4294967296) (s.tally (0x10 + c) / 4294967296))) ∧
    (on 0x02 → exec (.timerSet c) s = .next (ret (s.modCore c fun k => { k with alarm := if g 2 = 0 then none else some (g 2), alarmPend := false }) 0 (g 2) (g 3))) ∧
    (∀ due, on 0x03 → g 2 < 32 → (s.fifo (fifoBase c + g 2)).ready = true → exec (.wait c due) s = .next (ret s 0 0 (g 3))) ∧
    (∀ due, on 0x03 → 32 ≤ g 2 → g 2 < 4294967295 → exec (.wait c due) s = .next (ret s 0x10 (g 2) (g 3))) ∧
    (∀ due, on 0x03 → g 2 = 4294967295 → k.alarmPend = true →
      exec (.wait c due) s = .next (ret (s.modCore c fun k => { k with alarm := none, alarmPend := false }) 0 1 (g 3))) ∧
    (∀ bs v, on 0x10 → k.copying = [] → g 6 ≠ 0 → (g 4 + g 5 * 4294967296 + g 6 ≤ g 2 + g 3 * 4294967296 ∨ g 2 + g 3 * 4294967296 + g 6 ≤ g 4 + g 5 * 4294967296) →
      s.readC (.unit (0x100 + c)) tenant (g 2 + g 3 * 4294967296) (g 6) = .data bs →
      (s.dropArrived (.unit (0x100 + c))).writeC tenant (g 4 + g 5 * 4294967296) bs = .ok (v, []) →
      exec (.kernelCopy c) s = .next (ret v 0 (g 2) (g 3))) ∧
    (on 0x10 → k.copying = [] → g 6 = 0 → exec (.kernelCopy c) s = .next (ret s 0x10 (g 2) (g 3))) ∧
    (on 0x20 → s.mrv.slowQ.getD c [] = [] → exec (.pktRecv c) s = .next (ret s 0 0 (g 3))) ∧
    (∀ p r, on 0x20 → s.mrv.slowQ.getD c [] = p :: r → (slotHeader p ++ p.bytes).length ≤ g 3 → k.buffer true (g 2) (g 3) = true →
      ∃ v, exec (.pktRecv c) s = .next (ret v 0 (slotHeader p ++ p.bytes).length (g 3)) ∧ v.mrv.slowQ.getD c [] = r ∧
        (v.core c).peek (g 2) (slotHeader p ++ p.bytes).length = slotHeader p ++ p.bytes ∧ OnlyChanges [.mrv, .gaf] s v) ∧
    (∀ v, on 0x21 → k.buffer false (g 2) 32 = true → k.buffer false (g 2) (32 + len) = true →
      s.offer (g 3) { (slotFrame tenant slot body) with ofRing := false } = (v, .placed) →
      exec (.pktSend c) s = .next (ret v 0 (g 2) (g 3))) ∧
    (on 0x22 → k.buffer false (g 2) 32 = true → k.buffer false (g 2) (32 + len) = true → fieldAt slot 2 1 < s.netPorts → fieldAt slot 3 1 < 8 →
      exec (.pktReinject c) s = .next (ret (s.reinject (fieldAt slot 2 1) (fieldAt slot 3 1) body) 0 (g 2) (g 3))) ∧
    (∀ v i, on 0x30 → k.buffer false (g 2) 64 = true → s.installSa tenant (k.peek (g 2) 64) = (v, .ok i) →
      exec (.kernelSaInstall c) s = .next (ret v 0 i (g 3))) ∧
    (∀ v, on 0x31 → s.removeSa tenant (g 2) = (v, 0) → exec (.kernelSaRemove c) s = .next (ret v 0 (g 2) (g 3))) ∧
    (on 0x40 → 0 < g 3 → g 3 ≤ 64 → k.buffer false (g 2) (g 3) = true →
      ∃ v, exec (.log c) s = .next (ret v 0 (g 2) (g 3)) ∧ v.tel.seqs.getD (0x10 + c) 0 = (s.tel.seqs.getD (0x10 + c) 0 + 1) % 4294967296 ∧
        OnlyChanges [.tel] s v) ∧
    (on 0x50 → s.prof 0xC 0 7 1 ≠ 1 → ∃ t, exec (.exit c) s = .next t ∧ (t.core c).program = false ∧ (t.core c).alarm = none ∧
      t.log = s.log ∧ (∀ m, m ≠ c → t.core m = s.core m) ∧ OnlyChanges [.gaf, .tel] s t) ∧
    ((c = 6 ∨ c = 7) → k.program = true → k.live = true → k.user = false → bitOf k.psr 2 = true → 1 ≤ k.ecause.toNat → k.ecause.toNat ≤ 7 →
      s.prof 0xC 0 7 1 ≠ 1 → ∃ t, exec (.programFault c) s = .next t ∧ (t.core c).program = false ∧ bitOf t.gaf.events (c + 2) = true ∧
        t.log.reports.length = s.log.reports.length + 1 ∧ (∀ m, m ≠ c → t.core m = s.core m) ∧ OnlyChanges [.gaf, .log] s t)

/-! ## SERVICE commands and registers (spec/04, spec/09, spec/02, spec/21, spec/17) -/

/-- R57, R111, R112, R114, R267, R268: queries write their block to dst; a tenant setting becomes the governing one; PANE_MAP charges and maps the unmapped panes of its range or answers 0x13, PANE_UNMAP leaves no pane of its range mapped and every other one as it was; a staged profile that passes goes to the inactive slot and becomes the pending one, a refused one leaves the directory alone. -/
def Obligations.ServiceSettings : Prop :=
  ∀ (s : State) (r : CmdRef) (c : Cmd),
    let flash : List StatePart := [.boot, .fl, .sup] ++ recordParts
    (∀ v h, Started s r 5 0x01 [(0x10, 8)] c → s.writeC r.fn (c.fld 0x10 8) (s.capability r.fn) = .ok (v, h) →
      exec (.queryDevice r) s = .next (v.finishSeen r h 0 0 0)) ∧
    (∀ e, Started s r 5 0x01 [(0x10, 8)] c → s.writeC r.fn (c.fld 0x10 8) (s.capability r.fn) = .error e → e ≠ 0x30 →
      exec (.queryDevice r) s = .next (s.failAt r e (detailAt e 0x10 (c.fld 0x10 8)))) ∧
    (∀ b v h, Started s r 5 0x02 [(0x10, 8), (0x18, 1), (0x19, 1), (0x1C, 4), (0x20, 4)] c → s.placementBlock r.fn c = .ok b →
      s.writeC r.fn (c.fld 0x10 8) (b.take (c.fld 0x20 4)) = .ok (v, h) →
      exec (.placementQuery r) s = .next (v.finishSeen r h 0 (min (c.fld 0x20 4) b.length) 0)) ∧
    (tenantOf r.fn ≠ 0 → c.byte 0x18 ≠ 2 → Started s r 5 0x02 [(0x10, 8), (0x18, 1), (0x19, 1), (0x1C, 4), (0x20, 4)] c →
      exec (.placementQuery r) s = .next (s.failAt r 0x12 0)) ∧
    (Started s r 5 0x10 [(0x10, 1), (0x11, 1), (0x12, 2), (0x18, 8)] c → s.settingGoesOn r = false → s.tenantSetBad c = none → c.byte 0x11 ≠ 2 →
      ∃ t, exec (.tenantSet r) s = .next t ∧ OnlyChanges (.ddt :: flash) s t ∧
        ∃ x ∈ t.boot.settings, x.tenant = c.byte 0x10 ∧ x.setting = c.byte 0x11 ∧ x.index = c.fld 0x12 2 ∧ x.value = c.fld 0x18 8) ∧
    (∀ e, Started s r 5 0x10 [(0x10, 1), (0x11, 1), (0x12, 2), (0x18, 8)] c → s.settingGoesOn r = false → s.tenantSetBad c = some e →
      exec (.tenantSet r) s = .next (s.failAt r e.1 e.2)) ∧
    (∀ n off k, Started s r 5 0x13 [(0x10, 1), (0x18, 8), (0x20, 8)] c → s.paneArgs r.fn c = .ok (n, off, k) →
      let new := (k - (s.fab.mappedIn n off k).length) * 65536
      (s.fitsQuota n new = false → exec (.paneMap r) s = .next (s.finish r 0x13 0 0)) ∧
      (∀ v, s.fitsQuota n new = true → new ≤ s.fab.freeCount * 65536 → State.mapPanes n n false false off 0 k s = some v →
        exec (.paneMap r) s = .next (v.finish r 0 new 0) ∧ (∀ x, off ≤ x → x < off + k * 65536 → (v.fab.pane? n x).isSome = true) ∧
          (∀ x, x < off ∨ off + k * 65536 ≤ x → v.fab.pane? n x = s.fab.pane? n x) ∧ OnlyChanges [.fab, .freeCtr] s v)) ∧
    (∀ n off k, Started s r 5 0x14 [(0x10, 1), (0x18, 8), (0x20, 8)] c → s.paneArgs r.fn c = .ok (n, off, k) →
      (s.fab.mappedIn n off k).any (·.forJob) = false → s.fab.noneHeld = true →
      ∃ v, exec (.paneUnmap r) s = .next (v.finish r 0 ((s.fab.mappedIn n off k).length * 65536) 0) ∧
        (∀ x, off ≤ x → x < off + k * 65536 → v.fab.pane? n x = none) ∧
        (∀ x, x < off ∨ off + k * 65536 ≤ x → v.fab.pane? n x = s.fab.pane? n x) ∧ v.fab.hbm = s.fab.hbm ∧ OnlyChanges [.fab] s v) ∧
    (∀ p, Started s r 5 0x42 [(0x10, 8), (0x18, 4)] c → c.accepted = false → 0 < c.fld 0x18 4 → c.fld 0x18 4 ≤ 0x400000 →
      s.readC r.owner r.fn (c.fld 0x10 8) (c.fld 0x18 4) = .data p → s.boot.unowned = false → Profile.total p = c.fld 0x18 4 →
      let st := Profile.refusal (s.profEnv s.boot.version s.con.fnContract) p
      (st = 0 → Profile.generation s.boot.profile < Profile.generation p → ∃ t, exec (.profileStage r) s = .next t ∧
        t.boot.dir.pendingProfile = 1 - s.boot.dir.activeProfile % 2 ∧ t.boot.dir.activeProfile = s.boot.dir.activeProfile ∧
        t.boot.profile = s.boot.profile ∧ OnlyChanges flash s t) ∧
      (st ≠ 0 → ∃ v, exec (.profileStage r) s = .next (v.finish r st 0 0) ∧ v.boot = s.boot ∧
        v.log.count = s.log.count + 1 ∧ OnlyChanges ([.fl, .sup] ++ entryParts) s v))

/-- R62, R114, R370, R548, R549: RESTART with its magic value starts the orderly phase, and without it fails; DIAG_READ answers a register, the fault log and the telemetry ring, and one that waits stays until an entry comes; SA_INSTALL and SA_REMOVE act on the function's own tenant. -/
def Obligations.ServiceDiagnostics : Prop :=
  ∀ (s : State) (r : CmdRef) (c : Cmd),
    let diag : List (Nat × Nat) := [(0x10, 1), (0x11, 1), (0x12, 2), (0x14, 4), (0x18, 8), (0x20, 8), (0x28, 4)]
    (Started s r 5 0x5F [(0x10, 4)] c → c.fld 0x10 4 ≠ 0x52455354 → exec (.restart r) s = .next (s.failAt r 0x10 0x10)) ∧
    (Started s r 5 0x5F [(0x10, 4)] c → c.fld 0x10 4 = 0x52455354 → s.boot.supervisor = true → s.pwr.state = .p0 → s.coreRestarting 0 = false →
      ∃ t, exec (.restart r) s = .next t ∧ t.boot.orderly = true ∧ t.boot.trigger = 2 ∧ t.pwr = s.pwr) ∧
    (∀ x v h, Started s r 5 0x50 diag c → c.byte 0x10 = 1 → c.byte 0x11 = 0 → c.fld 0x18 8 % 8 = 0 → c.fld 0x14 4 % 4 = 0 → c.fld 0x12 2 ≠ 0x0A → c.fld 0x12 2 ≠ 0x01 →
      (c.fld 0x12 2 = 4 → c.fld 0x14 4 ≠ 0x24) →
      s.regRead (c.fld 0x12 2) (c.fld 0x14 4) = some x → s.writeC r.fn (c.fld 0x18 8) (natLe x 4) = .ok (v, h) →
      exec (.diagRead r) s = .next (v.finishSeen r h 0 x 0)) ∧
    (Started s r 5 0x50 diag c → c.byte 0x10 = 1 → c.byte 0x11 = 0 → c.fld 0x18 8 % 8 = 0 → c.fld 0x14 4 % 4 = 0 →
      s.regRead (c.fld 0x12 2) (c.fld 0x14 4) = none →
      exec (.diagRead r) s = .next (s.failAt r 0x11 (if 0x0E < c.fld 0x12 2 ∨ c.fld 0x12 2 = 0 then 0x12 else 0x14))) ∧
    (∀ f v h, Started s r 5 0x50 diag c → c.byte 0x10 = 1 → c.byte 0x11 = 0 → c.fld 0x18 8 % 8 = 0 → c.fld 0x12 2 = 1 → f < 512 → c.fld 0x14 4 = 0x1008 + 32 * f →
      s.writeC r.fn (c.fld 0x18 8) (natLe ((s.fifo f).pop.1 % 4294967296) 4) = .ok (v, h) →
      exec (.diagRead r) s = .next ((v.modFifo f fun x => x.pop.2).finishSeen r h 0 ((s.fifo f).pop.1 % 4294967296) 0)) ∧
    (Started s r 5 0x50 diag c → c.byte 0x10 = 2 → c.byte 0x11 = 1 → c.fld 0x18 8 % 8 = 0 → c.fld 0x28 4 = 64 → c.fld 0x20 8 = s.log.count →
      s.log.waiters.contains r = false → exec (.diagRead r) s = .next { s with log := { s.log with waiters := s.log.waiters ++ [r] } }) ∧
    (∀ e v h, Started s r 5 0x50 diag c → c.byte 0x10 = 2 → c.byte 0x11 = 0 → c.fld 0x18 8 % 8 = 0 → c.fld 0x28 4 = 64 → c.fld 0x20 8 + 1 = s.log.count →
      s.log.entries.length ≤ s.log.count → s.log.entries.getLast? = some e → s.writeC r.fn (c.fld 0x18 8) e = .ok (v, h) →
      exec (.diagRead r) s = .next (v.finishSeen r h 0 64 s.log.count)) ∧
    (Started s r 5 0x50 diag c → c.byte 0x10 = 3 → c.byte 0x11 = 0 → c.fld 0x18 8 % 8 = 0 → c.fld 0x28 4 = 64 → s.tel.cursor < c.fld 0x20 8 →
      exec (.diagRead r) s = .next (s.failAt r 0x10 0x20)) ∧
    (∀ v h, Started s r 5 0x50 diag c → c.byte 0x10 = 3 → c.byte 0x11 = 0 → c.fld 0x18 8 % 8 = 0 → c.fld 0x28 4 = 64 → s.tel.oldest ≤ c.fld 0x20 8 →
      c.fld 0x20 8 ≤ s.tel.cursor →
      let b := (s.tel.readFrom (c.fld 0x20 8) 64).1.flatMap (·.bytes)
      s.writeC r.fn (c.fld 0x18 8) b = .ok (v, h) →
      exec (.diagRead r) s = .next (v.finishSeen r h 0 b.length (s.tel.readFrom (c.fld 0x20 8) 64).2)) ∧
    (∀ n b v i, Started s r 5 0x22 [(0x10, 1), (0x18, 8)] c → s.tenantArg r.fn 0x10 c = .ok n → s.readC r.owner r.fn (c.fld 0x18 8) 64 = .data b →
      s.installSa n b = (v, .ok i) → exec (.saInstall r) s = .next (v.finish r 0 i 0)) ∧
    (∀ n, Started s r 5 0x23 [(0x10, 1), (0x14, 4)] c → s.tenantArg r.fn 0x10 c = .ok n → c.fld 0x14 4 < 131072 →
      let i := c.fld 0x14 4 % 65536
      let table := fun (t : State) => if c.fld 0x14 4 / 65536 % 2 = 1 then t.mrv.saOut else t.mrv.saIn
      ((table s).find? i = none → exec (.saRemove r) s = .next (s.finish r 0x11 0 0)) ∧
      (∀ a, (table s).find? i = some a → a.tenant ≠ n → exec (.saRemove r) s = .next (s.finish r 0x12 0 0)) ∧
      (∀ a, (table s).find? i = some a → a.tenant = n → ∃ v, exec (.saRemove r) s = .next (v.finish r 0 0 0) ∧ (table v).find? i = none ∧
        (∀ j, j ≠ i → (table v).find? j = (table s).find? j) ∧ OnlyChanges [.cru, .mrv] s v)) ∧
    (∀ n, Started s r 5 0x23 [(0x10, 1), (0x14, 4)] c → s.tenantArg r.fn 0x10 c = .error n → exec (.saRemove r) s = .next (s.failAt r n.1 n.2))

/-- R13, R14, R94 to R96, R302, R310, R324, R464, R465, R521: a register write by a core that reaches the block, one the core may not make, and one by the host; the snapshot of every counter; and a core's restart: its cause and count kept, its event latched, one entry for the fault log, and the core running again from its code unless its restart stalls. -/
def Obligations.RegistersAndRestarts : Prop :=
  ∀ (s : State) (c f off recent : Nat) (v : W32) (own : List Nat),
    (s.ioRuns = true → c < 6 → exec (.registerWrite (.core c) 0x04 0x20 (v &&& 0xFF#32)) s = .next { s with fab := { s.fab with domainSel := v &&& 0xFF#32 } }) ∧
    (s.ioRuns = true → c < 6 → exec (.registerWrite (.core c) 0x04 0x04 (v &&& 0x7FFF#32)) s =
      .next { s with fab := { s.fab with linkEvents := s.fab.linkEvents &&& ~~~(v &&& 0x7FFF#32) } }) ∧
    (s.ioRuns = true → c < 8 → c ≠ 0 → c ≠ 5 → ∃ t, exec (.registerWrite (.core c) 0x02 off v) s = .next t ∧
      (t.core c).epc = (s.core c).pc ∧ (t.core c).ecause = 5#32 ∧ (t.core c).eaddr = BitVec.ofNat 32 off ∧ (t.core c).pc = (s.core c).vbase ∧
      (∀ m, m ≠ c → t.core m = s.core m) ∧ OnlyChanges [.gaf] s t) ∧
    (f < 16 → s.fnLive f = true → exec (.registerWrite (.fn f) 0x100 0x100004 (v &&& 0x3F#32)) s =
      .next (s.modHost f fun h => { h with events := h.events &&& ~~~(v &&& 0x3F#32) })) ∧
    (f < 16 → s.fnLive f = true → off % 4 = 0 → off < 0x100000 → exec (.registerWrite (.fn f) 0x100 off v) s = .next s) ∧
    (f < 16 → f ≠ 0 → s.fnLive f = true → off % 4 = 0 → 0x400000 ≤ off → ∃ t, exec (.registerWrite (.fn f) 0x100 off v) s = .next t ∧
      (t.hostFn f).barDrops = satInc (s.hostFn f).barDrops ∧ bitOf (t.hostFn f).events 4 = true ∧ OnlyChanges [.hep] s t) ∧
    (s.coreRestarting 5 = false → ∃ t, exec .counterSnapshot s = .next t ∧ t.tel.seqs.getD 0x15 0 = (s.tel.seqs.getD 0x15 0 + 14) % 4294967296 ∧
      t.tel.lost = s.tel.lost ∧ OnlyChanges [.tel] s t) ∧
    (s.coreRestarting 5 = true → ∃ t, exec .counterSnapshot s = .next t ∧ t.tel.lost = satInc s.tel.lost ∧ t.tel.ring = s.tel.ring ∧ OnlyChanges [.tel] s t) ∧
    (c < 6 → (s.core c).running = true → (s.core c).halted = false → (s.core c).restarting = false →
      let k := s.core c
      (recent = 0 → ∃ t, exec (.watchdogExpiry c 0 recent own) s = .next t ∧ (t.core c).running = true ∧ (t.core c).restarting = false ∧
        (t.core c).pc = 0#32 ∧ (t.core c).g = [] ∧ (c = 5 → (t.core c).restarts = satInc k.restarts ∧ (t.core c).lastCause = 1)) ∧
      (recent < 3 → ∃ t, exec (.machineCheck c 0 recent own) s = .next t ∧ (t.core c).running = true ∧ (t.core c).restarting = false ∧
        (t.core c).pc = 0#32 ∧ (t.core c).g = [] ∧ (c = 5 → (t.core c).restarts = satInc k.restarts ∧ (t.core c).lastCause = 2)) ∧
      (recent < 3 → s.boot.activation = none → ∃ t, exec (.machineCheck c 2 recent own) s = .next t ∧ (t.core c).running = false ∧ (t.core c).restarting = true ∧
        (t.core c).restarts = satInc k.restarts ∧ (t.core c).lastCause = 2 ∧ bitOf t.gaf.events c = true ∧
        t.log.reports.length = s.log.reports.length + 1 ∧ t.boot.trialBroken = true ∧ (∀ m, m ≠ c → t.core m = s.core m) ∧ OnlyChanges [.gaf, .log, .boot] s t))

/-! ## MOVER commands (spec/04 R114) -/

/-- R73, R107, R114: COPY, FILL and WRITE_IMM to a mapped place of device memory write exactly their bytes and complete with the count in result0, every other byte of memory as it was; a bad length, an overlap and a misaligned destination fail with 0x10 at the offending field; COPY_TENSOR of one row moves the row's bytes. -/
def Obligations.MoverCommands : Prop :=
  ∀ (s : State) (r : CmdRef) (c : Cmd),
    let mapped := fun (a n pa : Nat) => 0 < n ∧ a + n ≤ 549755813888 ∧ a % 65536 + n ≤ 65536 ∧ s.fab.translate (tenantOf r.fn) a true = .ok pa ∧
      s.fab.bad = [] ∧ (s.fab.ctrl (stackOf pa)).held.length < 256 ∧ s.fab.armed (paneOf pa) = false
    let wrote := fun (v : State) (pa : Nat) (bs : Bytes) => OnlyChanges [.fab] s v ∧ v.fab.panes = s.fab.panes ∧
      (∀ j < bs.length, some (Mem.readByte 0 v.fab.hbm (pa + j)) = bs[j]?) ∧
      (∀ x, x < pa ∨ pa + bs.length ≤ x → Mem.readByte 0 v.fab.hbm x = Mem.readByte 0 s.fab.hbm x)
    (Started s r 4 0x01 [(0x10, 8), (0x18, 8), (0x20, 8)] c →
      let src := c.fld 0x10 8
      let dst := c.fld 0x18 8
      let n := c.fld 0x20 8
      ((n = 0 ∨ 1099511627776 < n ∨ (src < dst + n ∧ dst < src + n)) → exec (.copy r) s = .next (s.failAt r 0x10 0x20)) ∧
      (∀ pa bs, mapped dst n pa → (dst + n ≤ src ∨ src + n ≤ dst) → s.readC r.owner r.fn src n = .data bs → bs.length = n →
        ∃ v, exec (.copy r) s = .next (v.finish r 0 n 0) ∧ wrote v pa bs)) ∧
    (Started s r 4 0x02 [(0x10, 8), (0x18, 8), (0x20, 8)] c →
      let dst := c.fld 0x10 8
      let n := c.fld 0x18 8
      ((n = 0 ∨ 1099511627776 < n) → exec (.fill r) s = .next (s.failAt r 0x10 0x18)) ∧
      (∀ pa, mapped dst n pa → ∃ v bs, exec (.fill r) s = .next (v.finish r 0 n 0) ∧ wrote v pa bs ∧ bs.length = n ∧
        ∀ j < n, bs[j]? = some (BitVec.ofNat 8 (c.fld 0x20 8 / 2 ^ (8 * (j % 8)))))) ∧
    (Started s r 4 0x04 [(0x10, 8), (0x18, 8)] c →
      let dst := c.fld 0x10 8
      (dst % 8 ≠ 0 → exec (.writeImm r) s = .next (s.failAt r 0x10 0x10)) ∧
      (∀ pa, dst % 8 = 0 → mapped dst 8 pa → ∃ v, exec (.writeImm r) s = .next (v.finish r 0 8 0) ∧ wrote v pa (natLe (c.fld 0x18 8) 8))) ∧
    (Started s r 4 0x03 [(0x10, 8), (0x18, 8)] c →
      ∀ x y, c.fld 0x10 8 < 2305843009213693952 → c.fld 0x18 8 < 2305843009213693952 → s.readC r.owner r.fn (c.fld 0x10 8) 64 = .data x →
        s.readC r.owner r.fn (c.fld 0x18 8) 64 = .data y →
      let a := Desc.parse x
      let b := Desc.parse y
      (a.ok = false → exec (.copyTensor r) s = .next (s.failAt r 0x10 0x10)) ∧
      (a.ok = true → a.sameShape b = false → exec (.copyTensor r) s = .next (s.failAt r 0x10 0x18)) ∧
      (∀ bs v h, a.ok = true → b.ok = true → a.sameShape b = true → a.rows = 1 → a.mx = false →
        s.readC r.owner r.fn (a.rowAt 0).1 (a.rowAt 0).2 = .data bs → s.writeC r.fn (b.rowAt 0).1 bs = .ok (v, h) →
        exec (.copyTensor r) s = .next (v.finishSeen r h 0 (b.rowAt 0).2 0)))

/-! ## Tensor complex (spec/06) -/

/-- R155, R167 to R173: the registry and residency of models. A tenant without tiles gets 0x92; MODEL_REGISTER maps the registry copy and lists the model; MODEL_LOAD of a resident model completes at once and of another one takes its seats; MODEL_EVICT of an idle model drops its residency, and with unregister the model; a finished fetch makes the model resident; a migration moves an idle model's seats; an idle quarter changes owner. -/
def Obligations.ModelResidency : Prop :=
  ∀ (s : State) (r : CmdRef) (c : Cmd),
    let n := tenantOf r.fn
    let id := c.fld 0x10 2
    let tiles := s.quartersOf n ≠ []
    (s.quartersOf n = [] → Started s r 1 0x02 [(0x10, 2), (0x12, 1)] c → exec (.modelLoad r) s = .next (s.finish r 0x92 0 0)) ∧
    (∀ b m f h, tiles → Started s r 1 0x01 [(0x10, 8), (0x18, 4), (0x1C, 2)] c → 64 ≤ c.fld 0x18 4 → c.fld 0x18 4 ≤ 67110976 →
      s.readC r.owner r.fn (c.fld 0x10 8) (c.fld 0x18 4) = .data b → 64 + 32 * imageLayers b + imageWeights b = c.fld 0x18 4 → imageBad b = none →
      s.model? n (c.fld 0x1C 2) = none → (s.ten.models.filter fun m => m.tenant = n).length < s.modelLimit n → s.ten.models.length < 4096 →
      s.fitsQuota n (panesOf (c.fld 0x18 4) * 65536) = true →
      State.mapPanes deviceTable n true false (registryBase n (c.fld 0x1C 2)) 0 (panesOf (c.fld 0x18 4)) s = some m →
      m.fab.writeDev deviceTable (registryBase n (c.fld 0x1C 2)) b = .ok (f, h) →
      ∃ v, exec (.modelRegister r) s = .next (v.finishSeen r h 0 (panesOf (c.fld 0x18 4) * 65536) 0) ∧ v.fab = f ∧
        v.ten.models = s.ten.models ++ [{ tenant := n, id := c.fld 0x1C 2, bytes := c.fld 0x18 4, granules := (imageWeights b + 65535) / 65536, outLen := imageOut b }] ∧
        OnlyChanges [.fab, .ten, .freeCtr] s v) ∧
    (tiles → Started s r 1 0x02 [(0x10, 2), (0x12, 1)] c → s.model? n id = none → exec (.modelLoad r) s = .next (s.finish r 0x91 0 0)) ∧
    (∀ m, tiles → Started s r 1 0x02 [(0x10, 2), (0x12, 1)] c → s.model? n id = some m → c.byte 0x12 = 0 → m.granules ≤ 16 * (s.quartersOf n).length →
      (m.resident = true → ∃ v, exec (.modelLoad r) s = .next (v.finish r 0 0 0) ∧ v.ten = s.ten ∧ OnlyChanges recordParts s v) ∧
      (∀ l, m.resident = false → m.fetching = false → s.seats n m.granules = some l → ∃ t x, exec (.modelLoad r) s = .next t ∧
        t.model? n id = some x ∧ x.seats = l ∧ x.fetching = true ∧ t.ten.quarters = s.ten.quarters ∧ OnlyChanges ([.ten] ++ recordParts) s t)) ∧
    (∀ m, tiles → Started s r 1 0x03 [(0x10, 2), (0x12, 1)] c → s.model? n id = some m → m.evicts = [] → m.fetching = false → s.modelUnits n id = false → s.modelRuns n id = false →
      (∀ x ∈ s.ten.models, x.tenant = n → s.fetchWaiters n x.id = []) →
      (c.byte 0x12 = 0 → ∃ v x, exec (.modelEvict r) s = .next (v.finish r 0 0 0) ∧ v.model? n id = some x ∧ x.seats = [] ∧ x.pinned = false ∧
        OnlyChanges [.ten] s v) ∧
      (c.byte 0x12 = 1 → s.fab.noneHeld = true → ∃ v, exec (.modelEvict r) s = .next (v.finish r 0 0 0) ∧ v.model? n id = none ∧ v.fab.hbm = s.fab.hbm ∧
        OnlyChanges [.ten, .fab] s v)) ∧
    (∀ (t id : Nat) (m : Model), s.model? t id = some m →
      (∀ b, m.fetching = true → m.evicts = [] → (∀ x ∈ s.ten.models, x.tenant = t → s.fetchWaiters t x.id = []) → s.registryImage m = .ok b → ∃ u x, exec (.modelFetchDone t id) s = .next u ∧ u.model? t id = some x ∧
        x.fetching = false ∧ x.bench = b ∧ x.seats = m.seats ∧ OnlyChanges ([.ten] ++ recordParts) s u) ∧
      (m.fetching = false → exec (.modelFetchDone t id) s = .next s) ∧
      (∀ seats, m.resident = true → s.modelUnits t id = false → (seats.map (·.2)).sum = m.granules → Profile.distinct (seats.map (·.1)) = true →
        seats ≠ m.seats → (∀ p ∈ seats, p.1 < 128 ∧ 0 < p.2 ∧ s.granulesIn p.1 - m.inQuarter p.1 + p.2 ≤ 16 ∧ (s.quarter p.1).owner = t ∧
          (s.quarter p.1).moving = none) →
        ∃ u x, exec (.residencyMigration t id seats) s = .next u ∧ u.model? t id = some x ∧ x = { m with seats := seats } ∧
          (u.ten.counts.getD t {}).migrations = satInc (s.ten.counts.getD t {}).migrations ∧ OnlyChanges [.ten] s u)) ∧
    (∀ q o, (s.quarter q).moving = some o → (s.quarter q).work = none → (s.quarter q).helps = none → ∃ t, exec (.quarterReassign q) s = .next t ∧ (t.quarter q).owner = o ∧
      (t.quarter q).moving = none ∧ (t.quarter q).loaded = none ∧ (∀ p, p ≠ q → t.quarter p = s.quarter p))

/-- R153 to R163, R169, R171: a checked run or product waits for its work units; a refused one ends with its status at its operand; a unit starts on a quarter its tenant holds that is free, over rows nothing else has; the last unit of a product writes its rows and completes the command with the elements it wrote, its saturations and its dropped products. -/
def Obligations.TensorRuns : Prop :=
  ∀ (s : State) (r : CmdRef) (c : Cmd),
    let n := tenantOf r.fn
    let mat : List (Nat × Nat) := [(0x10, 8), (0x18, 8), (0x20, 8), (0x28, 8), (0x30, 1), (0x38, 6)]
    let run : List (Nat × Nat) := [(0x10, 2), (0x14, 4), (0x18, 8), (0x20, 8), (0x28, 6), (0x30, 4), (0x34, 4)]
    (s.quartersOf n ≠ [] → c.prog = [] →
      (∀ j, Started s r 1 0x10 mat c → s.matJob r.fn c = .ok j → exec (.matmul r) s = .next (s.setProg r [1, j.d.rows, 0, 0, 0])) ∧
      (∀ j, Started s r 1 0x11 mat c → s.matJob r.fn c = .ok j → exec (.project r) s = .next ((s.keepQ r c j.b).setProg r [1, j.d.rows, 0, 0, 0])) ∧
      (∀ e i, Started s r 1 0x10 mat c → s.matJob r.fn c = .error (e, i) → exec (.matmul r) s = .next ((s.descFault r c e i).failAt r e (matOffset i))) ∧
      (∀ e i, Started s r 1 0x11 mat c → s.matJob r.fn c = .error (e, i) → exec (.project r) s = .next ((s.descFault r c e i).failAt r e (matOffset i))) ∧
      (Started s r 1 0x04 run c → (c.fld 0x14 4 = 0 ∨ 65536 < c.fld 0x14 4) → exec (.modelRun r) s = .next (s.failAt r 0x10 0x14)) ∧
      (∀ m b d, Started s r 1 0x04 run c → 0 < c.fld 0x14 4 → c.fld 0x14 4 ≤ 65536 → c.fld 0x30 4 % 64 = 0 → c.fld 0x34 4 % 64 = 0 →
        s.model? n (c.fld 0x10 2) = some m → m.granules ≤ 16 * (s.quartersOf n).length → m.resident = true → s.registryImage m = .ok b →
        inputHere r c (runRows b c).1 (runRows b c).2.1 (seqFrom 0 (c.fld 0x14 4)) s = .data d →
        exec (.modelRun r) s = .next (s.setProg r [1, c.fld 0x14 4, 0, 0, 0]))) ∧
    (∀ q lo k rows, s.cmd? r = some c → (s.queue r.fn r.q).engine = 1 → c.opcode ≠ 4 → c.prog = [1, rows, 0, 0, 0] → s.mayRun r c q = true → 0 < k →
      lo + k ≤ rows → (∀ p ∈ s.takenRows r c, p.1 + p.2 ≤ lo ∨ lo + k ≤ p.1) → s.turnOf r q = true →
      (∀ x y, 1 ≤ x → 1 ≤ y → x * y ≤ 16 →
        ∃ t, exec (.workUnitGrant r q [] x y lo k) s = .next t ∧ (t.quarter q).work = some { ref := r, lo := lo, n := k, k := x, l := y } ∧
          (∀ p, p ≠ q → t.quarter p = s.quarter p) ∧ OnlyChanges [.con, .ten] s t) ∧
      (∀ p x y, p ≠ q → s.mayRun r c p = true → p / 32 = q / 32 → x ≤ 16 → y ≤ 16 → 2 ≤ x * y → x * y ≤ 32 →
        ∃ t, exec (.workUnitGrant r q [p] x y lo k) s = .next t ∧ (t.quarter q).work = some { ref := r, lo := lo, n := k, k := x, l := y } ∧
          (t.quarter p).helps = some q ∧ (∀ o, o ≠ q → o ≠ p → t.quarter o = s.quarter o) ∧ OnlyChanges [.con, .ten] s t)) ∧
    (∀ q w tile j v es sat drop, (s.quarter q).work = some w → w.model = none → s.cmd? w.ref = some c → c.opcode ≠ 4 → s.ten.models = [] → s.matJob w.ref.fn c = .ok j →
      c.prog = [1, w.n, 0, 0, 1] →
      State.matRows (tenantOf w.ref.fn) j (seqFrom w.lo w.n) [] 0 0 (s.freeGang q) = .ok (v, es, sat, drop) →
      ∃ u h, exec (.workUnitDone q tile 0) s = .next (u.finishSeen w.ref h 0 j.d.elems (satAdd 0 sat + satAdd 0 drop * 4294967296)) ∧ u.fab = v.fab ∧
        (u.quarter q).work = none ∧ u.ten.intSat = satAdd s.ten.intSat sat ∧ u.ten.exactDrop = satAdd s.ten.exactDrop drop ∧
        OnlyChanges [.con, .fab, .ten, .freeCtr, .log] s u)

/-! ## Anneal (spec/07) -/

/-- R181 to R188: the ANNEAL commands. SHARD_DEFINE, BUCKET_DEFINE, RULE_LOAD and GROUP_MAP set up a job and keep what they name; START opens the barrier and waits for the other members' digests, which are kept with the members' certificates, and its timeout ends it with 0x20 and discards a digest that comes after it; SET_CONST keeps its replacement; RETRY runs a held step again from its intake; STOP takes effect at once on a held step; QUERY writes the job's step and state. Each ends with 0x90 in a state that does not allow it. -/
def Obligations.AnnealCommands : Prop :=
  ∀ (s : State) (r : CmdRef) (c : Cmd),
    let a := s.ann
    let shard : List (Nat × Nat) := [(0x10, 8), (0x18, 8), (0x20, 8), (0x28, 8), (0x30, 4), (0x34, 4), (0x38, 4), (0x3C, 1), (0x3D, 1)]
    let bucket : List (Nat × Nat) := [(0x10, 2), (0x12, 1), (0x13, 1), (0x14, 4), (0x18, 8), (0x20, 4), (0x24, 4), (0x28, 8), (0x30, 2)]
    let step := fun (used : List (Nat × Nat)) (action : Nat) =>
      Started s r 2 4 ((0x10, 1) :: used) c ∧ c.byte 0x10 = action ∧ a.start ≠ some r ∧ a.stopping ≠ some r
    (Started s r 2 0x01 shard c → (a.state = .configured ∨ a.state = .running) → exec (.shardDefine r) s = .next (s.finish r 0x90 0 0)) ∧
    (∀ m v h, Started s r 2 0x01 shard c → (a.state = .unconfigured ∨ a.state = .stopped) → 32 ≤ c.fld 0x10 8 → c.fld 0x10 8 ≤ 2 ^ 44 →
      c.fld 0x28 8 % 8 = 0 → c.fld 0x28 8 < 2 ^ 56 → c.fld 0x30 4 < c.fld 0x34 4 → c.fld 0x34 4 ≤ 16384 → 2 ≤ c.byte 0x3C → c.byte 0x3C ≤ 64 →
      20 ≤ c.byte 0x3D → c.byte 0x3D ≤ 31 → c.fld 0x18 8 = 0 →
      (s.defineJob (slice c.bytes 0x10 48)).mapShard = some m → (m.fillMasters []).writeC r.fn (c.fld 0x20 8) (m.fillMasters []).intakeTable = .ok (v, h) →
      exec (.shardDefine r) s = .next (v.finishSeen r h 0 (s.defineJob (slice c.bytes 0x10 48)).myRange.1
        ((s.defineJob (slice c.bytes 0x10 48)).myRange.2 - (s.defineJob (slice c.bytes 0x10 48)).myRange.1)) ∧
      v.ann.state = .configured ∧ v.ann.shard = slice c.bytes 0x10 48 ∧ v.ann.buckets = [] ∧ v.ann.groups = [] ∧ v.mem.joined = false ∧
      v.ann.skips = a.skips) ∧
    (Started s r 2 0x02 bucket c → a.state ≠ .configured → exec (.bucketDefine r) s = .next (s.finish r 0x90 0 0)) ∧
    (Started s r 2 0x02 bucket c → a.state = .configured → a.start = none →
      let b : Bucket := { id := c.fld 0x10 2, body := slice c.bytes 0x10 48 }
      b.projected = false → fmtByteOk b.fmt = true → (b.code = 2 ∨ b.code = 3 ∨ b.mx = true) → c.byte 0x13 < 8 → (b.round = 0 ∨ b.round = 2) →
      b.mask &&& a.mask = b.mask → b.first % 32 = 0 → b.first < a.p → 32 ≤ b.count → b.count ≤ 2 ^ 28 → b.first + b.count ≤ a.p →
      (b.count % 32 = 0 ∨ b.first + b.count = a.p) → b.slotBytes ≤ a.slot →
      (∀ x, a.bucket? b.id = some x → exec (.bucketDefine r) s = .next (s.finish r 0x91 b.id 0)) ∧
      (a.bucket? b.id = none → ∃ v, exec (.bucketDefine r) s = .next (v.finish r 0 0 0) ∧ b ∈ v.ann.buckets ∧ (∀ x ∈ a.buckets, x ∈ v.ann.buckets) ∧
        v.ann.buckets.length = a.buckets.length + 1 ∧ OnlyChanges [.ann] s v)) ∧
    (∀ d, Started s r 2 0x03 [(0x10, 1), (0x12, 2), (0x14, 4), (0x18, 8), (0x20, 8), (0x28, 8)] c → a.state = .configured → a.start = none →
      1 ≤ c.byte 0x10 → c.byte 0x10 ≤ 3 → s.readC r.owner r.fn (c.fld 0x18 8) 64 = .data d →
      ∃ v, exec (.ruleLoad r) s = .next (v.finish r 0 0 0) ∧ v.ann.rule = { code := c.byte 0x10, consts := (seqFrom 0 16).map fun i => fieldAt d (4 * i) 4 } ∧
        v.ann.step = a.step ∧ v.ann.buckets = a.buckets ∧ OnlyChanges [.ann] s v) ∧
    (Started s r 2 0x03 [(0x10, 1), (0x12, 2), (0x14, 4), (0x18, 8), (0x20, 8), (0x28, 8)] c → a.state = .unconfigured →
      exec (.ruleLoad r) s = .next (s.finish r 0x90 0 0)) ∧
    (Started s r 2 0x05 [(0x10, 2), (0x12, 1), (0x13, 1), (0x14, 4), (0x18, 8), (0x20, 8), (0x28, 8), (0x30, 8)] c → a.state = .configured → a.start = none →
      let g : Group := { id := c.fld 0x10 2, fmt := c.byte 0x12, flags := c.byte 0x13, mask := c.fld 0x14 4, first := c.fld 0x18 8, count := c.fld 0x20 8,
                         acc := c.fld 0x28 8, flagOff := c.fld 0x30 8 }
      g.id < 4096 → fmtByteOk g.fmt = true → 2 ≤ g.code → g.code ≤ 8 → g.flags < 3 → g.first % 32 = 0 → g.first < a.p → 32 ≤ g.count →
      g.first + g.count ≤ a.p → g.count % 32 = 0 → g.flagOff % 8 = 0 → a.nextGroups = [] →
      (∀ x ∈ a.groups, x.1 = g.id ∨ x.2.first + x.2.count ≤ g.first ∨ g.first + g.count ≤ x.2.first) →
      ∃ v, exec (.groupMap r) s = .next (v.finish r 0 0 0) ∧ v.ann.groups.find? g.id = some g ∧
        (∀ i, i ≠ g.id → v.ann.groups.find? i = a.groups.find? i) ∧ OnlyChanges [.ann] s v) ∧
    (step [(0x18, 16), (0x28, 8), (0x30, 4), (0x34, 4), (0x38, 6)] 1 → a.state ≠ .configured → exec (.start r) s = .next (s.finish r 0x90 0 0)) ∧
    (∀ h t m q, step [(0x18, 16), (0x28, 8), (0x30, 4), (0x34, 4), (0x38, 6)] 1 → a.state = .configured → a.start = none → a.rule.code ≠ 0 →
      10 ≤ c.fld 0x30 4 → c.fld 0x30 4 ≤ 600000 → 10 ≤ c.fld 0x34 4 → c.fld 0x34 4 ≤ 600000 → s.readC r.owner r.fn (c.fld 0x28 8) 64 = .data h →
      1 ≤ tableN h → tableN h ≤ 16384 → s.readC r.owner r.fn (c.fld 0x28 8) (64 + 64 * tableN h) = .data t → s.startTableOk t = true → a.tiles = none →
      s.mapJob = some m →
      m.makeReplicaSpace.closeJobQps.openJobQps (((seqFrom 0 (tableN t)).filter fun k => k ≠ fieldAt a.shard 0x20 4).map (tableAddr t)) = some q →
      q.ann = a → q.others ≠ [] → a.digests = [] →
      ∃ u, exec (.start r) s = .next u ∧ u.ann.barrier = true ∧ u.ann.start = some r ∧ u.ann.state = .configured ∧ u.ann.table = t ∧
        u.ann.intakeMs = c.fld 0x30 4 ∧ u.ann.exchangeMs = c.fld 0x34 4) ∧
    (∀ rank d ch, a.state = .configured → s.resharding = none → a.lateDigests.contains rank = false → rank < a.members → a.barrier = false →
      exec (.startBarrierDigest rank d ch) s =
      .next { s with ann := { a with digests := a.digests.put rank d }, mem := { s.mem with certs := s.mem.certs ++ [ch] } }) ∧
    (∀ rank d ch, a.state ≠ .configured → s.resharding = none → a.lateDigests.contains rank = false → exec (.startBarrierDigest rank d ch) s = .next s) ∧
    (∀ rank d ch, a.lateDigests.contains rank = true → ∃ t, exec (.startBarrierDigest rank d ch) s = .next t ∧ t.ann.digests = a.digests ∧
      t.ann.lateDigests.contains rank = false ∧ t.mem = s.mem ∧ t.fab.lateDiscard = satInc s.fab.lateDiscard ∧ OnlyChanges [.ann, .fab, .freeCtr] s t) ∧
    (∀ x, a.barrier = true → a.start = some x → s.resharding = none → ∃ v, exec .startBarrierTimeout s = .next (v.finish x 0x20 0 0) ∧ v.ann.barrier = false ∧
      v.ann.start = none ∧ v.ann.state = a.state ∧ v.fab.timeoutWon = satInc s.fab.timeoutWon ∧ OnlyChanges [.ann, .rme, .fab, .freeCtr] s v) ∧
    (a.barrier = false → exec .startBarrierTimeout s = .next s) ∧
    (step [(0x11, 1), (0x14, 4), (0x18, 6)] 2 → a.state = .running → c.byte 0x11 < 16 → a.step < c.fld 0x18 6 →
      ∃ v, exec (.setConst r) s = .next (v.finish r 0 0 0) ∧ (c.byte 0x11, c.fld 0x14 4, c.fld 0x18 6) ∈ v.ann.setConst ∧
        (∀ x ∈ a.setConst, x ∈ v.ann.setConst) ∧ v.ann.rule = a.rule ∧ OnlyChanges [.ann] s v) ∧
    (step [] 3 → (a.state ≠ .running ∨ a.hold = none ∨ a.wrote = true) → exec (.retry r) s = .next (s.finish r 0x90 0 0)) ∧
    (∀ x, step [] 3 → a.state = .running → a.hold = some x → a.wrote = false → s.isRecorder = false → a.buckets ≠ [] →
      (∀ b ∈ a.buckets, contributors b.mask ≠ []) →
      ∃ t, exec (.retry r) s = .next t ∧ t.ann.hold = none ∧ t.ann.phase = .intake ∧ t.ann.step = a.step ∧ t.ann.k = a.k ∧
        (∀ b ∈ t.ann.buckets, b.arrived = [] ∧ b.summed = false ∧ b.combined = false)) ∧
    (step [] 4 → a.state ≠ .running → exec (.stop r) s = .next (s.finish r 0x90 0 0)) ∧
    (step [] 4 → a.state = .running → a.stopping = none → a.hold = none → exec (.stop r) s = .next { s with ann := { a with stopping := some r } }) ∧
    (∀ x, step [] 4 → a.state = .running → a.stopping = none → a.start = none → a.hold = some x →
      ∃ v, exec (.stop r) s = .next (v.finish r 0 0 0) ∧ v.ann.state = .stopped ∧ v.ann.stopping = none ∧ v.ann.step = a.step ∧ OnlyChanges [.ann, .ddt] s v) ∧
    (∀ v h, step [(0x18, 8)] 5 → s.writeC r.fn (c.fld 0x18 8) (natLe a.step 8 ++ natLe a.k 8 ++ natLe a.state.code 1 ++ natLe a.phaseCode 1 ++
        natLe (a.hold.getD 0) 1 ++ zeros 5 ++ natLe a.normSq 4 ++ natLe a.clip 4 ++ zeros 32) = .ok (v, h) →
      exec (.query r) s = .next (v.finishSeen r h 0 0 0))

/-- R180, R189 to R198, R200, R207 to R209: the events of a step. A token in order is kept, one out of sequence holds the step with 0x95, a late one is discarded and counted; a timeout of the intake or of an exchange holds the step with 0x20; messages of members are kept once, late ones counted; an update's first write commits the step's update count, a double-bit error of the staging memory holds the step with 0x30; the last flag moves the counter; ABORT holds the step with its reason, and where nothing is written ABORT goes on to every member. R261, R262: during a re-shard what comes from a member ahead of this one is kept for the step it leads back to. -/
def Obligations.AnnealSteps : Prop :=
  ∀ (s : State) (n imm src reason : Nat) (bs : Bytes),
    let a := s.ann
    let held := fun (t : State) (why : Nat) => t.ann.hold = some why ∧ t.ann.helds = satInc a.helds ∧ bitOf t.ann.events 0 = true ∧ t.ann.step = a.step ∧
      t.ann.wrote = a.wrote
    let runs := a.state = .running ∧ a.hold = none ∧ a.initial = false ∧ a.stopping = none
    let waits := fun (skip : Nat → Nat → Bool) => ∀ x ∈ a.buckets, x.summed = false ∧ ∃ k ∈ contributors x.mask, skip x.id k = false ∧ ∀ y ∈ x.arrived, y.1 ≠ k
    let tok := leNat (bs.take 16)
    let ring := a.rings.getD n {}
    let tokenOf := a.state = .running ∧ a.mask / 2 ^ n % 2 = 1 ∧ tok / 2 ^ 120 % 256 = 0xA5 ∧ tok / 2 ^ 96 % 256 = n
    let inOrder := tok / 2 ^ 64 % 2 ^ 32 = ring.next % 2 ^ 32 ∧ ring.next < ring.credit + a.depth
    let mstep := fieldAt bs 0 6
    let msrc := fieldAt bs 8 4
    (a.state = .running → a.mask / 2 ^ n % 2 = 1 → tok / 2 ^ 120 % 256 ≠ 0xA5 → exec (.intakeToken n bs) s = .next { s with ann := { a with badTokens := satInc a.badTokens } }) ∧
    (tokenOf → runs → tok / 2 ^ 64 % 2 ^ 32 ≠ ring.next % 2 ^ 32 → ∃ t, exec (.intakeToken n bs) s = .next t ∧ held t 0x95 ∧ OnlyChanges [.ann, .ddt, .log, .out] s t) ∧
    (tokenOf → inOrder → tok % 2 ^ 48 < a.step → ∃ t, exec (.intakeToken n bs) s = .next t ∧ t.ann.lateTokens = satInc a.lateTokens ∧
      bitOf t.ann.events 2 = true ∧ t.fab.lateDiscard = satInc s.fab.lateDiscard ∧ t.ann.buckets = a.buckets ∧ (t.ann.rings.getD n {}).next = ring.next + 1 ∧
      (s.mem.fenced = false → t.mem = s.mem) ∧ OnlyChanges [.ann, .apt, .fab, .freeCtr, .mem, .out] s t) ∧
    (∀ b, tokenOf → runs → inOrder → tok % 2 ^ 48 = a.step → a.bucket? (tok / 2 ^ 48 % 65536) = some b → b.timedOut = false → b.mask / 2 ^ n % 2 = 1 →
      (∀ y ∈ b.arrived, y.1 ≠ n) → waits (fun id k => decide (id = b.id ∧ k = n)) →
      ∃ t x, exec (.intakeToken n bs) s = .next t ∧ t.ann.bucket? b.id = some x ∧ x = { b with arrived := b.arrived ++ [(n, ring.next)] } ∧
        t.ann.timer = true ∧ (t.ann.rings.getD n {}).next = ring.next + 1 ∧ OnlyChanges [.ann] s t) ∧
    (runs → a.timer = true → a.phase = .intake → (a.buckets.filter fun b => !b.complete) ≠ [] → ∃ t, exec .intakeTimeout s = .next t ∧ held t 0x20 ∧
      t.log.reports.length = s.log.reports.length + (a.buckets.filter fun b => !b.complete).length + 1 ∧ t.fab.timeoutWon = satInc s.fab.timeoutWon ∧
      OnlyChanges [.ann, .ddt, .fab, .freeCtr, .log, .out] s t) ∧
    (a.timer = false → exec .intakeTimeout s = .next s) ∧
    (∀ b, s.resharding = none → a.bucket? (imm / 65536) = some b → imm % 256 = s.partKind b → msrc < s.jobN → msrc ≠ s.jobRank → (bs.length - 16) % s.partWidth b = 0 →
      (a.live = true → mstep < a.step → ∃ t, exec (.partialMessage imm bs) s = .next t ∧ t.ann.lateParts = satInc a.lateParts ∧
        t.fab.lateDiscard = satInc s.fab.lateDiscard ∧ t.ann.buckets = a.buckets ∧ OnlyChanges [.ann, .fab, .freeCtr] s t) ∧
      (runs → a.phase ≠ .intake → (mstep = a.step ∨ mstep = a.step + 1) → ∃ t x, exec (.partialMessage imm bs) s = .next t ∧ t.ann.bucket? b.id = some x ∧
        x = { b with parts := addPart b.parts ⟨mstep, msrc, fieldAt bs 12 4, bs.drop 16⟩ } ∧ OnlyChanges [.ann] s t)) ∧
    (∀ b, runs → a.bucket? n = some b → b.summed = true → b.combined = false → ∃ t, exec (.exchangeTimeout (some n)) s = .next t ∧ held t 0x20 ∧
      t.fab.timeoutWon = satInc s.fab.timeoutWon ∧ OnlyChanges [.ann, .ddt, .fab, .freeCtr, .log, .out] s t) ∧
    (runs → a.phase = .scalars → ∃ t, exec (.exchangeTimeout none) s = .next t ∧ held t 0x20 ∧
      t.fab.timeoutWon = satInc s.fab.timeoutWon ∧ OnlyChanges [.ann, .ddt, .fab, .freeCtr, .log, .out] s t) ∧
    (runs → s.resharding = none → imm % 256 = 0x10 → msrc < s.jobN → (treeKids 16 s.jobN s.jobRank).contains msrc = true → mstep = a.step + 1 →
      exec (.scalarMessage imm bs) s = .next { s with ann := { a with scalarsNext := a.scalarsNext.put msrc (Scalars.read (bs.drop 16)) } }) ∧
    (a.live = true → s.resharding = none → a.hold = some 0x20 → msrc < s.jobN → ∃ t, exec (.scalarMessage imm bs) s = .next t ∧
      t.ann.lateParts = satInc a.lateParts ∧ OnlyChanges [.ann, .fab, .freeCtr] s t) ∧
    (∀ sram, a.phase ≠ .update → exec (.groupUpdateDone sram) s = .next s) ∧
    (∀ sram, runs → a.phase = .update → a.repair = [] → 2 ≤ sram → ∃ t, exec (.groupUpdateDone sram) s = .next t ∧ held t 0x30 ∧ OnlyChanges [.ann, .ddt, .log, .out] s t) ∧
    (a.phase = .update → a.hold = none → a.repair = [] → a.skip = false → (∀ g ∈ a.groups, g.2.sent = true) → a.restDone = false →
      (∀ bad, s.updateUnit s.restGroups = .error bad → bad ≠ [] → ∃ t, exec (.groupUpdateDone 0) s = .next t ∧ (∀ i ∈ bad, i ∈ t.ann.repair) ∧
        t.ann.phase = .update ∧ OnlyChanges [.ann, .fab, .log] s t) ∧
      (∀ v ws, s.updateUnit s.restGroups = .ok (v, ws) → v.ann.wrote = true ∧ v.ann.k = (if a.wrote then a.k else a.k + 1) ∧
        ((∃ g ∈ v.ann.groups, g.2.ready = false) → exec (.groupUpdateDone 0) s = .next (State.ddtUpdate { v with ann := { v.ann with restDone := true, phase := .writeback } })))) ∧
    (∀ g, s.resharding = none → imm % 256 = 0x20 → msrc < s.jobN → msrc ≠ s.jobRank → a.hold = none → a.live = true → mstep = a.stream → a.groups.find? (imm / 65536) = some g →
      g.sent = false → ∃ t, exec (.gatherMessage imm bs) s = .next t ∧ t.ann.groups.find? (imm / 65536) =
        some { g with parts := addPart g.parts ⟨mstep, msrc, fieldAt bs 12 4, bs.drop 16⟩ } ∧ OnlyChanges [.ann] s t) ∧
    (∀ g, a.groups.find? n = some g → a.live = true → a.hold = none → g.written = true → g.ready = false →
      (a.restDone = false → ∃ t, exec (.weightsReady n) s = .next t ∧ t.ann.groups.find? n = some { g with ready := true } ∧ t.ann.step = a.step ∧
        (s.mem.fenced = false → t.mem = s.mem) ∧ OnlyChanges [.ann, .apt, .mem, .out] s t) ∧
      (a.restDone = true → (∀ x ∈ a.groups, x.1 = n ∨ x.2.ready = true) → a.initial = false → a.state = .running → a.stopping = none → a.abortNext = none →
        s.leh.cur = none → s.isRecorder = false → a.buckets ≠ [] → (∀ b ∈ a.buckets, contributors b.mask ≠ [] ∧ b.early = []) →
        ∃ t, exec (.weightsReady n) s = .next t ∧ t.ann.step = (a.step + 1) % 2 ^ 48 ∧ t.ann.phase = .intake ∧ t.ann.wrote = false ∧ t.ann.k = a.k)) ∧
    (src < s.jobN → src ≠ s.jobRank → s.resharding = none → runs → a.wrote = false → ∃ t, exec (.abort src a.step reason) s = .next t ∧ held t reason ∧
      (∀ k ∈ s.others, s.peerDown k = false → .peer k (immWord 0 a.step 0x30) (msgHead a.step s.jobRank reason) ∈ t.out) ∧ OnlyChanges [.ann, .ddt, .log, .out] s t) ∧
    (src < s.jobN → src ≠ s.jobRank → s.resharding = none → a.live = true → a.wrote = true → exec (.abort src a.step reason) s = .next s) ∧
    (src < s.jobN → src ≠ s.jobRank → s.resharding = none → a.live = true → exec (.abort src (a.step + 1) reason) s =
      .next { s with ann := { a with abortNext := some (a.step + 1, reason) } }) ∧
    (∀ e, src < s.jobN → src ≠ s.jobRank → s.resharding = some e →
      exec (.abort src e reason) s = .next { s with ann := { a with abortNext := some (e, reason) } } ∧
      (∀ x, x ≠ e → exec (.abort src x reason) s = .next s) ∧
      (∀ b, a.bucket? (imm / 65536) = some b → imm % 256 = s.partKind b → msrc < s.jobN → msrc ≠ s.jobRank → (bs.length - 16) % s.partWidth b = 0 →
        mstep = e → ∃ t x, exec (.partialMessage imm bs) s = .next t ∧ t.ann.bucket? b.id = some x ∧
          x = { b with parts := addPart b.parts ⟨mstep, msrc, fieldAt bs 12 4, bs.drop 16⟩ } ∧ OnlyChanges [.ann] s t))

/-! ## Lehr (spec/08) -/

/-- R216 to R221, R231, R232, R239, R240: an epoch's announcement, its acknowledgements, the copy of a pane, its discard, and the CHECKPOINT commands. A recorder that is free announces the timer's epoch two steps ahead; a member takes an announcement up or keeps it, with the TAKEs it attaches, until the epoch before has ended; acknowledgements that come early are kept; a finished copy puts the pane into the parison area and disarms it; DISCARD frees the incoming slots; a member's TAKE is accepted and forwarded to the recorder; a message of a lower membership generation is refused and counted. Here no segment waits for an announcement. -/
def Obligations.LehrEpochs : Prop :=
  ∀ (s : State) (r : CmdRef) (c : Cmd) (gen num step src : Nat) (nonce : Bytes),
    let l := s.leh
    let a := s.ann
    let heard := (s.mem.joined = true → s.mem.gen ≤ gen ∧ s.mem.fenced = false) ∧ l.earlySegs = []
    let stale := Host.Outcome.next { s with mem := { s.mem with staleGens := satInc s.mem.staleGens } }
    (s.mem.joined = true → gen < s.mem.gen → exec (.epochAnnounce gen num step nonce) s = stale ∧ exec (.announceAck gen src num) s = stale ∧
      exec (.discard gen num src) s = stale) ∧
    ((s.isRecorder = false ∨ s.epochTimer = 0) → exec .epochTimerDue s = .next s) ∧
    (s.isRecorder = true → s.epochTimer ≠ 0 → l.cur ≠ none → ∃ t, exec .epochTimerDue s = .next t ∧ t.leh.timerDue = true ∧ t.leh.cur = l.cur ∧
      OnlyChanges [.leh] s t) ∧
    (s.isRecorder = true → s.epochTimer ≠ 0 → l.cur = none → l.fill = none → a.initial = false → a.state = .running →
      s.stepCause = false → ∃ t e, exec .epochTimerDue s = .next t ∧ t.leh.cur = some e ∧ e.num = l.lastEpoch + 1 ∧ e.step = a.step + 2 ∧ e.state = 1 ∧
        t.leh.lastEpoch = l.lastEpoch + 1 ∧ t.leh.timerDue = false ∧ OnlyChanges [.leh, .cru, .out, .freeCtr] s t) ∧
    (heard → (s.mem.joined = false ∨ s.isRecorder = true ∨ num ≤ l.lastEpoch) → exec (.epochAnnounce gen num step nonce) s = .next s) ∧
    (heard → s.mem.joined = true → s.isRecorder = false → l.lastEpoch < num →
      (l.cur ≠ none → exec (.epochAnnounce gen num step nonce) s =
        .next { s with leh := { l with lastEpoch := num, takes := [], takeFlags := 0, nextAnn := some (l.announced num step nonce) } }) ∧
      (l.cur = none → a.state = .running → ∃ t e, exec (.epochAnnounce gen num step nonce) s = .next t ∧ t.leh.cur = some e ∧ e.num = num ∧ e.step = step ∧
        e.nonce = nonce ∧ e.state = 1 ∧ e.takes = l.takes ∧ e.flags = l.takeFlags ∧ t.leh.lastEpoch = num ∧ t.leh.takes = [] ∧ t.leh.takeFlags = 0 ∧
        OnlyChanges [.leh, .out] s t)) ∧
    (heard → l.cur = none → l.lastEpoch < num → exec (.announceAck gen src num) s = .next { s with leh := { l with earlyAcks := l.earlyAcks ++ [(num, src)] } }) ∧
    (heard → l.cur = none → num ≤ l.lastEpoch → exec (.announceAck gen src num) s = .next s) ∧
    (∀ e, heard → l.cur = some e → e.num ≠ num → exec (.announceAck gen src num) s = .next { s with leh := { l with earlyAcks := l.earlyAcks ++ [(num, src)] } }) ∧
    (∀ e, heard → l.cur = some e → e.num = num → (treeKids 16 s.jobN s.jobRank).contains src = true → a.own = none → a.state = .running →
      ∃ t x, exec (.announceAck gen src num) s = .next t ∧ t.leh.cur = some x ∧ x.acks = e.acks ++ [src] ∧ x.num = num ∧ x.state = e.state ∧
        OnlyChanges [.leh, .out] s t) ∧
    (∀ p stall wait sram, l.cur = none → exec (.paneCopyDone p stall wait sram) s = .next s) ∧
    (∀ e p stall wait sram, l.cur = some e → (e.state = 2 ∨ e.state = 3) → s.nextCopy (p / 2 ^ 20) = some p → 2 ≤ sram → s.isRecorder = true → e.pending = none →
      a.state = .running →
      ∃ t, exec (.paneCopyDone p stall wait sram) s = .next t ∧ t.leh.discards = satInc l.discards ∧ t.leh.lastDiscard = w32 (0x30 + e.num % 2 ^ 24 * 256)) ∧
    (∀ e p i j m q stall wait, l.cur = some e → (e.state = 2 ∨ e.state = 3) → s.nextCopy (p / 2 ^ 20) = some p → s.fab.badIn (p * 65536) 65536 = false →
      ((seqFrom 0 e.panes).find? fun i => s.scopePhys i = some p) = some i → lowestFree l.slotsUsed 0 s.parisonPanes = some j →
      s.parisonSlot j = some m → m.fab.pane? 0 (parisonAt j) = some q → s.fab.heldAt p = 0 → (s.fab.ctrl (p / 2 ^ 20)).waiting = [] →
      s.fab.unseen = [] → s.fab.records = [] → s.fab.flags = [] → s.rme.qps = [] → q.phys ≠ p →
      ∃ t x, exec (.paneCopyDone p stall wait 0) s = .next t ∧ t.leh.cur = some x ∧ x = { e with copies := e.copies ++ [(i, j)] } ∧ t.fab.armed p = false ∧
        (∀ b < 65536, Mem.readByte 0 t.fab.hbm (q.phys * 65536 + b) = Mem.readByte 0 m.fab.hbm (p * 65536 + b)) ∧
        (∀ b, b < q.phys * 65536 ∨ (q.phys + 1) * 65536 ≤ b → Mem.readByte 0 t.fab.hbm b = Mem.readByte 0 m.fab.hbm b) ∧
        OnlyChanges [.fab, .leh, .freeCtr] s t) ∧
    (heard → l.cur = none → exec (.discard gen num src) s = .next s) ∧
    (∀ e, heard → l.cur = some e → e.num ≠ num → (∀ x, l.nextAnn = some x → x.num ≠ num) → exec (.discard gen num src) s = .next s) ∧
    (∀ e x, heard → l.cur = some e → e.num ≠ num → l.nextAnn = some x → x.num = num → x.takes = [] → ∃ t, exec (.discard gen num src) s = .next t ∧
      t.leh.nextAnn = none ∧ t.leh.cur = l.cur ∧ t.leh.discards = satInc l.discards ∧ OnlyChanges [.leh] s t) ∧
    (∀ e, heard → l.cur = some e → e.num = num → s.isRecorder = false → e.state < 2 → e.takes = [] → l.nextAnn = none →
      ∃ t, exec (.discard gen num src) s = .next t ∧ t.leh.cur = none ∧ t.leh.discards = satInc l.discards ∧ t.leh.lastDiscard = w32 (src + num % 2 ^ 24 * 256) ∧
        t.leh.slots = (l.slots.map fun x => if x.epoch = num ∧ ¬ x.committed then x.free else x) ∧ bitOf t.leh.events 1 = true ∧ OnlyChanges [.leh] s t) ∧
    (s.isRecorder = false → exec (.take none) s = .next s) ∧
    (Started s r 3 1 [(0x10, 1), (0x12, 2), (0x14, 2), (0x18, 4), (0x1C, 4), (0x20, 1)] c → c.accepted = false → c.byte 0x10 = 1 →
      (4 ≤ c.byte 0x20 → exec (.take (some r)) s = .next (s.failAt r 0x10 0x20)) ∧
      (c.byte 0x20 < 4 → a.state ≠ .running → a.state ≠ .stopped → exec (.take (some r)) s = .next (s.finish r 0x90 0 0)) ∧
      (c.byte 0x20 < 4 → a.state = .running → s.isRecorder = false → ∃ t, exec (.take (some r)) s = .next t ∧ t.leh.takes = l.takes ++ [r] ∧
        t.leh.takeFlags = (l.takeFlags ||| c.byte 0x20) ∧ (s.peerDown s.mem.recorder = false → ∃ o, t.out = o ++ [.peer s.mem.recorder msgTake (natLe s.mem.gen 4)]) ∧
        OnlyChanges ([.leh] ++ recordParts) s t)) ∧
    (∀ v h, Started s r 3 0x04 [(0x10, 8)] c →
      s.writeC r.fn (c.fld 0x10 8) ((l.held[0]?).elim (zeros 16) (fun x => natLe x.num 8 ++ natLe x.step 8) ++
        (l.held[1]?).elim (zeros 16) (fun x => natLe x.num 8 ++ natLe x.step 8) ++ natLe (l.cur.elim 0 Epoch.num) 8 ++ natLe (l.cur.elim 0 Epoch.state) 1 ++
        natLe (l.slotsIn false) 1 ++ natLe (l.slotsIn true) 1 ++ zeros 1 ++ natLe s.segsAcked 4 ++ natLe s.segsOfShard 4 ++
        natLe l.slotsUsed.length 4 ++ zeros 8) = .ok (v, h) →
      exec (.epochQuery r) s = .next (v.finishSeen r h 0 0 0))

/-- R222 to R230: segments, reports and the manifest. The next segment is staged once its copies are whole, its digest kept, and it goes to every buddy and leg; a received segment that passes its checks is stored in its incoming slot, in HBM acknowledged at once, one that fails is counted and refused; acknowledgements are collected, a refused segment goes out again, the fourth refusal is a discard cause; the recorder keeps reports and after its flip sends the signed manifest to the standby with the last one; the standby stores a manifest its certificates vouch for; a remote leg's segments and its end are kept, those of a drive leg come from the drives, a failed leg is abandoned and logged; a segment whose announcement is still to come is kept; a message of a lower membership generation is refused and counted. -/
def Obligations.LehrSegments : Prop :=
  ∀ (s : State) (e : Epoch) (gen src seg kind : Nat) (bs : Bytes),
    let l := s.leh
    let num := e.num
    let heard := s.mem.joined = true → s.mem.gen ≤ gen ∧ s.mem.fenced = false
    let stale := Host.Outcome.next { s with mem := { s.mem with staleGens := satInc s.mem.staleGens } }
    let toPeer := fun (t : State) (r code : Nat) (body : Bytes) => s.peerDown r = false → t.out = s.out ++ [.peer r code (natLe s.mem.gen 4 ++ body)]
    (s.mem.joined = true → gen < s.mem.gen →
      exec (.segmentReceive gen src bs) s = stale ∧ exec (.segmentAck gen src num seg kind) s = stale ∧ exec (.segmentRefused gen src num seg) s = stale ∧
      exec (.manifestStore gen bs) s = stale ∧
      ∀ segments scope first count digest buddies legs, exec (.shardReport gen num src segments scope first count digest buddies legs) s = stale) ∧
    (∀ sram, l.cur = none → exec (.segmentStage sram) s = .next s) ∧
    (heard → l.cur = none → exec (.segmentAck gen src num seg kind) s = .next s ∧ exec (.segmentRefused gen src num seg) s = .next s ∧
      (l.earlySegs = [] → (s.servedRanks.contains src = false ∨ l.early (fieldAt bs 8 8) = false) → exec (.segmentReceive gen src bs) s = .next s)) ∧
    (heard → l.earlySegs = [] → s.servedRanks.contains src = true → l.early (fieldAt bs 8 8) = true →
      exec (.segmentReceive gen src bs) s = .next { s with leh := { l with earlySegs := [(src, bs)] } }) ∧
    (l.cur = some e → (e.state = 2 ∨ e.state = 3) → e.digests.length < segCount e.panes →
      (∀ sram, 2 ≤ sram → exec (.segmentStage sram) s = .next s) ∧
      (s.stageSegment e e.digests.length = .ok none → exec (.segmentStage 0) s = .next s) ∧
      (∀ b g, s.stageSegment e e.digests.length = .ok (some (b, g)) → (∀ x ∈ e.legs, x.kind ≠ 3) → ∃ t, exec (.segmentStage 0) s = .next t ∧
        t.leh.cur = some { e with state := 3, digests := e.digests.put e.digests.length (sha256 b) } ∧
        (e.legs = [] → (∀ x ∈ s.buddies, s.peerDown x = false) → t.out = s.out ++ s.buddies.map fun x => .peer x msgSegment (natLe s.mem.gen 4 ++ g)) ∧
        OnlyChanges [.leh, .out] s t) ∧
      (∀ b g x, s.stageSegment e e.digests.length = .ok (some (b, g)) → e.legs = [x] → x.kind = 3 → l.legs = [] → s.space 0 x.target = none →
        ∃ t y, exec (.segmentStage 0) s = .next t ∧ t.leh.cur = some y ∧ y.legs = [] ∧ y.state = 3 ∧ y.digests = e.digests.put e.digests.length (sha256 b) ∧
          t.log.reports.length = s.log.reports.length + 1)) ∧
    (∀ key, heard → l.earlySegs = [] → l.early num = false → l.cur = some e → num = fieldAt bs 8 8 → s.servedRanks.contains src = true → s.epochKey e.nonce = some key →
      (∀ k x, fieldAt bs 0x10 4 = src → openSegment key bs ≠ none → s.incoming src num = some k → l.slots[k]? = some x → x.onDrive = false →
        ∃ t y, exec (.segmentReceive gen src bs) s = .next t ∧ y ∈ t.leh.slots ∧ y.rank = src ∧ y.epoch = num ∧ y.segs.find? (fieldAt bs 0x14 4) = some bs ∧
          toPeer t src msgSegmentAck (natLe num 8 ++ natLe (fieldAt bs 0x14 4) 4 ++ natLe 1 1) ∧ t.leh.cur = l.cur ∧ OnlyChanges [.leh, .mem, .out] s t) ∧
      ((fieldAt bs 0x10 4 ≠ src ∨ openSegment key bs = none) → s.mem.fails.getD src 0 = 0 →
        ∃ t, exec (.segmentReceive gen src bs) s = .next t ∧ t.leh.integrity = satInc l.integrity ∧ bitOf t.leh.events 4 = true ∧ t.leh.slots = l.slots ∧
          toPeer t src msgSegmentRefused (natLe num 8 ++ natLe (fieldAt bs 0x14 4) 4) ∧ t.mem.fails.getD src 0 = 1 ∧
          OnlyChanges [.leh, .mem, .out] s t)) ∧
    (∀ d, heard → l.cur = some e → e.state = 3 → s.buddies.contains src = true → e.digests.find? seg = some d → e.acked.contains (seg, src) = false →
      (∀ i b, i < segCount e.panes → b ∈ s.buddies → (i, b) ≠ (seg, src) → e.acked.contains (i, b) = false →
        ∃ t x, exec (.segmentAck gen src num seg kind) s = .next t ∧ t.leh.cur = some x ∧ x.acked = e.acked ++ [(seg, src)] ∧
          x.kinds = e.kinds.put src (if kind = 2 then 2 else 1) ∧ x.state = 3 ∧ x.digests = e.digests ∧ OnlyChanges [.leh, .fab] s t) ∧
      (∀ b g, (e.refusals.filter fun x => x = (seg, src)).length < 3 → s.stageSegment e seg = .ok (some (b, g)) →
        ∃ t, exec (.segmentRefused gen src num seg) s = .next t ∧ t.leh.cur = some { e with refusals := e.refusals ++ [(seg, src)] } ∧
          toPeer t src msgSegment g ∧ OnlyChanges [.leh, .out] s t) ∧
      (3 ≤ (e.refusals.filter fun x => x = (seg, src)).length → s.isRecorder = false → s.fab.scope = [] → s.rme.qps = [] → e.takes = [] → l.nextAnn = none →
        ∃ t, exec (.segmentRefused gen src num seg) s = .next t ∧ t.leh.cur = none ∧ t.leh.discards = satInc l.discards ∧
          t.leh.lastDiscard = w32 (0x31 + num % 2 ^ 24 * 256) ∧ bitOf t.leh.events 1 = true ∧
          t.out = s.out ++ [.peer s.mem.recorder msgDiscard (natLe s.mem.gen 4 ++ (natLe num 8 ++ natLe 0x31 1))] ∧ OnlyChanges [.leh, .fab, .out] s t)) ∧
    (∀ rank segments scope first count digest buddies legs, heard → l.cur = some e → s.isRecorder = true → e.pending = none → rank < s.jobN →
      let x : Epoch := { e with reports := e.reports.put rank ⟨segments, scope, first, count, digest, buddies, legs⟩ }
      ((e.state < 2 ∨ ∃ k < tableN e.table, k ≠ rank ∧ e.reports.find? k = none) →
        exec (.shardReport gen num rank segments scope first count digest buddies legs) s = .next { s with leh := { l with cur := some x } }) ∧
      (2 ≤ e.state → (∀ k < tableN e.table, k ≠ rank → e.reports.find? k ≠ none) → ∃ t,
        exec (.shardReport gen num rank segments scope first count digest buddies legs) s = .next t ∧
        t.leh.cur = some { x with pending := some (s.buildManifest x) } ∧ toPeer t s.mem.standby msgManifest (s.buildManifest x) ∧
        OnlyChanges [.leh, .out] s t)) ∧
    (heard → (s.isStandby = false ∨ s.vouched s.mem.certs bs = false) → exec (.manifestStore gen bs) s = .next s) ∧
    (heard → s.isStandby = true → s.vouched s.mem.certs bs = true → (∀ x ∈ l.held, x.num ≠ Manifest.epoch bs) → ∃ t, exec (.manifestStore gen bs) s = .next t ∧
      t.leh.held = ({ num := Manifest.epoch bs, step := Manifest.step bs, manifest := bs } :: l.held).take 3 ∧
      toPeer t s.mem.recorder msgManifestAck (natLe (Manifest.epoch bs) 8) ∧ OnlyChanges [.leh, .ddt, .out] s t) ∧
    (∀ n g, l.cur = none → (l.legs.find? fun g => decide (g.1 = n ∧ g.2.kind = kind)) = some (n, g) →
      (kind = 3 → ∀ i, exec (.onwardLegDone n kind i true) s = .next s) ∧
      (∀ i, kind ≠ 3 → i < g.segs → g.written.contains i = false → ∃ t, exec (.onwardLegDone n kind (some i) true) s = .next t ∧
        (n, { g with written := g.written ++ [i] }) ∈ t.leh.legs ∧ t.leh.legs.length = l.legs.length ∧ OnlyChanges [.leh, .fab] s t) ∧
      (kind ≠ 3 → ∃ t, exec (.onwardLegDone n kind none true) s = .next t ∧ t.leh.legs = (l.legs.filter fun g => ¬ (g.1 = n ∧ g.2.kind = kind)) ∧
        OnlyChanges [.leh, .fab] s t) ∧
      (∀ i, ∃ t, exec (.onwardLegDone n kind i false) s = .next t ∧ t.leh.legs = (l.legs.filter fun g => ¬ (g.1 = n ∧ g.2.kind = kind)) ∧
        t.log.reports.length = s.log.reports.length + 1 ∧ OnlyChanges [.leh, .fab, .log] s t)) ∧
    (∀ g, kind ≠ 3 → l.cur = some e → (e.legs.find? fun (x : Leg) => decide (x.kind = kind)) = some g → ∃ t x, exec (.onwardLegDone num kind none true) s = .next t ∧
      t.leh.cur = some x ∧ x.num = num ∧ { g with written := seqFrom 0 g.segs } ∈ x.legs ∧ OnlyChanges [.leh, .fab] s t)

/-! ## Recovery (spec/08, spec/09) -/

/-- R230, R234 to R239, R258 to R262, R559: the manifest's acknowledgement commits the epoch at the recorder, COMMIT at a member; POLICY keeps its fields after acceptance; RESTORE refuses what its checks refuse, the signer's among them, and otherwise asks one holder for each segment; an answer of another holder is late, a checked one is kept, a bad one is counted and the next holder asked; a timeout asks the next holder, and with none left the command fails; PANE_REPAIR writes the parison copy back; RESHARD is forwarded to the recorder; RESHARD_COMPLETE compares the digests of the members; a message of a lower membership generation is refused and counted. -/
def Obligations.Recovery : Prop :=
  ∀ (s : State) (r : CmdRef) (c : Cmd) (gen : Nat),
    let l := s.leh
    let a := s.ann
    let heard := s.mem.joined = true → s.mem.gen ≤ gen ∧ s.mem.fenced = false
    let stale := Host.Outcome.next { s with mem := { s.mem with staleGens := satInc s.mem.staleGens } }
    let committed := fun (t : State) (m : Bytes) => t.leh.cur = none ∧ t.leh.commits = satInc l.commits ∧ bitOf t.leh.events 0 = true ∧
      t.leh.held = ({ num := Manifest.epoch m, step := Manifest.step m, manifest := m } :: l.held.filter fun x => x.num ≠ Manifest.epoch m).take 2
    let pullMsg := fun (p : Pull) => natLe p.epoch 8 ++ natLe p.rank 4 ++ natLe (match p.seg with | some i => i + 1 | none => 0) 4
    (∀ epoch m, s.mem.joined = true → gen < s.mem.gen → exec (.manifestAck gen epoch) s = stale ∧ exec (.commit gen m) s = stale) ∧
    (∀ epoch, heard → (l.cur = none ∨ s.isRecorder = false) → exec (.manifestAck gen epoch) s = .next s) ∧
    (∀ e m, heard → l.cur = some e → e.pending = some m → s.isRecorder = true → Manifest.epoch m = e.num → e.takes = [] → s.mem.restore = none → l.takes = [] →
      l.takeDue = false → l.timerDue = false → s.stepCause = false →
      ∃ t, exec (.manifestAck gen e.num) s = .next t ∧ committed t m ∧ OnlyChanges [.leh, .ddt, .fab, .log, .sto, .out] s t) ∧
    (∀ m, s.mem.joined = false → exec (.commit gen m) s = .next s) ∧
    (∀ e m, heard → s.mem.joined = true → l.cur = some e → Manifest.epoch m = e.num → e.takes = [] → s.mem.restore = none → l.nextAnn = none →
      ∃ t, exec (.commit gen m) s = .next t ∧ committed t m ∧ OnlyChanges [.leh, .ddt, .fab, .log, .sto, .out] s t) ∧
    (Started s r 3 1 [(0x10, 1), (0x12, 2), (0x14, 2), (0x18, 4), (0x1C, 4), (0x20, 1)] c → c.accepted = false → c.byte 0x10 = 2 → c.byte 0x20 < 4 →
      let drive := c.fld 0x12 2 ≠ 0 ∨ c.fld 0x18 4 ≠ 0
      let remote := c.fld 0x14 2 ≠ 0 ∨ c.fld 0x1C 4 ≠ 0
      (((drive ∧ s.legNs (c.fld 0x18 4) = false) ∨ (remote ∧ s.target (c.fld 0x1C 4) = none)) →
        exec (.policy r) s = .next ((s.accept r).finish r 0x94 0 0)) ∧
      ((drive → s.legNs (c.fld 0x18 4) = true) → (remote → s.target (c.fld 0x1C 4) ≠ none) →
        ∃ v, exec (.policy r) s = .next (v.finish r 0 0 0) ∧ v.leh.policy = (c.fld 0x12 2, c.fld 0x14 2, c.fld 0x18 4, c.fld 0x1C 4) ∧
          v.con = (s.accept r).con ∧ OnlyChanges ([.leh] ++ recordParts) s v)) ∧
    (∀ chains ok f, Started s r 3 2 [(0x10, 8), (0x18, 8), (0x20, 1)] c → l.fill = some f → f.ref ≠ some r → c.byte 0x20 < 4 → a.state = .configured →
      a.initSrc = 0 → a.start = none → exec (.restore r chains ok) s = .next (s.accept r)) ∧
    (∀ chains ok, Started s r 3 2 [(0x10, 8), (0x18, 8), (0x20, 1)] c → l.fill = none →
      let vouched := fun (m : Bytes) => s.vouched (Config.deviceChain :: chains ++ s.mem.certs) m
      let room := fun (m : Bytes) => (s.accept r).jobSpace < (s.accept r).jobUsed +
        (Manifest.panes m a.rank - ((s.accept r).fab.mappedIn 0 scopeBase (Manifest.panes m a.rank)).length) * paneBytes
      (4 ≤ c.byte 0x20 → exec (.restore r chains ok) s = .next (s.failAt r 0x10 0x20)) ∧
      (c.byte 0x20 < 4 → a.state ≠ .configured → exec (.restore r chains ok) s = .next (s.finish r 0x93 0 0)) ∧
      (c.byte 0x20 < 4 → a.state = .configured → a.initSrc = 0 → a.start = none → c.fld 0x18 8 = 0 →
        (s.heldManifest (c.fld 0x10 8) = none → exec (.restore r chains ok) s = .next ((s.accept r).finish r 0x91 0 0)) ∧
        (∀ m, s.heldManifest (c.fld 0x10 8) = some m → vouched m = false → exec (.restore r chains ok) s = .next ((s.accept r).finish r 0x32 0 0)) ∧
        (∀ m, s.heldManifest (c.fld 0x10 8) = some m → vouched m = true → s.sameLayout m = false →
          exec (.restore r chains ok) s = .next ((s.accept r).finish r 0x93 0 0)) ∧
        (∀ m, s.heldManifest (c.fld 0x10 8) = some m → vouched m = true → s.sameLayout m = true → room m →
          exec (.restore r chains ok) s = .next ((s.accept r).finish r 0x13 0 0)) ∧
        (∀ m v, s.heldManifest (c.fld 0x10 8) = some m → vouched m = true → s.sameLayout m = true → ¬ room m →
          State.mapPanes 0 jobOwner true true scopeBase 0 (Manifest.panes m a.rank) (s.accept r) = some v →
          0 < Manifest.segments m a.rank →
          (∀ x ∈ s.rme.qps, x.2.job = false ∨ x.2.state ≠ 4) →
          (∀ i < Manifest.segments m a.rank, ∃ h rest, s.holdersOf m a.rank i (c.byte 0x20) = h :: rest ∧ Manifest.rankOf m s.tableOwn ≠ some h) →
          ∃ t f, exec (.restore r chains ok) s = .next t ∧ t.leh.fill = some f ∧ f.ref = some r ∧ f.reshard = false ∧ f.epoch = Manifest.epoch m ∧
            f.manifest = m ∧ (∀ i < Manifest.segments m a.rank, ∃ p ∈ t.leh.pulls, p.seg = some i ∧ p.rank = a.rank ∧
              s.holdersOf m a.rank i (c.byte 0x20) = p.holder :: p.rest) ∧ OnlyChanges ([.leh] ++ recordParts) s t))) ∧
    (∀ holder rank seg bs, (s.pullAt rank seg = none ∨ ∃ p, s.pullAt rank seg = some p ∧ p.holder ≠ holder) →
      exec (.segmentPullDone holder rank seg bs) s = .next s.lateDiscarded) ∧
    (∀ rank i bs p q f panes, s.pullAt rank (some i) = some p → bs ≠ [] → p.pane = none → p.seg = some i → l.fill = some f → f.reshard = true →
      goodSegment (s.pullKey p) p ((f.lists.find? p.rank).map fun x => x.getD i []) bs = some panes → q ∈ l.pulls → q.pane = none → q.same p = false →
      ∃ t, exec (.segmentPullDone p.holder rank (some i) bs) s = .next t ∧ t.leh.fill = some { f with image := f.image ++ [(p.rank, i, panes)] } ∧
        t.leh.pulls = (l.pulls.filter fun x => !(x.same p)) ∧ OnlyChanges [.leh, .mem] s t) ∧
    (∀ rank seg bs p h rest, s.pullAt rank seg = some p → p.pane = none → p.rest = h :: rest → s.ownHolder p ≠ some h → s.holderDown p h = false →
      (bs ≠ [] → (s.supplied p true).takePull p bs = none → (∀ k, s.mem.fails.getD k 0 = 0) → ∃ t q, exec (.segmentPullDone p.holder rank seg bs) s = .next t ∧ t.leh.integrity = satInc l.integrity ∧
        q ∈ t.leh.pulls ∧ q = { p with holder := h, rest := rest, bad := true } ∧ t.out = s.out ++ [.peer h msgPull (pullMsg p)] ∧
        OnlyChanges [.leh, .mem, .out] s t) ∧
      (∃ t q, exec (.pullTimeout rank seg) s = .next t ∧ q ∈ t.leh.pulls ∧ q = { p with holder := h, rest := rest } ∧
        t.out = s.out ++ [.peer h msgPull (pullMsg p)] ∧ t.fab.timeoutWon = satInc s.fab.timeoutWon ∧ OnlyChanges [.fab, .freeCtr, .leh, .out] s t)) ∧
    (∀ rank seg, s.pullAt rank seg = none → exec (.pullTimeout rank seg) s = .next s) ∧
    (∀ rank seg p f x, s.pullAt rank seg = some p → p.pane = none → p.rest = [] → l.fill = some f → f.reshard = false → f.ref = some x →
      ∃ v, exec (.pullTimeout rank seg) s = .next (v.finish x (if p.bad then 0x31 else 0x40) 0 0) ∧ v.leh.fill = none ∧ OnlyChanges [.fab, .freeCtr, .leh] s v) ∧
    (∀ pane, a.repair.contains pane = false → exec (.paneRepair pane) s = .next s) ∧
    (∀ pane e b p, a.repair = [pane] → a.state = .running → a.initial = false → a.wrote = false → (∀ x ∈ l.pulls, x.pane ≠ some pane) → l.cur = some e →
      e.step = a.step → s.parisonPane pane = some (.ok b) → b.length = 65536 → s.scopePhys pane = some p →
      ∃ t, exec (.paneRepair pane) s = .next t ∧ (∀ j < 65536, some (Mem.readByte 0 t.fab.hbm (p * 65536 + j)) = b[j]?) ∧
        (∀ j, j < p * 65536 ∨ (p + 1) * 65536 ≤ j → Mem.readByte 0 t.fab.hbm j = Mem.readByte 0 s.fab.hbm j) ∧
        t.ann.repair = [] ∧ t.ann.hold = a.hold ∧ bitOf t.ann.events 4 = true ∧ t.leh.repaired = satInc l.repaired ∧ OnlyChanges [.fab, .ann, .leh] s t) ∧
    (∀ pane, a.repair.contains pane = true → a.state = .running → a.initial = false → a.hold = none → a.stopping = none →
      (∀ x ∈ l.pulls, x.pane ≠ some pane) → l.cur = none → (∀ x ∈ l.held, x.step ≠ a.step) →
      ∃ t, exec (.paneRepair pane) s = .next t ∧ t.ann.hold = some 0x30 ∧ t.ann.wrote = true ∧ bitOf t.leh.events 6 = true ∧ OnlyChanges [.ann, .leh, .log, .ddt] s t) ∧
    (∀ status epoch flags ex t m x, s.isRecorder = false → status ≠ 0 → l.waiting = some x →
      ∃ v, exec (.reshard none status epoch flags ex t m) s = .next (v.finish x status 0 0) ∧ v.leh = { l with waiting := none } ∧ bitOf v.mem.events 4 = true ∧
        OnlyChanges [.leh, .mem, .log] s v) ∧
    (∀ status epoch flags ex t m, Started s r 3 0x03 [(0x10, 8), (0x18, 8), (0x20, 8), (0x28, 4), (0x2C, 1)] c → l.waiting = none → l.fill = none → a.start ≠ some r →
      (16383 < c.fld 0x28 4 → exec (.reshard (some r) status epoch flags ex t m) s = .next (s.failAt r 0x10 0x28)) ∧
      (c.fld 0x28 4 ≤ 16383 → 4 ≤ c.byte 0x2C → exec (.reshard (some r) status epoch flags ex t m) s = .next (s.failAt r 0x10 0x2C)) ∧
      (c.fld 0x28 4 ≤ 16383 → c.byte 0x2C < 4 → s.mem.joined = false → ∃ v, exec (.reshard (some r) status epoch flags ex t m) s = .next (v.finish r 0x90 0 0) ∧
        bitOf v.mem.events 4 = true ∧ OnlyChanges [.mem, .log] s v) ∧
      (c.fld 0x28 4 ≤ 16383 → c.byte 0x2C < 4 → s.mem.joined = true → s.isRecorder = false → c.fld 0x18 8 = 0 → c.fld 0x20 8 = 0 →
        ∃ u, exec (.reshard (some r) status epoch flags ex t m) s = .next u ∧ u.leh.waiting = some r ∧
          (s.peerDown s.mem.recorder = false → ∃ o, u.out = o ++ [.peer s.mem.recorder msgReshard (natLe s.mem.gen 4 ++
            (natLe (c.fld 0x10 8) 8 ++ natLe (c.byte 0x2C) 1 ++ natLe 0 4))]) ∧ OnlyChanges ([.leh] ++ recordParts) s u)) ∧
    (∀ ds us, l.fill = none → exec (.reshardComplete ds us) s = .next s) ∧
    (∀ ds us f x, l.fill = some f → f.reshard = true → f.written = true → f.ref = some x →
      (∀ k ∈ s.others, (List.find? (fun (d : Nat × Bytes × Bytes) => d.1 = k) ds).isSome = true) →
      let d := s.startDigest (Manifest.seed f.manifest) f.table
      let same := fun (k : Nat) => (List.find? (fun (d : Nat × Bytes × Bytes) => d.1 = k) ds).any fun y => y.2.1 = d
      ((∃ k ∈ s.others, same k = false) →
        ∃ v, exec (.reshardComplete ds us) s = .next (v.finish x 0x92 0 0) ∧ v.leh.fill = none ∧ bitOf v.mem.events 4 = true ∧
          OnlyChanges [.leh, .mem, .ann, .log, .out] s v) ∧
      (∀ q, (∀ k ∈ s.others, same k = true) →
        s.closeJobQps.openJobQps (s.others.map (tableAddr f.table)) = some q →
        ∃ u, exec (.reshardComplete ds us) s = .next u ∧ u.leh.fill = none ∧ u.mem.reshards = satInc s.mem.reshards ∧
          u.mem.lastRecoveryUs = min us 4294967295 ∧ u.mem.joined = true ∧ u.mem.table = f.table))

/-! ## The job's membership (spec/09) -/

/-- R248 to R258, R287, R416, R417: heartbeats go to the watch set; messages of a lower generation are refused and counted, one of the present or a later generation ends the fence and lets its writes out; a suspicion is raised once, reported and cleared, and after its lapse not raised again before a heartbeat; a confirmer probes what is reported to it; a reply clears the suspicion, its absence confirms the loss; a declared loss makes the next generation, holds the step and shrinks the table; a member that fences itself holds the step; a job message that is not acknowledged goes out again. -/
def Obligations.Membership : Prop :=
  ∀ (s : State) (n gen : Nat),
    let m := s.mem
    let a := s.ann
    let stale := Host.Outcome.next { s with mem := { m with staleGens := satInc m.staleGens } }
    let inTable := m.joined = true ∧ n < tableN m.table
    let heard := m.joined = true → m.gen ≤ gen ∧ m.fenced = false
    let clear := m.fenced = false ∨ (m.stalled = [] ∧ s.fab.unseen = [] ∧ s.fab.records = [] ∧ s.fab.flags = [])
    let runs := a.state = .running ∧ a.hold = none ∧ a.initial = false ∧ a.stopping = none
    let quiet := tableOk m.table = true ∧ s.leh.cur = none ∧ s.leh.nextAnn = none ∧ s.leh.fill = none ∧ s.leh.pulls = [] ∧ s.rme.qps = [] ∧ s.prof 5 0 3 0 = 1 ∧
      a.stopping = none ∧ a.initial = false ∧ clear
    let declared := fun (t : State) (g : Nat) => t.mem.gen = g ∧ t.mem.lostCount = satAdd m.lostCount 1 ∧ tableN t.mem.table + 1 = tableN m.table ∧
      t.mem.rank = newRank [n] m.rank ∧ t.mem.joined = true ∧ bitOf t.mem.events 2 = true ∧ (runs → t.ann.hold = some 0x40) ∧ t.ann.step = a.step
    (m.joined = false → exec .heartbeatSend s = .next s) ∧
    (m.joined = true → ∃ t, exec .heartbeatSend s = .next t ∧ t.mem = { m with seq := (m.seq + 1) % 256 } ∧
      ((∀ k ∈ s.watchOf m.rank, s.peerDown k = false) → t.out.length = s.out.length + (s.watchOf m.rank).length) ∧ OnlyChanges [.mem, .out] s t) ∧
    (m.joined = true → gen < m.gen → exec (.heartbeat n gen) s = stale ∧ exec (.probe n gen) s = stale ∧ exec (.probeReply gen n) s = stale ∧
      exec (.withdraw n gen) s = stale ∧ ∀ w recent relay, exec (.suspectReport gen n w recent relay) s = stale) ∧
    (heard → ¬ inTable → exec (.heartbeat n gen) s = .next s ∧ exec (.probe n gen) s = .next s) ∧
    (inTable → m.gen ≤ gen → s.suspectOf n = false → clear → exec (.heartbeat n gen) s =
      .next { s with mem := { m with fenced := false, lapsed := m.lapsed.filter (· ≠ n) } }) ∧
    (inTable → m.gen ≤ gen → s.suspectOf n = false → m.fenced = true → ∃ t, exec (.heartbeat n gen) s = .next t ∧ t.mem.fenced = false ∧ t.mem.stalled = [] ∧
      (∀ w ∈ m.stalled, w.1 / 8 = s.sup.straps.cohortId → (s.port (w.1 % 8)).reachable = true → w.2.1 + w.2.2.1.length ≤ (s.port (w.1 % 8)).aperture →
        0 < w.2.2.1.length → w.2.1 % 512 + w.2.2.1.length ≤ 512 → .accelWrite (w.1 % 8) w.2.1 w.2.2.1 (!w.2.2.2) ∈ t.out) ∧
      OnlyChanges ([.mem] ++ recordParts) s t) ∧
    (inTable → m.gen ≤ gen → s.suspectOf n = true → clear → ∃ t, exec (.heartbeat n gen) s = .next t ∧ t.mem.lateHeartbeats = satInc m.lateHeartbeats ∧
      t.mem.suspects = m.suspects ∧ t.fab.lateDiscard = satInc s.fab.lateDiscard ∧ OnlyChanges [.fab, .freeCtr, .mem] s t) ∧
    (inTable → m.gen ≤ gen → clear → s.peerDown n = false → ∃ t o, exec (.probe n gen) s = .next t ∧ t.out = s.out ++ [o] ∧ t.mem = { m with fenced := false } ∧
      OnlyChanges [.mem, .out] s t) ∧
    ((m.joined = false ∨ s.suspectOf n = true ∨ m.lapsed.contains n = true ∨ (s.watchOf m.rank).contains n = false) → exec (.suspicionTimeout n) s = .next s) ∧
    (inTable → s.suspectOf n = false → m.lapsed.contains n = false → (s.watchOf m.rank).contains n = true → ∃ t, exec (.suspicionTimeout n) s = .next t ∧
      t.suspectOf n = true ∧ t.mem.suspectCount = satInc m.suspectCount ∧ bitOf t.mem.events 0 = true ∧ t.fab.timeoutWon = satInc s.fab.timeoutWon ∧
      t.log.reports.length = s.log.reports.length + 1 ∧ OnlyChanges [.fab, .freeCtr, .log, .mem, .out] s t) ∧
    (s.suspectOf n = false → exec (.suspicionLapse n) s = .next s) ∧
    (s.suspectOf n = true → exec (.suspicionLapse n) s =
      .next { s with mem := { m with suspects := m.suspects.filter fun x => x.rank ≠ n, lapsed := m.lapsed ++ [n], unanswered := m.unanswered && decide (n ≠ m.recorder) } }) ∧
    (∀ w recent relay, heard → (¬ inTable ∨ n = m.rank) → exec (.suspectReport gen n w recent relay) s = .next s) ∧
    (∀ w recent, heard → inTable → n ≠ m.rank →
      (s.peerDown n = false → ∃ t, exec (.suspectReport gen n w recent true) s = .next t ∧ t.mem.relays = m.relays ++ [(n, w)] ∧
        t.out.length = s.out.length + 6 ∧ OnlyChanges [.mem, .out] s t) ∧
      (m.cleared.contains n = true → exec (.suspectReport gen n w true false) s = .next s) ∧
      (s.confirms n = false → exec (.suspectReport gen n w recent false) s = .next s) ∧
      (m.rank = m.recorder → (∀ x ∈ m.probing, x.1 ≠ n) → m.confirmed.contains n = false →
        ∃ t, exec (.suspectReport gen n w false false) s = .next t ∧ t.mem.probing = m.probing ++ [(n, w)] ∧ OnlyChanges [.mem, .out] s t)) ∧
    (∀ x, heard → (m.probing.find? fun x => x.1 = n) = some x → ∃ t, exec (.probeReply gen n) s = .next t ∧ t.mem.pathFaults = satInc m.pathFaults ∧
      t.mem.probing = (m.probing.filter fun y => y.1 ≠ n) ∧ t.mem.cleared.contains n = true ∧ bitOf t.mem.events 1 = true ∧
      t.log.reports.length = s.log.reports.length + 1 ∧ OnlyChanges [.log, .mem] s t) ∧
    (∀ x, heard → (∀ x ∈ m.probing, x.1 ≠ n) → (m.relays.find? fun x => x.1 = n) = some x → s.peerDown x.2 = false → ∃ t, exec (.probeReply gen n) s = .next t ∧
      t.mem = { m with relays := m.relays.filter fun y => y.1 ≠ n } ∧ t.out.length = s.out.length + 1 ∧ OnlyChanges [.mem, .out] s t) ∧
    (heard → (∀ x ∈ m.probing, x.1 ≠ n) → (∀ x ∈ m.relays, x.1 ≠ n) →
      (m.confirmed.contains n = true → exec (.probeReply gen n) s = .next s.lateDiscarded) ∧
      (m.confirmed.contains n = false → m.expired.contains n = true → exec (.probeReply gen n) s =
        .next (State.lateDiscarded { s with mem := { m with expired := m.expired.filter (· ≠ n) } })) ∧
      (m.confirmed.contains n = false → m.expired.contains n = false → exec (.probeReply gen n) s = .next s)) ∧
    ((∀ x ∈ m.probing, x.1 ≠ n) → exec (.probeWindowExpiry n) s = .next s) ∧
    (m.joined = true → (∃ x ∈ m.probing, x.1 = n) →
      (m.rank ≠ m.recorder → n ≠ m.recorder → n ≠ m.standby → s.standsIn = false → m.confirmed.contains m.recorder = false → ∃ t, exec (.probeWindowExpiry n) s = .next t ∧
        t.mem.probing = (m.probing.filter fun y => y.1 ≠ n) ∧ (s.peerDown m.recorder = false → t.out.length = s.out.length + 1) ∧
        t.fab.timeoutWon = satInc s.fab.timeoutWon ∧ t.mem.expired.contains n = true ∧ OnlyChanges [.fab, .freeCtr, .mem, .out] s t) ∧
      (quiet → n < tableN m.table → m.rank = m.recorder → n ≠ m.rank → m.confirmed = [] →
        ∃ t, exec (.probeWindowExpiry n) s = .next t ∧ declared t ((m.gen + 1) % 2 ^ 32) ∧ t.fab.timeoutWon = satInc s.fab.timeoutWon ∧
          OnlyChanges [.ann, .apt, .ddt, .fab, .freeCtr, .log, .mem, .out] s t)) ∧
    (∀ epoch root, inTable → gen < m.gen → exec (.lost [n] gen epoch root) s = stale) ∧
    (∀ epoch root, m.joined = false → s.resharding = none → exec (.lost [n] gen epoch root) s = .next s) ∧
    (∀ epoch root, inTable → gen = m.gen → clear → exec (.lost [n] gen epoch root) s = .next { s with mem := { m with fenced := false } }) ∧
    (∀ epoch root, quiet → inTable → m.gen < gen → gen < 2 ^ 32 → n ≠ m.rank → ∃ t, exec (.lost [n] gen epoch root) s = .next t ∧ declared t gen ∧
      OnlyChanges [.ann, .apt, .ddt, .leh, .log, .mem, .out] s t) ∧
    ((m.joined = false ∨ m.fenced = true) → exec .selfFence s = .next s) ∧
    (m.joined = true → m.fenced = false → a.stopping = none → a.initial = false → ∃ t, exec .selfFence s = .next t ∧ t.mem.fenced = true ∧
      bitOf t.mem.events 5 = true ∧ (runs → t.ann.hold = some 0x40) ∧ t.mem.gen = m.gen ∧ OnlyChanges [.ann, .ddt, .log, .mem, .out] s t) ∧
    (heard → (¬ inTable ∨ n = m.rank) → exec (.withdraw n gen) s = .next s) ∧
    (inTable → n ≠ m.rank →
      (heard → m.rank ≠ m.recorder → m.rank ≠ m.standby → exec (.withdraw n gen) s = .next s) ∧
      (quiet → m.gen ≤ gen → m.rank = m.recorder → m.confirmed = [] → ∃ t, exec (.withdraw n gen) s = .next t ∧ declared t ((m.gen + 1) % 2 ^ 32) ∧
        OnlyChanges [.ann, .apt, .ddt, .log, .mem, .out] s t)) ∧
    (∀ q, s.qp? n = some q → (q.state ≠ 3 ∨ q.rnrWait = true) → exec (.ackTimeout n) s = .next s) ∧
    (∀ q p ps, s.qp? n = some q → q.state = 3 → q.rnrWait = false → q.sent = p :: ps → (if q.failPsn = p.psn then q.fails + 1 else 1) ≤ q.retryCnt →
      ∃ t, exec (.ackTimeout n) s = .next t ∧ t.rme.timeouts = satInc s.rme.timeouts ∧ t.rme.retx = satAdd s.rme.retx q.sent.length ∧
        t.rme.tx.length = s.rme.tx.length + q.sent.length ∧ OnlyChanges [.rme] s t) ∧
    ((m.joined = false ∨ n ≠ m.recorder ∨ s.suspectOf n = false) → exec (.reportUnanswered n) s = .next s) ∧
    (m.joined = true → n = m.recorder → s.suspectOf n = true → s.candidate9 = none → exec (.reportUnanswered n) s = .next { s with mem := { m with unanswered := true } }) ∧
    (∀ x, m.joined = true → n = m.recorder → s.suspectOf n = true → s.candidate9 = some x → x ≠ m.rank → s.peerDown x = false →
      ∃ t, exec (.reportUnanswered n) s = .next t ∧ t.mem.suspects = (m.suspects.map fun y => if y.rank = n then { y with confirmer := x } else y) ∧
        t.out.length = s.out.length + 1 ∧ OnlyChanges [.mem, .out] s t)

/-! ## Accelerator ports and cohorts (spec/10) -/

/-- R281 to R285: a slot's power, clock and reset, its indicators, presence, the attention button and a power fault. A control write under the automatic policy is only recorded as an event; in a safe or an unowned start slots stay unpowered (R52). Every other port stays as it is. -/
def Obligations.AccelSlots : Prop :=
  ∀ (s : State) (n : Nat),
    let p := s.port n
    let becomes := fun (o : Host.Outcome State Fault Refusal) (q : Port) (ps : List StatePart) =>
      ∃ t, o = .next t ∧ t.port n = q ∧ (∀ k, k ≠ n → t.port k = s.port k) ∧ OnlyChanges ps s t
    let manual := s.rootPort n = true ∧ bitOf p.ctrl 5 = true
    let auto := s.rootPort n = true ∧ bitOf p.ctrl 5 = false
    let served := s.boot.safe = false ∧ s.boot.unowned = false
    let powered := { p with slot := .powering, pwren := true, pwrLed := 2, ctrl := clrBit p.ctrl 0, pwrFault := false, poweringDown := false }
    let off := fun (q : Port) => q.slot = .off ∧ q.pwren = false ∧ q.perstLow = true ∧ q.refclk = false ∧ q.dl = false ∧ q.aperture = 0 ∧ q.poweringDown = false ∧
      bitOf q.ctrl 0 = true ∧ bitOf q.events 1 = (p.dl || bitOf p.events 1)
    (8 ≤ n → ∀ v, exec (.slotPowerOn n false) s = .next s ∧ exec (.slotPowerOff n) s = .next s ∧
      exec (.attentionIndicatorSet n v) s = .next s ∧ exec (.powerIndicatorSet n v) s = .next s) ∧
    (s.rootPort n = false → exec (.slotPowerOn n true) s = .next s ∧ exec (.attentionButton n) s = .next s ∧ exec (.powerFault n) s = .next s) ∧
    ((auto ∨ (n < 8 ∧ p.cohort = true)) → ∀ v, let q := { p with events := setBit p.events 9 }
      becomes (exec (.slotPowerOn n false) s) q [.apt] ∧ becomes (exec (.slotPowerOff n) s) q [.apt] ∧
      becomes (exec (.attentionIndicatorSet n v) s) q [.apt] ∧ becomes (exec (.powerIndicatorSet n v) s) q [.apt]) ∧
    (manual → served → p.slot = .off → becomes (exec (.slotPowerOn n false) s) powered [.apt, .ddt]) ∧ (manual → p.slot ≠ .off → exec (.slotPowerOn n false) s = .next s) ∧
    (auto → served → p.present = true → s.boot.supervisor = true → p.slot = .off → becomes (exec (.slotPowerOn n true) s) powered [.apt, .ddt]) ∧
    (manual → ¬ served → exec (.slotPowerOn n false) s = .next s) ∧ (¬ served → exec (.slotPowerOn n true) s = .next s) ∧
    (s.rootPort n = true → p.slot = .powering → p.pwren = true → becomes (exec (.slotRefclkStart n) s) { p with refclk := true } [.apt]) ∧
    (p.slot ≠ .powering → exec (.slotRefclkStart n) s = .next s ∧ exec (.slotPerstRelease n) s = .next s) ∧
    (s.rootPort n = true → p.slot = .powering → p.refclk = true → becomes (exec (.slotPerstRelease n) s) { p with perstLow := false } [.apt]) ∧
    (manual → p.slot = .on → p.reads ≠ [] →
      becomes (exec (.slotPowerOff n) s) { p with poweringDown := true, busy := true, pwrLed := 2, ctrl := setBit p.ctrl 0 } [.apt]) ∧
    (manual → p.slot = .on → p.reads = [] → ∃ t, exec (.slotPowerOff n) s = .next t ∧ off (t.port n) ∧ OnlyChanges [.apt, .ddt] s t) ∧
    (manual → p.slot = .off → exec (.slotPowerOff n) s = .next s) ∧
    (manual → p.slot = .fault → ∃ t, exec (.slotPowerOff n) s = .next t ∧ off (t.port n) ∧ (t.port n).pwrFault = false ∧ OnlyChanges [.apt, .ddt] s t) ∧
    (manual → ∀ v, (v % 4 = 0 → exec (.attentionIndicatorSet n v) s = .next s ∧ exec (.powerIndicatorSet n v) s = .next s) ∧
      (v % 4 ≠ 0 →
        (∃ t, exec (.attentionIndicatorSet n v) s = .next t ∧ (t.port n).atnLed = v % 4 ∧ field (t.port n).ctrl 1 2 = v % 4 ∧ (t.port n).refusing = false ∧
          (t.port n).pwrLed = p.pwrLed ∧ OnlyChanges [.apt] s t) ∧
        (∃ t, exec (.powerIndicatorSet n v) s = .next t ∧ (t.port n).pwrLed = v % 4 ∧ field (t.port n).ctrl 3 2 = v % 4 ∧ (t.port n).atnLed = p.atnLed ∧
          OnlyChanges [.apt] s t))) ∧
    (exec (.presenceChange n p.present) s = .next s) ∧
    (∀ b, n < 8 → p.present ≠ b → (p.cohort = true ∨ (bitOf p.ctrl 5 = true ∧ (b = true ∨ p.live = false))) →
      becomes (exec (.presenceChange n b) s) { p with present := b, events := setBit p.events 2 } [.apt, .ddt]) ∧
    (n < 8 → p.present = false → auto → p.slot = .off → s.boot.supervisor = true → served →
      becomes (exec (.presenceChange n true) s) { powered with present := true, events := setBit p.events 2 } [.apt, .ddt]) ∧
    (manual → becomes (exec (.attentionButton n) s) { p with events := setBit p.events 4 } [.apt]) ∧
    (auto → p.window = true → becomes (exec (.attentionButton n) s)
      { p with events := setBit p.events 4, window := false, pwrLed := if p.slot = .on then 1 else if p.slot = .powering then 2 else 3 } [.apt]) ∧
    (auto → p.window = false → s.servesJob n = false → becomes (exec (.attentionButton n) s)
      { p with events := setBit p.events 4, window := true, pwrLed := 2 } [.apt]) ∧
    (auto → p.window = false → s.servesJob n = true → becomes (exec (.attentionButton n) s)
      { p with events := setBit (setBit p.events 4) 8, atnLed := 2, refusing := true } [.apt]) ∧
    (p.refusing = true → becomes (exec (.buttonWindowEnd n) s) { p with refusing := false, atnLed := field p.ctrl 1 2 } [.apt]) ∧
    (p.refusing = false → p.window = false → exec (.buttonWindowEnd n) s = .next s) ∧
    (p.refusing = false → p.window = true → p.slot = .off → served → becomes (exec (.buttonWindowEnd n) s) { powered with window := false } [.apt, .ddt]) ∧
    (p.refusing = false → p.window = true → p.slot = .on → p.reads = [] → ∃ t, exec (.buttonWindowEnd n) s = .next t ∧ off (t.port n) ∧
      (t.port n).window = false ∧ OnlyChanges [.apt, .ddt] s t) ∧
    (p.refusing = false → p.window = true → (p.slot = .fault ∨ p.slot = .powering) → becomes (exec (.buttonWindowEnd n) s)
      { p with window := false, pwrLed := if p.slot = .fault then 3 else p.pwrLed } [.apt]) ∧
    (s.rootPort n = true → p.slot = .off ∨ p.slot = .fault → becomes (exec (.powerFault n) s) { p with pwrFault := true } [.apt]) ∧
    (s.rootPort n = true → (p.slot = .on ∨ p.slot = .powering) → ∃ t, exec (.powerFault n) s = .next t ∧ (t.port n).slot = .fault ∧
      (t.port n).pwrFault = true ∧ (t.port n).pwren = false ∧ (t.port n).perstLow = true ∧ (t.port n).dl = false ∧ (t.port n).atnLed = 1 ∧
      bitOf (t.port n).events 3 = true)

/-- R274, R277 to R280, R286, R287, R289, R293: links, completions and inbound requests. A port that trains is ON with the accelerator's aperture; a failed attempt is counted; a surprise down and a lost cohort link are counted and reported; a completion brings its read's bytes to their owner, one that comes after its timeout is late, one without a read is an error; a timeout quarantines the tag; an inbound ring write lands in its contributor's ring, a read is refused, any other address is unclaimed; what another member sends over the cohort link is forwarded, reaches memory, or enters the fault log. -/
def Obligations.AccelLinks : Prop :=
  ∀ (s : State) (n tag : Nat) (bs : Bytes),
    let p := s.port n
    let becomes := fun (o : Host.Outcome State Fault Refusal) (q : Port) (ps : List StatePart) =>
      ∃ t, o = .next t ∧ t.port n = q ∧ (∀ k, k ≠ n → t.port k = s.port k) ∧ OnlyChanges ps s t
    let may := n < 8 ∧ s.ioRuns = true ∧ s.boot.supervisor = true ∧ p.dl = false ∧ s.boot.conflicts.contains n = false
    (∀ speed width flit aperture,
      (¬ may → exec (.dlActive n speed width flit aperture) s = .next s) ∧
      (may → p.cohort = false → (p.slot = .powering ∨ p.slot = .on) → p.perstLow = false → becomes (exec (.dlActive n speed width flit aperture) s)
        { p with dl := true, speed := speed, width := width, flit := flit || decide (speed = 6), slot := .on, pwrLed := 1, aperture := apertureOf aperture,
                 bars := aperture, enabled := true, events := setBit p.events 0 } [.apt, .ddt]) ∧
      (may → p.cohort = true → 5 ≤ speed → 4 ≤ width → becomes (exec (.dlActive n speed width flit aperture) s)
        { p with dl := true, speed := speed, width := width, flit := true, events := setBit p.events 0 } [.apt, .ddt]) ∧
      (may → p.cohort = true → (speed < 5 ∨ width < 4) → becomes (exec (.dlActive n speed width flit aperture) s)
        { p with trainFails := satInc p.trainFails, events := setBit p.events 6 } [.apt, .log])) ∧
    (exec (.linkTrainRetry n false) s = .next s) ∧
    (n < 8 → s.boot.supervisor = true → p.dl = false → (p.cohort = true ∨ ((p.slot = .on ∨ p.slot = .powering) ∧ p.present = true)) →
      becomes (exec (.linkTrainRetry n true) s) { p with trainFails := satInc p.trainFails, events := setBit p.events 6 } [.apt, .ddt]) ∧
    ((s.rootPort n = false ∨ p.live = false ∨ p.dl = false) → exec (.surpriseDown n) s = .next s) ∧
    (s.rootPort n = true → p.live = true → p.dl = true → p.reads = [] → (s.nvCtrl (256 + n)).sqs = [] → s.servesJob n = false → p.present = true →
      becomes (exec (.surpriseDown n) s)
        { p with surprises := satInc p.surprises, dl := false, speed := 0, width := 0, flit := false, enabled := false, events := setBit (setBit p.events 7) 1 } [.apt, .ddt, .log, .mem]) ∧
    (∀ status, (8 ≤ n ∨ p.dl = false) → exec (.peerCompletion n tag status bs) s = .next s) ∧
    (∀ status, n < 8 → p.dl = true → (∀ x ∈ p.reads, x.tag ≠ tag) →
      (p.quarantine.contains tag = true → ∃ t, exec (.peerCompletion n tag status bs) s = .next t ∧ t.apt.lateCpl = satInc s.apt.lateCpl ∧
        bitOf t.apt.events 0 = true ∧ t.apt.ports = s.apt.ports ∧ t.fab.lateDiscard = satInc s.fab.lateDiscard ∧ OnlyChanges [.apt, .fab, .freeCtr] s t) ∧
      (p.quarantine.contains tag = false → ∃ t, exec (.peerCompletion n tag status bs) s = .next t ∧ bitOf (t.port n).aerUncorr 16 = true ∧
        t.log.reports.length = s.log.reports.length + 1 ∧ OnlyChanges [.apt, .log, .freeCtr] s t)) ∧
    (∀ x, (p.reads.find? fun r => r.tag = tag) = some x → p.poweringDown = false →
      (n < 8 → p.dl = true → bs.length = x.len → s.awaits x.owner = true → ∃ t, exec (.peerCompletion n tag 0 bs) s = .next t ∧
        t.apt.arrived = s.apt.arrived ++ [{ owner := x.owner, addr := x.addr, bytes := bs }] ∧ (t.port n).reads = (p.reads.filter fun r => r.tag ≠ tag) ∧
        OnlyChanges [.apt] s t) ∧
      (n < 8 → p.dl = true → bs.length ≠ x.len → ∃ t, exec (.peerCompletion n tag 0 bs) s = .next t ∧ bitOf (t.port n).aerUncorr 16 = true ∧
        (t.port n).reads = p.reads ∧ t.log.reports.length = s.log.reports.length + 1 ∧ OnlyChanges [.apt, .log, .freeCtr] s t) ∧
      (∀ u status, n < 8 → p.dl = true → x.owner = .unit (u + 1) → status ≠ 0 → ∃ t, exec (.peerCompletion n tag status bs) s = .next t ∧
        t.apt.arrived = s.apt.arrived ++ [{ owner := x.owner, addr := x.addr, bytes := []
                                            status := if p.cohort = true ∧ (status = 0x12 ∨ status = 0x30) then status else 0x11 }] ∧ OnlyChanges [.apt] s t) ∧
      (∀ u, x.owner = .unit (u + 1) → ∃ t, exec (.peerCompletionTimeout n tag) s = .next t ∧ (t.port n).quarantine = p.quarantine ++ [tag] ∧
        (t.port n).cplTimeouts = satInc p.cplTimeouts ∧ bitOf (t.port n).events 5 = true ∧ bitOf (t.port n).aerUncorr 14 = true ∧
        t.apt.arrived = s.apt.arrived ++ [{ owner := x.owner, addr := x.addr, bytes := [], status := 0x20 }] ∧
        t.fab.timeoutWon = satInc s.fab.timeoutWon ∧ OnlyChanges [.apt, .fab, .log, .freeCtr] s t)) ∧
    ((∀ x ∈ p.reads, x.tag ≠ tag) → exec (.peerCompletionTimeout n tag) s = .next s) ∧
    (p.quarantine.contains tag = false → exec (.peerTagQuarantineEnd n tag) s = .next s) ∧
    (p.quarantine.contains tag = true → becomes (exec (.peerTagQuarantineEnd n tag) s) { p with quarantine := p.quarantine.filter (· ≠ tag) } [.apt]) ∧
    (∀ addr, let own := s.sup.straps.cohortId
      let open_ := s.rootPort n = true ∧ p.linked = true
      let off := (addr - 0x700000000000) % 2 ^ 38
      (∀ read, ¬ open_ → exec (.inboundWrite .accelerator n addr read bs) s = .next s) ∧
      (open_ → exec (.inboundWrite .accelerator n addr true bs) s = .next (s.emit (.accelCpl n 1 []))) ∧
      (open_ → (addr < 0x700000000000 ∨ 0x710000010000 ≤ addr) → ∃ t, exec (.inboundWrite .accelerator n addr false bs) s = .next t ∧
        t.apt.unclaimed = satInc s.apt.unclaimed ∧ bitOf t.apt.events 1 = true ∧ OnlyChanges [.apt] s t) ∧
      (∀ f h, open_ → 0x700000000000 ≤ addr → addr < 0x710000000000 → (addr - 0x700000000000) / 2 ^ 38 = own → s.pwr.state ≠ .p1 →
        s.ann.state ≠ .unconfigured → s.ann.mask / 2 ^ (8 * own + n) % 2 = 1 → off < 2 ^ 37 → off + bs.length ≤ s.ann.depth * s.ann.slot →
        s.fab.writeDev 0 (s.ann.ringAt (8 * own + n) + off) bs = .ok (f, h) →
        exec (.inboundWrite .accelerator n addr false bs) s = .next { s with fab := f }) ∧
      (∀ m read, (m = own ∨ 4 ≤ m ∨ 8 ≤ n ∨ s.apt.present.contains m = false) → exec (.inboundWrite (.forwarded m) n addr read bs) s = .next s) ∧
      (∀ m dest code read, own = 0 → m ≠ 0 → dest ≠ 0 → m ≠ dest → s.apt.present.contains m = true →
        (s.apt.present.contains dest = true → (s.route dest).isSome = true →
          exec (.inboundWrite (.transit m dest code) n addr read bs) s = .next (s.emit (.cohortMsg dest code bs))) ∧
        (s.apt.present.contains dest = false → ∃ t, exec (.inboundWrite (.transit m dest code) n addr read bs) s = .next t ∧
          t.apt.forwardLost = satInc s.apt.forwardLost ∧ bitOf t.apt.events 2 = true ∧ OnlyChanges [.apt] s t)) ∧
      (∀ m tenant tg f h, m ≠ own → tenant < 16 → s.apt.present.contains m = true → s.pwr.state ≠ .p1 → s.fab.writeDev tenant (addr % 2 ^ 48) bs = .ok (f, h) →
        exec (.inboundWrite (.memory m tenant tg) n addr false bs) s = .next { s with fab := f }) ∧
      (∀ m read, own = 0 → m ≠ 0 → s.apt.present.contains m = true → bs.length = 64 → read = false → ∃ t, exec (.inboundWrite (.fault m) n addr read bs) s = .next t ∧
        t.log.count = s.log.count + 1 ∧ OnlyChanges entryParts s t)) ∧
    ((8 ≤ n ∨ p.cohort = false ∨ p.dl = false) → exec (.cohortLinkDown n) s = .next s) ∧
    (n < 8 → p.cohort = true → p.dl = true → p.reads = [] → p.partner = none →
      becomes (exec (.cohortLinkDown n) s) { p with dl := false, speed := 0, width := 0, flit := false, events := setBit p.events 1 } [.apt, .ddt, .log])

/-! ## The storage controller (spec/12) -/

/-- R325 to R329, R334 to R336, R339, R344: doorbells, controller registers and I/O commands. A valid doorbell moves its queue's pointer, an invalid one raises an asynchronous event; enabling a controller makes its admin queues; an I/O command that is fetched is admitted and handed to its drives, or waits behind one that overlaps, or ends at once with the status its checks give. -/
def Obligations.StorageQueues : Prop :=
  ∀ (s : State) (fn c q v : Nat) (b bs : Bytes) (cc : W32),
    let k := s.nvCtrl fn
    let host := HostAwake s fn ∧ s.pwr.transition = false
    let room := fun (x : NvSq) (tail : Nat) => tail < x.size ∧ (tail + x.size - x.tail) % x.size ≤ x.size - 1 - (x.tail + x.size - x.head) % x.size
    let fetched := fun (op : Nat) => q ≠ 0 ∧ (s.nvCtrl c).fetched.find? q = some b ∧ fieldAt b 0 1 = op ∧ (∀ y ∈ s.sto.cmds, y.id < s.sto.nextId)
    let admitted := fun (o : Host.Outcome State Fault Refusal) (y : NvCmd) =>
      ∃ t x, o = .next t ∧ x ∈ t.sto.cmds ∧ x.id = s.sto.nextId ∧ x.op = y.op ∧ x.ctrl = y.ctrl ∧ x.cid = y.cid ∧ x.nsids = y.nsids ∧ x.ranges = y.ranges ∧
        x.data = y.data ∧ x.prps = y.prps ∧ x.fua = y.fua ∧ x.deac = y.deac ∧ t.sto.nextId = s.sto.nextId + 1 ∧ (t.nvCtrl c).fetched.find? q = none ∧
        (∃ e ∈ (t.nvCtrl c).entries, e.cmd = some x.id ∧ e.cid = y.cid) ∧
        ((∃ e ∈ s.sto.cmds, e.overlaps y = true) → x.stage = .waiting ∧ t.sto.overlapWaits = satInc s.sto.overlapWaits ∧ t.out = s.out) ∧
        (s.sto.cmds = [] → s.sup.inhibit = false → (∀ d, (s.sdrive d).resetting = false) → x.stage = .handed ∧ x.parts.length = (s.cmdPieces y).length ∧
          t.out.length = s.out.length + (s.cmdPieces y).length) ∧
        OnlyChanges [.apt, .hep, .out, .sto] s t
    (∀ x, host → k.sqs.find? q = some x → x.dead = false → room x v → ∃ t, exec (.nvmeSqTailDoorbell fn q v) s = .next t ∧
      (t.nvCtrl fn).sqs.find? q = some { x with tail := v } ∧ (∀ j, j ≠ q → (t.nvCtrl fn).sqs.find? j = k.sqs.find? j) ∧ OnlyChanges [.sto] s t) ∧
    (∀ x, host → k.sqs.find? q = some x → x.dead = false → ¬ room x v → k.rdy = true → k.aers = [] → ∃ t, exec (.nvmeSqTailDoorbell fn q v) s = .next t ∧
      (t.nvCtrl fn).pendingEvents.contains 0x10100 = true ∧ (t.nvCtrl fn).sqs = k.sqs ∧ OnlyChanges [.sto] s t) ∧
    (host → k.sqs.find? q = none → k.rdy = true → k.aers = [] → ∃ t, exec (.nvmeSqTailDoorbell fn q v) s = .next t ∧
      (t.nvCtrl fn).pendingEvents.contains 0x10000 = true ∧ (t.nvCtrl fn).sqs = k.sqs ∧ OnlyChanges [.sto] s t) ∧
    (∀ x, host → k.cqs.find? q = some x → v < x.size → (v + x.size - x.head) % x.size ≤ (x.tail + x.size - x.head) % x.size → k.entries = [] →
      ∃ t, exec (.nvmeCqHeadDoorbell fn q v) s = .next t ∧ (t.nvCtrl fn).cqs.find? q = some { x with head := v } ∧ (t.nvCtrl fn).sqs = k.sqs ∧
        OnlyChanges [.con, .hep, .out, .sto] s t) ∧
    (∀ port off, (8 ≤ port ∨ (s.port port).linked = false) → exec (.accelPairDoorbell port off bs) s = .next s) ∧
    (∀ port off, port < 8 → (s.port port).linked = true → (bs.length ≠ 4 ∨ off % 4 ≠ 0 ∨ (s.nvCtrl (256 + port)).sqs.find? (off / 8 + 1) = none) →
      exec (.accelPairDoorbell port off bs) s = .next s.unclaimed) ∧
    (∀ port off x, port < 8 → (s.port port).linked = true → bs.length = 4 → off % 8 = 0 → (s.nvCtrl (256 + port)).sqs.find? (off / 8 + 1) = some x →
      x.dead = false → room x (leNat bs) → s.pwr.transition = false → s.pwr.state ≠ .p1 → ∃ t, exec (.accelPairDoorbell port off bs) s = .next t ∧
        (t.nvCtrl (256 + port)).sqs.find? (off / 8 + 1) = some { x with tail := leNat bs } ∧ OnlyChanges [.sto] s t) ∧
    (HostAwake s fn →
      (bitOf cc 0 = false → exec (.intmsWrite fn cc) s = .next s ∧ exec (.intmcWrite fn cc) s = .next s) ∧
      (bitOf cc 0 = true →
        (∃ t, exec (.intmsWrite fn cc) s = .next t ∧ t.nvCtrl fn = { k with masked := true } ∧ (t.con.fn fn).level = (s.con.fn fn).intx ∧
          OnlyChanges [.con, .hep, .out, .sto] s t) ∧
        (∃ t, exec (.intmcWrite fn cc) s = .next t ∧ t.nvCtrl fn = { k with masked := false } ∧ OnlyChanges [.con, .hep, .out, .sto] s t)) ∧
      (k.rdy = false → ∃ t, exec (.ccEnSet fn cc) s = .next t ∧ t.nvCtrl fn = { k with
        cc := setBit cc 0, rdy := true, shst := 0, sqs := [(0, { base := k.asq, size := field k.aqa 0 12 + 1, cq := 0 })],
        cqs := [(0, { base := k.acq, size := field k.aqa 16 12 + 1, ien := true })] } ∧ OnlyChanges [.sto] s t) ∧
      (k.rdy = false → exec (.ccEnClear fn) s = .next s ∧ exec (.ccShnSet fn v) s = .next s) ∧
      (k.rdy = true → ∃ t, exec (.ccEnClear fn) s = .next t ∧ (t.nvCtrl fn).rdy = false ∧ (t.nvCtrl fn).sqs = [] ∧ (t.nvCtrl fn).cqs = [] ∧
        (t.nvCtrl fn).aqa = k.aqa ∧ (t.nvCtrl fn).asq = k.asq ∧ (t.nvCtrl fn).acq = k.acq ∧ bitOf (t.nvCtrl fn).cc 0 = false) ∧
      (v ≠ 0 → k.rdy = true → k.shst = 0 →
        ((∃ x ∈ s.sto.cmds, x.ctrl = fn ∧ x.op < 0x80 ∧ x.peer = none) → ∃ t, exec (.ccShnSet fn v) s = .next t ∧ (t.nvCtrl fn).shst = 1 ∧
          field (t.nvCtrl fn).cc 14 2 = v % 4 ∧ t.sto.cmds = s.sto.cmds ∧ OnlyChanges [.sto] s t) ∧
        (s.sto.cmds = [] → (∀ d < 4, (s.sdrive d).ready = false) → ∃ t, exec (.ccShnSet fn v) s = .next t ∧ (t.nvCtrl fn).shst = 2 ∧
          OnlyChanges [.sto] s t))) ∧
    (q ≠ 0 → fieldAt b 0 1 ∉ ioOps → (s.nvCtrl c).fetched.find? q = some b → let o := .next (s.nvEnd c q (fieldAt b 2 2) (nv 0 0x01));
      exec (.nvmeRead c q) s = o ∧ exec (.nvmeWrite c q) s = o ∧ exec (.nvmeFlush c q) s = o ∧ exec (.writeZeroes c q) s = o ∧
      exec (.datasetManagement c q) s = o) ∧
    ((q = 0 ∨ ((s.nvCtrl c).fetched.find? q = none ∧ (s.nvCtrl c).sqs.find? q = none)) → exec (.nvmeRead c q) s = .next s ∧ exec (.nvmeWrite c q) s = .next s ∧
      exec (.nvmeFlush c q) s = .next s ∧ exec (.writeZeroes c q) s = .next s ∧ exec (.datasetManagement c q) s = .next s) ∧
    (s.space (nvTenant c) (sqeNsid b) = none → let o := .next (s.nvEnd c q (sqeCid b) (nv 0 0x0B));
      (fetched 2 → exec (.nvmeRead c q) s = o) ∧ (fetched 1 → exec (.nvmeWrite c q) s = o) ∧ (fetched 8 → exec (.writeZeroes c q) s = o) ∧
      (fetched 9 → exec (.datasetManagement c q) s = o) ∧ (fetched 0 → sqeNsid b ≠ 0xFFFFFFFF → exec (.nvmeFlush c q) s = o)) ∧
    (∀ n, s.space (nvTenant c) (sqeNsid b) = some n → n.deleting = none → n.nsid ≠ replicaNsid → s.nsReady n = true →
      let off := fieldAt b 40 8 * n.lba
      let len := (sqeDw b 12 % 65536 + 1) * n.lba
      let cmd := nvCommand c q b [n.nsid]
      (len ≤ 1048576 → n.size < off + len → let o := .next (s.nvEnd c q (sqeCid b) (nv 0 0x80));
        (fetched 2 → exec (.nvmeRead c q) s = o) ∧ (fetched 1 → exec (.nvmeWrite c q) s = o) ∧ (fetched 8 → exec (.writeZeroes c q) s = o)) ∧
      (1048576 < len → let o := .next (s.nvEnd c q (sqeCid b) (nv 0 0x02));
        (fetched 2 → exec (.nvmeRead c q) s = o) ∧ (fetched 1 → exec (.nvmeWrite c q) s = o)) ∧
      (∀ l, fetched 2 → len ≤ 1048576 → off + len ≤ n.size → s.prps c q b len = .segs l →
        admitted (exec (.nvmeRead c q) s) { cmd [(off, len)] with prps := l, data := zeros len, fua := decide (sqeDw b 12 / 2 ^ 30 % 2 = 1) }) ∧
      (∀ l d, fetched 1 → len ≤ 1048576 → off + len ≤ n.size → s.prps c q b len = .segs l → s.readSegs c q l = .data d →
        admitted (exec (.nvmeWrite c q) s) { cmd [(off, len)] with data := d, fua := decide (sqeDw b 12 / 2 ^ 30 % 2 = 1) }) ∧
      (fetched 8 → off + len ≤ n.size → admitted (exec (.writeZeroes c q) s)
        { cmd [(off, len)] with fua := decide (sqeDw b 12 / 2 ^ 30 % 2 = 1), deac := decide (sqeDw b 12 / 2 ^ 25 % 2 = 1) }) ∧
      (fetched 0 → sqeNsid b ≠ 0xFFFFFFFF → n.drives ≠ [] → admitted (exec (.nvmeFlush c q) s) (cmd [])) ∧
      (∀ l d, fetched 9 → s.prps c q b (16 * (sqeDw b 10 % 256 + 1)) = .segs l → s.readSegs c q l = .data d →
        (sqeDw b 11 / 4 % 2 = 0 → (∀ r ∈ dsmRanges n.lba d, r.1 + r.2 ≤ n.size) → exec (.datasetManagement c q) s = .next (s.nvEnd c q (sqeCid b) 0)) ∧
        (sqeDw b 11 / 4 % 2 = 1 → (∀ r ∈ dsmRanges n.lba d, r.1 + r.2 ≤ n.size) → (∃ r ∈ dsmRanges n.lba d, r.2 ≠ 0) →
          admitted (exec (.datasetManagement c q) s) (cmd ((dsmRanges n.lba d).filter fun r => r.2 ≠ 0))))) ∧
    ((∀ x ∈ s.sto.cmds, s.mayHand x = false) → exec .overlapRelease s = .next s) ∧
    (∀ x, (s.sto.cmds.find? fun x => s.mayHand x) = some x → x.parts = [] → (∀ y ∈ s.sto.cmds, y.id = x.id → y = x) → s.cmdPieces x ≠ [] →
      ∃ t y, exec .overlapRelease s = .next t ∧ y ∈ t.sto.cmds ∧ y.id = x.id ∧ y.stage = .handed ∧ y.parts.length = (s.cmdPieces x).length ∧
        t.out.length = s.out.length + (s.cmdPieces x).length ∧ OnlyChanges [.out, .sto] s t)

/-- R331 to R333, R337, R340 to R343, R418, R419: drives, replicas and the SERVICE namespace commands. A completion ends its part of a command, with a failure where the drive or the controller's memory failed it, one without a part is late, and so is a replica's answer after its timeout; a drive that times out is reset and one whose reset fails is lost; a lost drive is not ready until it is enumerated again; a replica that fails leaves every namespace and returns when its copy is complete; a namespace is made, deleted once its commands have finished, and formatted. -/
def Obligations.StorageDrives : Prop :=
  ∀ (s : State) (d tag : Nat) (bs : Bytes) (r : CmdRef) (c : Cmd),
    let x := s.sdrive d
    let lost := fun (t : State) => (t.sdrive d).lost = true ∧ (t.sdrive d).ready = false ∧ (t.sdrive d).resetting = false ∧ bitOf (t.sdrive d).events 1 = true
    let up := fun (t : State) (i : DriveInfo) => (t.sdrive d).ready = true ∧ (t.sdrive d).lost = false ∧ (t.sdrive d).capacity = i.capacity ∧
      (t.sdrive d).serial = i.serial ∧ (t.sdrive d).speed = i.speed ∧ (t.sdrive d).width = i.width ∧ bitOf (t.sdrive d).events 0 = true
    (s.partAt d tag = none → ∀ ok sram, (x.ready = false → exec (.driveCompletion d tag ok sram bs) s = .next s) ∧
      (x.ready = true → ∃ t, exec (.driveCompletion d tag ok sram bs) s = .next t ∧ t.sto.lateCpl = satInc s.sto.lateCpl ∧ bitOf t.sto.events 2 = true ∧
        t.fab.lateDiscard = satInc s.fab.lateDiscard ∧ t.sto.cmds = s.sto.cmds ∧ OnlyChanges [.fab, .freeCtr, .sto] s t)) ∧
    (∀ n p, s.partAt d tag = some (n, p) → d < 256 → (∀ y ∈ s.sto.cmds, y.id = n.id → y = n) →
      (∀ ok sram, (∃ o ∈ n.parts, o.done = false ∧ (o.drive ≠ d ∨ o.tag ≠ tag)) → ∃ t y, exec (.driveCompletion d tag ok sram bs) s = .next t ∧ y ∈ t.sto.cmds ∧
        y.id = n.id ∧ y.parts = (n.parts.map fun o => if o.drive = d ∧ o.tag = tag then { o with done := true } else o) ∧
        y.failed = (if n.failed = 0 ∧ (ok = false ∨ 2 ≤ sram) then nvOf 0x30 (n.op == 2) else n.failed) ∧ y.stage = n.stage ∧
        (ok = false → bitOf (t.sdrive d).events 5 = true) ∧ (sram ≠ 1 → t.fab = s.fab) ∧ OnlyChanges [.fab, .sto] s t) ∧
      ((∀ o ∈ n.parts, o.done = true ∨ (o.drive = d ∧ o.tag = tag)) → n.op = 1 → n.stage = .handed → n.fua = false → n.failed = 0 → n.peer = none → n.ctrl < 264 →
        (∀ i m, s.space n.tenant i = some m → m.deleting = none ∧ m.formatting = false) → (s.nvCtrl n.ctrl).shst ≠ 1 →
        ∃ t, exec (.driveCompletion d tag true 0 bs) s = .next t ∧ t.sto.cmds = (s.sto.cmds.filter fun y => y.id ≠ n.id) ∧ t.sto.spaces = s.sto.spaces ∧
          OnlyChanges [.con, .hep, .mem, .out, .sto] s t)) ∧
    ((s.partAt d tag = none ∨ x.resetting = true) → exec (.driveTimeout d tag) s = .next s) ∧
    (∀ y, s.partAt d tag = some y → d < 256 → x.resetting = false → ∃ t, exec (.driveTimeout d tag) s = .next t ∧ (t.sdrive d).resetting = true ∧
      (t.sdrive d).timeouts = satInc x.timeouts ∧ bitOf (t.sdrive d).events 3 = true ∧ t.fab.timeoutWon = satInc s.fab.timeoutWon) ∧
    (x.resetting = false → exec (.driveResetDone d) s = .next s ∧ exec (.driveResetTimeout d) s = .next s) ∧
    (x.resetting = true → (∃ t, exec (.driveResetDone d) s = .next t ∧ (t.sdrive d).resetting = false ∧ (t.sdrive d).ready = x.ready) ∧
      ∃ t, exec (.driveResetTimeout d) s = .next t ∧ lost t) ∧
    (4 ≤ d → ∀ b, exec (.driveLost d b) s = .next s) ∧
    (d < 4 → x.ready = true → ∀ b, ∃ t, exec (.driveLost d b) s = .next t ∧ lost t ∧ (b = true → (t.sdrive d).present = false)) ∧
    (d < 4 → x.ready = false → exec (.driveLost d false) s = .next s) ∧
    (d < 4 → x.ready = false → x.present = true → ∃ t, exec (.driveLost d true) s = .next t ∧
      t.sdrive d = { x with present := false, events := setBit x.events 2 } ∧ OnlyChanges [.sto, .ddt] s t) ∧
    (s.mayTrain d = false → ∀ i o, exec (.driveReinsert d i) s = .next s ∧ exec (.driveTrainRetry d o) s = .next s) ∧
    (s.mayTrain d = true → ∀ i, (∃ t, exec (.driveReinsert d i) s = .next t ∧ up t i ∧ (t.sdrive d).present = true) ∧
      (x.present = true → ∃ t, exec (.driveTrainRetry d (some i)) s = .next t ∧ up t i) ∧
      (x.present = true → ∃ t, exec (.driveTrainRetry d none) s = .next t ∧
        t.sdrive d = { x with trainFails := satInc x.trainFails, events := setBit x.events 4 } ∧ OnlyChanges [.sto] s t)) ∧
    (s.partAt (256 + d) tag = none → ∀ status, exec (.replicaTimeout d tag) s = .next s ∧
      (s.sto.lateTags.contains (d, tag) = false → exec (.replicaAck d tag status bs) s = .next s) ∧
      (s.sto.lateTags.contains (d, tag) = true → ∃ t, exec (.replicaAck d tag status bs) s = .next t ∧ t.sto.lateCpl = satInc s.sto.lateCpl ∧
        t.sto.lateTags.contains (d, tag) = false ∧ bitOf t.sto.events 2 = true ∧ t.fab.lateDiscard = satInc s.fab.lateDiscard ∧ OnlyChanges [.fab, .freeCtr, .sto] s t)) ∧
    (∀ n p, s.partAt (256 + d) tag = some (n, p) →
      (∀ status, status ≠ 0 → ∃ t, exec (.replicaAck d tag status bs) s = .next t ∧ ∀ m ∈ t.sto.spaces, m.replicas.contains d = false) ∧
      (∃ t, exec (.replicaTimeout d tag) s = .next t ∧ t.fab.timeoutWon = satInc s.fab.timeoutWon ∧ t.sto.lateTags.contains (d, tag) = true ∧ ∀ m ∈ t.sto.spaces, m.replicas.contains d = false) ∧
      ((∃ o ∈ n.parts, o.done = false ∧ (o.drive ≠ 256 + d ∨ o.tag ≠ tag)) → (∀ y ∈ s.sto.cmds, y.id = n.id → y = n) →
        ∃ t y, exec (.replicaAck d tag 0 bs) s = .next t ∧ y ∈ t.sto.cmds ∧ y.id = n.id ∧ y.failed = n.failed ∧
          y.parts = (n.parts.map fun o => if o.drive = 256 + d ∧ o.tag = tag then { o with done := true } else o) ∧ OnlyChanges [.sto] s t)) ∧
    ((s.target d = none ∨ s.rme.targets.contains d = false) → exec (.replicaWrite d bs) s = .next s) ∧
    (∀ e, s.target d = some e → fieldAt e 0 1 = 3 → s.rme.targets.contains d = true → s.ioRuns = true →
      (fieldAt bs 4 4 ≠ fieldAt e 4 4 → exec (.replicaWrite d bs) s = .next (s.peerAnswer d (fieldAt bs 20 4) (nv 0 0x0B))) ∧
      (∀ n, fieldAt bs 4 4 = fieldAt e 4 4 → s.space (fieldAt e 1 1) (fieldAt e 4 4) = some n → n.deleting = none → s.nsReady n = true → fieldAt bs 0 1 = 1 →
        fieldAt bs 8 8 * n.lba + fieldAt bs 16 4 * n.lba ≤ n.size → 0 < fieldAt bs 16 4 → fieldAt bs 16 4 * n.lba ≤ 1048576 →
        bs.length = 32 + fieldAt bs 16 4 * n.lba → (∀ y ∈ s.sto.cmds, y.id < s.sto.nextId) →
        ∃ t y, exec (.replicaWrite d bs) s = .next t ∧ y ∈ t.sto.cmds ∧ y.id = s.sto.nextId ∧ y.op = 1 ∧ y.peer = some (d, fieldAt bs 20 4) ∧
          y.data = bs.drop 32 ∧ y.ranges = [(fieldAt bs 8 8 * n.lba, fieldAt bs 16 4 * n.lba)] ∧ OnlyChanges [.out, .sto] s t)) ∧
    (∀ tenant nsid, s.space tenant nsid = none → exec (.replicaRebuildDone tenant nsid d) s = .next s) ∧
    (∀ tenant nsid n, s.space tenant nsid = some n → n.dropped.contains d = true → s.rme.targets.contains d = true → s.drivesUp n = true →
      ∃ t, exec (.replicaRebuildDone tenant nsid d) s = .next t ∧
        t.space tenant nsid = some { n with dropped := n.dropped.filter (· ≠ d), replicas := n.replicas ++ [d] } ∧ bitOf t.sto.events 1 = true ∧
        OnlyChanges [.sto] s t) ∧
    (Started s r 5 0x30 [(0x10, 1), (0x11, 1), (0x12, 1), (0x13, 1), (0x18, 8), (0x20, 4), (0x24, 4)] c →
      (∀ e, s.tenantArg r.fn 0x10 c = .error e → exec (.nsCreate r) s = .next (s.failAt r e.1 e.2)) ∧
      (∀ n, s.tenantArg r.fn 0x10 c = .ok n → c.byte 0x11 ≤ 1 → c.byte 0x12 ≤ 1 → c.byte 0x13 ≤ 2 →
        ((c.fld 0x18 8 = 0 ∨ c.fld 0x18 8 % 1048576 ≠ 0) → exec (.nsCreate r) s = .next (s.failAt r 0x10 0x18)) ∧
        (∀ i l, 0 < c.fld 0x18 8 → c.fld 0x18 8 % 1048576 = 0 → s.sup.inhibit = false → s.coreRestarting 1 = false →
          (([c.fld 0x20 4, c.fld 0x24 4]).take (c.byte 0x13)).all (fun i => s.targetFor n i) = true →
          lowestFree ((s.sto.spaces.filter fun m => m.tenant = n).map (·.nsid)) 1 (s.nsMax n) = some i → s.layOut (c.byte 0x12 = 1) (c.fld 0x18 8) = some l →
          (s.stoKey (0x100 + n) 0 * 2 ^ 30 < s.nsUse n + c.fld 0x18 8 → exec (.nsCreate r) s = .next (s.finish r 0x13 0 0)) ∧
          (s.nsUse n + c.fld 0x18 8 ≤ s.stoKey (0x100 + n) 0 * 2 ^ 30 → ∃ (v : State) (y : Namespace), exec (.nsCreate r) s = .next (v.finish r 0 i 0) ∧ v.space n i = some y ∧
            y.size = c.fld 0x18 8 ∧ y.small = decide (c.byte 0x11 = 0) ∧ y.striped = decide (c.byte 0x12 = 1) ∧ y.drives = l.1 ∧ y.runs = l.2 ∧
            y.replicas = ([c.fld 0x20 4, c.fld 0x24 4]).take (c.byte 0x13) ∧ (∀ j, j ≠ i → v.space n j = s.space n j))))) ∧
    (let named := fun (n : Namespace) => ∃ y, s.tenantArg r.fn 0x10 c = .ok y ∧ s.space y (c.fld 0x14 4) = some n ∧ n.nsid ≠ replicaNsid ∧ n.deleting = none ∧
        n.format = none ∧ s.sup.inhibit = false ∧ s.coreRestarting 1 = false ∧ (∀ m ∈ s.sto.cmds, m.op ≠ 0x80);
      (Started s r 5 0x31 [(0x10, 1), (0x14, 4)] c →
        (∀ y, s.tenantArg r.fn 0x10 c = .ok y → s.space y (c.fld 0x14 4) = none → exec (.nsDelete r) s = .next (s.failAt r 0x11 0x14)) ∧
        (∀ n, named n → (n.tenant ≠ 0 ∨ s.leh.policy.1 = 0) →
          (s.quietSpace n = true → ∃ (v : State), exec (.nsDelete r) s = .next (v.finish r 0 0 0) ∧ v.space n.tenant n.nsid = none ∧
            (∀ i, i ≠ n.nsid → v.space n.tenant i = s.space n.tenant i)) ∧
          (s.quietSpace n = false → ∃ t, exec (.nsDelete r) s = .next t ∧ t.space n.tenant n.nsid = some { n with deleting := some r } ∧
            OnlyChanges [.sto] s t))) ∧
      (Started s r 5 0x32 [(0x10, 1), (0x11, 1), (0x14, 4)] c →
        (∀ e, s.tenantArg r.fn 0x10 c = .error e → exec (.nsFormat r) s = .next (s.failAt r e.1 e.2)) ∧
        (∀ y, s.tenantArg r.fn 0x10 c = .ok y → 1 < c.byte 0x11 → exec (.nsFormat r) s = .next (s.failAt r 0x10 0x11)) ∧
        (∀ n, named n → c.byte 0x11 ≤ 1 → ∃ t y, exec (.nsFormat r) s = .next t ∧ t.space n.tenant n.nsid = some y ∧ y.formatting = true ∧
          y.small = decide (c.byte 0x11 = 0) ∧ y.size = n.size)))

/-! ## NVMe admin commands (spec/12, spec/20) -/

/-- R325, R326, R328, R330, R344, R345, R531: the admin set. A fetched admin command ends with the status its checks give; a queue is made where its identifier is free and its ring good, and deleted where nothing uses it; Identify and Get Log Page deliver their data; Set Features keeps the event configuration; up to four event requests stay outstanding; firmware pieces go in order to the inactive bank and Firmware Commit verifies them; accelerator queue pairs are made and deleted by PF0. -/
def Obligations.AdminCommands : Prop :=
  ∀ (s : State) (fn : Nat) (b : Bytes) (recent : Bool) (fail : Option Nat) (restart : Option (Nat × Nat)),
    let k := s.nvCtrl fn
    let at_ := fn < 16 ∧ k.fetched.find? 0 = some b
    let fetched := fun (op : Nat) => at_ ∧ fieldAt b 0 1 = op
    let ends := fun (o : Host.Outcome State Fault Refusal) (st dw0 : Nat) => o = .next (s.nvEnd fn 0 (sqeCid b) st dw0)
    let rows := [exec (.createIoSq fn) s, exec (.createIoCq fn) s, exec (.deleteIoSq fn) s, exec (.deleteIoCq fn) s, exec (.getLogPage fn) s,
      exec (.identify fn) s, exec (.nvmeAbort fn) s, exec (.setFeatures fn) s, exec (.getFeatures fn) s, exec (.asynchronousEventRequest fn) s,
      exec (.firmwareImageDownload fn) s, exec (.firmwareCommit fn recent fail restart) s, exec (.createAccelQueuePair fn) s,
      exec (.deleteAccelQueuePair fn) s]
    let qid := sqeQid b
    let ring := 2 ≤ sqeQsize b ∧ sqeQsize b ≤ 4096 ∧ sqeDw b 11 % 2 = 1 ∧ sqePrp1 b % 4096 = 0
    let answered := fun (o : Host.Outcome State Fault Refusal) (ps : List StatePart) (P : State → Prop) =>
      ∃ t, o = .next t ∧ (t.nvCtrl fn).fetched.find? 0 = none ∧ P t ∧ OnlyChanges ps s t
    let plain : List StatePart := [.apt, .con, .hep, .out, .sto];
    (16 ≤ fn → ∀ o ∈ rows, o = .next s) ∧
    (k.fetched.find? 0 = none → k.sqs.find? 0 = none → ∀ o ∈ rows, o = .next s) ∧
    (at_ → fieldAt b 0 1 ∉ adminOps → ∀ o ∈ rows, ends o (nv 0 0x01) 0) ∧
    (∀ (sq : NvSq) (cq : NvCq) (st dw0 : Nat), at_ → k.entries = [] → k.sqs.find? 0 = some sq → k.cqs.find? sq.cq = some cq →
      let t := s.nvEnd fn 0 (sqeCid b) st dw0;
      ((cq.tail + 1) % cq.size = cq.head → (t.nvCtrl fn).entries = [{ sq := 0, cid := sqeCid b, cmd := none, status := st, dw0 := dw0 }] ∧ (t.nvCtrl fn).cqs = k.cqs ∧ t.out = s.out) ∧
      ((cq.tail + 1) % cq.size ≠ cq.head → (t.nvCtrl fn).entries = [] ∧ (t.nvCtrl fn).cqs.find? sq.cq =
        some { cq with tail := (cq.tail + 1) % cq.size, phase := if (cq.tail + 1) % cq.size = 0 then !cq.phase else cq.phase })) ∧
    (fetched 1 →
      ((qid = 0 ∨ 64 < qid ∨ (k.sqs.find? qid).isSome) → ends (exec (.createIoSq fn) s) (nv 1 0x01) 0) ∧
      (0 < qid → qid ≤ 64 → k.sqs.find? qid = none → (sqeQsize b < 2 ∨ 4096 < sqeQsize b) → ends (exec (.createIoSq fn) s) (nv 1 0x02) 0) ∧
      (0 < qid → qid ≤ 64 → k.sqs.find? qid = none → ring → k.cqs.find? (sqeDw b 11 / 65536) = none → ends (exec (.createIoSq fn) s) (nv 1 0x00) 0) ∧
      (0 < qid → qid ≤ 64 → k.sqs.find? qid = none → ring → sqeDw b 11 / 65536 ≠ 0 → (k.cqs.find? (sqeDw b 11 / 65536)).isSome →
        answered (exec (.createIoSq fn) s) plain fun t => (t.nvCtrl fn).sqs.find? qid =
          some { base := sqePrp1 b, size := sqeQsize b, cq := sqeDw b 11 / 65536 } ∧ ∀ j, j ≠ qid → (t.nvCtrl fn).sqs.find? j = k.sqs.find? j)) ∧
    (fetched 5 →
      ((qid = 0 ∨ 64 < qid ∨ (k.cqs.find? qid).isSome) → ends (exec (.createIoCq fn) s) (nv 1 0x01) 0) ∧
      (0 < qid → qid ≤ 64 → k.cqs.find? qid = none → ring →
        (sqeDw b 11 / 2 % 2 = 1 → sqeDw b 11 / 65536 ≠ 0 → ends (exec (.createIoCq fn) s) (nv 1 0x08) 0) ∧
        ((sqeDw b 11 / 2 % 2 = 0 ∨ sqeDw b 11 / 65536 = 0) → (∀ x ∈ k.sqs, x.2.cq ≠ qid) → answered (exec (.createIoCq fn) s) plain fun t =>
          (t.nvCtrl fn).cqs.find? qid = some { base := sqePrp1 b, size := sqeQsize b, ien := decide (sqeDw b 11 / 2 % 2 = 1) } ∧
          (t.nvCtrl fn).sqs = k.sqs))) ∧
    (fetched 0 →
      ((qid = 0 ∨ k.sqs.find? qid = none) → ends (exec (.deleteIoSq fn) s) (nv 1 0x01) 0) ∧
      (qid ≠ 0 → (k.sqs.find? qid).isSome → answered (exec (.deleteIoSq fn) s) plain fun t => (t.nvCtrl fn).sqs.find? qid = none ∧
        (∀ e ∈ (t.nvCtrl fn).entries, e.sq ≠ qid) ∧ ∀ x ∈ t.sto.cmds, x.ctrl = fn → x.sq = qid → x.op < 0x80 → x.peer = none → x.silent = true)) ∧
    (fetched 4 →
      ((qid = 0 ∨ k.cqs.find? qid = none) → ends (exec (.deleteIoCq fn) s) (nv 1 0x01) 0) ∧
      (qid ≠ 0 → (k.cqs.find? qid).isSome → (∃ x ∈ k.sqs, x.2.cq = qid) → ends (exec (.deleteIoCq fn) s) (nv 1 0x0C) 0) ∧
      (qid ≠ 0 → (k.cqs.find? qid).isSome → (∀ x ∈ k.sqs, x.2.cq ≠ qid) → answered (exec (.deleteIoCq fn) s) plain fun t =>
        (t.nvCtrl fn).cqs.find? qid = none ∧ (t.nvCtrl fn).sqs = k.sqs)) ∧
    (fetched 2 → let lid := sqeDw b 10 % 256
      let off := fieldAt b 48 8
      let n := 4 * (sqeDw b 10 / 65536 + sqeDw b 11 % 65536 * 65536 + 1);
      ((4 < lid ∨ lid = 0 ∨ (lid = 3 ∧ fn ≠ 0)) → ends (exec (.getLogPage fn) s) (nv 1 0x09) 0) ∧
      (∀ p, s.logPage fn lid = some p →
        ((off % 4 ≠ 0 ∨ p.length < off) → ends (exec (.getLogPage fn) s) (nv 0 0x02) 0) ∧
        (∀ l, off % 4 = 0 → off ≤ p.length → n ≤ 1048576 → s.prps fn 0 b n = .segs l →
          (s.deliverRead fn l (slice p off (min n (p.length - off)) ++ s.freeBytes (n - min n (p.length - off)))).2 = 0 →
          answered (exec (.getLogPage fn) s) (.freeCtr :: plain) fun t => t.freeCtr = s.freeCtr + 1 ∧
            (t.nvCtrl fn).changed = (if sqeDw b 10 / 32768 % 2 = 0 ∧ lid = 4 then [] else k.changed))) ∧
      (∀ p, s.logPage 0 3 = some p → slice p 8 8 = s.slotVersion 0 ∧ slice p 16 8 = s.slotVersion 1)) ∧
    (fetched 6 → ∀ x, s.identify fn (sqeDw b 10 % 256) (sqeNsid b) = x →
      (∀ e, x = .error e → ends (exec (.identify fn) s) e 0) ∧
      (∀ d l, x = .ok d → s.prps fn 0 b d.length = .segs l → (s.deliverRead fn l d).2 = 0 →
        answered (exec (.identify fn) s) (.freeCtr :: plain) fun t => (t.nvCtrl fn).sqs = k.sqs) ∧
      (3 < sqeDw b 10 % 256 → x = .error (nv 0 0x02)) ∧
      (sqeDw b 10 % 256 = 0 → (sqeNsid b = 0 ∨ s.nsMax fn < sqeNsid b) → x = .error (nv 0 0x0B)) ∧
      (∀ n d, sqeDw b 10 % 256 = 0 → 0 < sqeNsid b → sqeNsid b ≤ s.nsMax fn → s.space (nvTenant fn) (sqeNsid b) = some n → n.deleting = none →
        n.size < 2 ^ 64 → x = .ok d → fieldAt d 0 8 = n.size / n.lba ∧ fieldAt d 8 8 = n.size / n.lba ∧ fieldAt d 26 1 = (if n.small then 0 else 1)) ∧
      (∀ d, sqeDw b 10 % 256 = 1 → fn < 16 → x = .ok d → fieldAt d 78 2 = fn ∧ fieldAt d 516 4 = s.nsMax fn % 2 ^ 32 ∧ fieldAt d 259 1 = 3)) ∧
    (fetched 8 → let q := sqeDw b 10 % 65536;
      (k.fetched.find? q = none → ends (exec (.nvmeAbort fn) s) 0 1) ∧
      (∀ x, q ≠ 0 → k.fetched.find? q = some x →
        (sqeCid x ≠ sqeDw b 10 / 65536 → ends (exec (.nvmeAbort fn) s) 0 1) ∧
        (sqeCid x = sqeDw b 10 / 65536 → exec (.nvmeAbort fn) s = .next ((s.nvEnd fn q (sqeCid x) (nv 0 0x07 false)).nvEnd fn 0 (sqeCid b) 0)))) ∧
    (let fid := sqeDw b 10 % 256;
      (fetched 9 → (fid = 7 → ends (exec (.setFeatures fn) s) 0 0x3F003F) ∧ (fid = 8 → ends (exec (.setFeatures fn) s) 0 0) ∧
        (fid = 6 → ends (exec (.setFeatures fn) s) (nv 1 0x0E) 0) ∧
        (fid ≠ 6 → fid ≠ 7 → fid ≠ 8 → fid ≠ 0xB → ends (exec (.setFeatures fn) s) (nv 0 0x02) 0) ∧
        (fid = 0xB → answered (exec (.setFeatures fn) s) plain fun t => (t.nvCtrl fn).aeConfig = sqeDw b 11)) ∧
      (fetched 0xA → (fid = 7 → ends (exec (.getFeatures fn) s) 0 0x3F003F) ∧ (fid = 6 → ends (exec (.getFeatures fn) s) 0 1) ∧
        (fid = 8 → ∃ v, exec (.getFeatures fn) s = .next (State.tick (s.nvEnd fn 0 (sqeCid b) 0 v))) ∧ (fid = 0xB → ends (exec (.getFeatures fn) s) 0 k.aeConfig) ∧
        (fid ≠ 6 → fid ≠ 7 → fid ≠ 8 → fid ≠ 0xB → ends (exec (.getFeatures fn) s) (nv 0 0x02) 0))) ∧
    (fetched 0xC → (4 ≤ k.aers.length → ends (exec (.asynchronousEventRequest fn) s) (nv 1 0x05) 0) ∧
      (k.aers.length < 4 → k.pendingEvents = [] → ∃ t, exec (.asynchronousEventRequest fn) s = .next t ∧ (t.nvCtrl fn).aers = k.aers ++ [sqeCid b] ∧
        (t.nvCtrl fn).entries = k.entries ∧ (t.nvCtrl fn).fetched.find? 0 = none ∧ OnlyChanges [.apt, .hep, .sto] s t)) ∧
    (fetched 0x11 → let n := 4 * (sqeDw b 10 + 1)
      let off := 4 * sqeDw b 11;
      (fn ≠ 0 → ends (exec (.firmwareImageDownload fn) s) (nv 0 0x01) 0) ∧
      (fn = 0 → (off % 4096 ≠ 0 ∨ n % 4096 ≠ 0 ∨ off ≠ ((s.nvTransfer.map fun t => t.next).getD 0)) →
        ends (exec (.firmwareImageDownload fn) s) (nv 1 0x14) 0) ∧
      (∀ l d, fn = 0 → n % 4096 = 0 → n ≤ 1048576 → s.fwBusy = false → s.prps fn 0 b n = .segs l → s.readSegs fn 0 l = .data d → d.length = n → n < 65536 →
        (off = 0 → s.boot.transfer = none → answered (exec (.firmwareImageDownload fn) s) ([.boot, .sup, .fl, .sto] ++ recordParts) fun t =>
          t.boot.dir.bank (1 - s.boot.bank) = .empty ∧ t.boot.transfer =
            some { bank := 1 - s.boot.bank, next := n, total := none, manifestOk := false, path := 0, image := d }) ∧
        (∀ x, s.nvTransfer = some x → off = x.next → off % 4096 = 0 → x.manifestOk = false → off + n < 65536 →
          answered (exec (.firmwareImageDownload fn) s) (.boot :: plain) fun t =>
            t.boot = { s.boot with transfer := some { x with next := off + n, image := x.image ++ d } }))) ∧
    (fetched 0x10 → let fs := sqeDw b 10 % 8
      let ca := sqeDw b 10 / 8 % 8
      let o := exec (.firmwareCommit fn recent fail restart) s
      let fresh := fn = 0 ∧ (ca < 2 ∨ ca = 3) ∧ (ca = 3 → ∀ a, s.boot.activation = some a → a.path ≠ 0);
      (fn ≠ 0 → ends o (nv 0 0x01) 0) ∧
      (fn = 0 → 4 ≤ ca → ends o (nv 0 0x02) 0) ∧
      (fn = 0 → ca = 2 → (fs = 0 ∨ 3 ≤ fs) → ends o (nv 1 0x06) 0) ∧
      (∀ v st e, fn = 0 → ca = 2 → 1 ≤ fs → fs ≤ 2 → s.boot.activation = none → s.activate (fs - 1) 2 recent 0 none = (v, some (st, e)) →
        o = .next (v.nvEnd 0 0 (sqeCid b) (activateStatus st))) ∧
      (∀ a, fn = 0 → ca = 3 → s.boot.activation = some a → a.path = 0 →
        (∀ v, s.advanceLive a fail restart = (v, none) → o = .next v) ∧
        (∀ v st e, s.advanceLive a fail restart = (v, some (st, e)) → o = .next (v.nvEnd 0 0 (sqeCid b) (activateStatus st)))) ∧
      (fresh → s.nvTransfer = none → ends o (nv 1 0x07) 0) ∧
      (∀ x, fresh → s.nvTransfer = some x →
        (fs ≠ 0 → fs ≠ x.bank + 1 → ends o (nv 1 0x06) 0) ∧
        (fs = 0 ∨ fs = x.bank + 1 →
          (s.fl.idle = false → o = .next s) ∧
          (s.fl.idle = true → (x.manifestOk = false ∨ Image.status s.vendorHash s.fwArb (s.fl.view.image x.bank) ≠ 0) →
            ∃ v, o = .next (v.nvEnd 0 0 (sqeCid b) (nv 1 0x07)) ∧ v.boot.dir = s.boot.dir ∧ v.boot.transfer = none ∧ OnlyChanges [.boot] s v) ∧
          (s.fl.idle = true → x.manifestOk = true → x.next = 65536 + 4096 * Image.blockCount x.image → s.boot.recovery = false →
            Image.status s.vendorHash s.fwArb (s.fl.view.image x.bank) = 0 → ca = 0 →
            ∃ v, o = .next (v.nvEnd 0 0 (sqeCid b) 0) ∧ v.boot.dir.bank x.bank = .trial ∧ v.boot.dir.trialLeft = 3 ∧ v.boot.transfer = none ∧
              v.boot.dir.activeBank = s.boot.dir.activeBank ∧ OnlyChanges ([.boot, .sup, .fl] ++ recordParts) s v)))) ∧
    (fetched 0xC1 → let n := sqeDw b 10 % 8
      let size := sqeDw b 10 / 65536 + 1
      let sq := sqeDw b 11 + sqeDw b 12 * 2 ^ 32
      let cq := sqeDw b 13 + sqeDw b 14 * 2 ^ 32
      let good := fn = 0 ∧ (s.port n).cohort = false ∧ (s.port n).slot = .on ∧ pairQ b ≤ s.stoKey 3 16 ∧ 2 ≤ size ∧ size ≤ 4096 ∧ sq % 4096 = 0 ∧ cq % 4096 = 0;
      (fn ≠ 0 → ends (exec (.createAccelQueuePair fn) s) (nv 0 0x01) 0) ∧
      (fn = 0 → ¬ good → ends (exec (.createAccelQueuePair fn) s) (nv 0 0x02) 0) ∧
      (good → ((s.nvCtrl (pairCtrl b)).sqs.find? (pairQ b)).isSome → ends (exec (.createAccelQueuePair fn) s) (nv 1 0x01) 0) ∧
      (good → (s.nvCtrl (pairCtrl b)).sqs.find? (pairQ b) = none → answered (exec (.createAccelQueuePair fn) s) plain fun t =>
        (t.nvCtrl (pairCtrl b)).sqs.find? (pairQ b) = some { base := sq, size := size, cq := pairQ b } ∧
        (t.nvCtrl (pairCtrl b)).cqs.find? (pairQ b) = some { base := cq, size := size })) ∧
    (fetched 0xC2 →
      (fn ≠ 0 → ends (exec (.deleteAccelQueuePair fn) s) (nv 0 0x01) 0) ∧
      (fn = 0 → (s.nvCtrl (pairCtrl b)).sqs.find? (pairQ b) = none → ends (exec (.deleteAccelQueuePair fn) s) (nv 1 0x01) 0) ∧
      (fn = 0 → ((s.nvCtrl (pairCtrl b)).sqs.find? (pairQ b)).isSome → answered (exec (.deleteAccelQueuePair fn) s) plain fun t =>
        (t.nvCtrl (pairCtrl b)).sqs.find? (pairQ b) = none ∧ (t.nvCtrl (pairCtrl b)).cqs.find? (pairQ b) = none))

/-! ## Network ports, pipeline and traffic manager (spec/13, spec/14) -/

/-- R352 to R356, R389: what a port does with a frame. A frame with uncorrected FEC, a bad FCS or a bad length is a receive error; a PAUSE frame is counted and discarded; a PFC frame pauses and releases priorities; any other is admitted where its cells fit, with XOFF sent at the threshold, and otherwise dropped, a lossless one as a headroom overflow. -/
def Obligations.NetworkReceive : Prop :=
  ∀ (s : State) (port q enable fec : Nat) (quanta : List Nat) (b : Bytes),
    let p := s.netPort port
    let up := port < s.netPorts ∧ s.ioRuns = true ∧ p.linkUp = true
    let sound := 64 ≤ b.length + 4 ∧ b.length + 4 ≤ s.maxFrame
    let becomes := fun (o : Host.Outcome State Fault Refusal) (x : NetPort) (ps : List StatePart) =>
      ∃ t, o = .next t ∧ t.netPort port = x ∧ (∀ k, k ≠ port → t.netPort k = s.netPort k) ∧ OnlyChanges ps s t
    let pausedBy := fun (e : Nat) (qs : List Nat) => (seqFrom 0 8).filter fun i => if e / 2 ^ i % 2 = 1 then qs.getD i 0 ≠ 0 else p.paused.contains i
    let good := { p with fecCorr := satAdd p.fecCorr fec }
    (¬ up → ∀ f c, exec (.frameReceive port b fec f c) s = .next s ∧ exec (.pfcFrameReceive port enable quanta) s = .next s) ∧
    (up → ∀ c, ∃ t, exec (.frameReceive port b fec false c) s = .next t ∧ bitOf t.net.events 1 = true ∧
      t.netPort port = { good with fecUncorr := satInc p.fecUncorr, rxErr := satInc p.rxErr } ∧ OnlyChanges [.net] s t) ∧
    (up → becomes (exec (.frameReceive port b fec true false) s) { good with rxErr := satInc p.rxErr } [.net]) ∧
    (up → ¬ sound → becomes (exec (.frameReceive port b fec true true) s) { good with rxErr := satInc p.rxErr } [.net]) ∧
    (up → sound →
      (isMacCtrl b 0x0001 = true → becomes (exec (.frameReceive port b fec true true) s) { good with pauseDiscard := satInc p.pauseDiscard } [.net]) ∧
      (isMacCtrl b 0x0101 = true → becomes (exec (.frameReceive port b fec true true) s)
        { good with pfcRx := satInc p.pfcRx, paused := pausedBy (fbe b 16 2) ((seqFrom 0 8).map fun i => fbe b (18 + 2 * i) 2) } [.net, .tm]) ∧
      (isMacCtrl b 0x0001 = false → isMacCtrl b 0x0101 = false → s.framePrio b = q →
        (s.fits port q (cellsOf b) = true → ∃ t, exec (.frameReceive port b fec true true) s = .next t ∧ OnlyChanges [.net, .out] s t ∧
          (t.netPort port).inbox = p.inbox ++ [{ bytes := b, port := port, prio := q, seq := p.seq }] ∧
          (t.netPort port).seq = (p.seq + 1) % 2 ^ 64 ∧ (t.netPort port).rxFrames = satInc p.rxFrames ∧
          (t.netPort port).cells.getD q 0 = p.cells.getD q 0 + cellsOf b ∧
          (s.lossless q = true → s.netKey 9 2048 ≤ p.cells.getD q 0 + cellsOf b → p.xoff.contains q = false →
            (t.netPort port).xoff = p.xoff ++ [q] ∧ t.out = s.out ++ [.pfc port q 0xFFFF])) ∧
        (s.fits port q (cellsOf b) = false → s.lossless q = false → becomes (exec (.frameReceive port b fec true true) s)
          { good with events := setBit p.events 2, drops := p.drops.upd q 0 satInc } [.net]) ∧
        (s.fits port q (cellsOf b) = false → s.lossless q = true → ∃ t, exec (.frameReceive port b fec true true) s = .next t ∧
          t.netPort port = { good with events := setBit p.events 2 } ∧ t.mrv.headroomOvf = satInc s.mrv.headroomOvf ∧ bitOf t.mrv.events 3 = true ∧
          OnlyChanges [.net, .mrv] s t))) ∧
    (up → becomes (exec (.pfcFrameReceive port enable quanta) s) { p with pfcRx := satInc p.pfcRx, paused := pausedBy enable quanta } [.net, .tm]) ∧
    (p.xoff.contains q = false → exec (.pfcRepeat port q) s = .next s) ∧
    (p.xoff.contains q = true → ∃ t, exec (.pfcRepeat port q) s = .next t ∧ t.netPort port = { p with pfcTx := satInc p.pfcTx } ∧
      t.out = s.out ++ [.pfc port q 0xFFFF] ∧ OnlyChanges [.net, .out] s t) ∧
    becomes (exec (.pauseExpiry port q) s) { p with paused := p.paused.filter (· ≠ q) } [.net, .tm] ∧
    (p.linkUp = false → exec (.pcsAlignmentLoss port) s = .next s) ∧
    (p.linkUp = true → becomes (exec (.pcsAlignmentLoss port) s) { p with linkUp := false, anDone := false, aligned := false, events := setBit p.events 1 } [.net, .ddt]) ∧
    ((s.netPorts ≤ port ∨ p.linkUp = true ∨ s.boot.safe = true ∨ s.boot.unowned = true) → exec (.portLinkUp port) s = .next s) ∧
    (port < s.netPorts → s.ioRuns = true → s.boot.supervisor = true → s.boot.safe = false → s.boot.unowned = false → p.linkUp = false →
      becomes (exec (.portLinkUp port) s) { p with linkUp := true, anDone := true, aligned := true, events := setBit p.events 0 } [.net, .ddt])

/-- R356 to R368, R371, R374: the receive pipeline. The parser takes the next frame of a port, drops a malformed one, sends an odd one to the slow path and hands the others, classified, to the lanes in turn; a lane finishes its oldest packet, by its class's destination; the reorder stage releases a port's packets in arrival order and skips one it waited too long for; a datagram not whole in time is dropped; an uncorrectable error of the tables drops what is in flight. -/
def Obligations.PacketPipeline : Prop :=
  ∀ (s : State) (port lane q left : Nat) (k : Pkt) (r : List Pkt),
    let p := s.netPort port
    let m := s.mrv
    let empty := fun (x : NetPort) => x.done = [] ∧ x.skipped = []
    ((s.ioRuns = false ∨ 8192 ≤ s.reorderHeld ∨ s.nextPort = none) → ∀ sram, exec (.frameParse sram) s = .next s) ∧
    (s.ioRuns = true → s.reorderHeld < 8192 → s.nextPort = some port → s.nextPrio port = (q, left) → p.inbox.find? (fun k => k.prio = q) = some k →
      (oddFrame k.bytes = false → malformedFrame k.bytes = false → ∃ t, exec (.frameParse 0) s = .next t ∧
        (t.netPort port).inbox = p.inbox.erase k ∧ t.mrv = { m with
          lastPort := (port + 1) % 32, classPkts := m.classPkts.upd (s.classify k).cls 0 satInc, nextLane := (m.nextLane + 1) % 64
          lanes := m.lanes.upd m.nextLane [] (· ++ [s.classify k]) } ∧ OnlyChanges [.net, .mrv, .out] s t) ∧
      (k.port = port → k.seq = p.expected → empty p →
        (oddFrame k.bytes = false → malformedFrame k.bytes = true → ∃ t, exec (.frameParse 0) s = .next t ∧ t.mrv.malformed = satInc m.malformed ∧
          bitOf t.mrv.events 0 = true ∧ (t.netPort port).inbox = p.inbox.erase k ∧ (t.netPort port).expected = p.expected + 1 ∧ t.mrv.lanes = m.lanes ∧
          OnlyChanges [.net, .mrv, .out] s t) ∧
        (oddFrame k.bytes = true → k.reinjected = true → ∃ t, exec (.frameParse 0) s = .next t ∧ t.mrv.slowDrop = satInc m.slowDrop ∧
          bitOf t.mrv.events 1 = true ∧ (t.netPort port).expected = p.expected + 1 ∧ OnlyChanges [.net, .mrv, .out] s t) ∧
        (∀ d, oddFrame k.bytes = true → k.reinjected = false → s.netKey 0xD 2 = d → d < 6 → isFragment k.bytes = false →
          (m.slowQ.getD d []).length < 4096 → ∃ t, exec (.frameParse 0) s = .next t ∧ t.mrv.slow = satInc m.slow ∧
            t.mrv.slowQ.getD d [] = m.slowQ.getD d [] ++ [k] ∧ (t.netPort port).expected = p.expected + 1 ∧ OnlyChanges [.net, .mrv, .out] s t)) ∧
      (∀ sram, 2 ≤ sram → ∃ t, exec (.frameParse sram) s = .next t ∧ t.mrv.lanes = [] ∧ bitOf t.mrv.events 7 = true ∧
        (t.netPort port).inbox = p.inbox.erase k ∧ OnlyChanges [.fab, .freeCtr, .net, .mrv, .out] s t)) ∧
    (∀ sram, (s.ioRuns = false ∨ m.lanes.getD lane [] = []) → exec (.laneProcess lane sram) s = .next s) ∧
    (s.ioRuns = true → m.lanes.getD lane [] = k :: r →
      let u := s.modMrv fun m => { m with lanes := m.lanes.put lane r }
      let d := s.classDest k.cls
      let l := laneMarks k
      (∃ t, exec (.laneProcess lane 1) s = .next t ∧ t.mrv = { u.mrv with classDrops := m.classDrops.upd k.cls 0 satInc } ∧ OnlyChanges [.mrv] s t) ∧
      (∃ t, exec (.laneProcess lane 2) s = .next t ∧ t.mrv.lanes = [] ∧ bitOf t.mrv.events 7 = true ∧ (∀ n, (t.netPort n).inbox = (s.netPort n).inbox) ∧
        OnlyChanges [.fab, .freeCtr, .net, .mrv] s t) ∧
      (exec (.laneProcess lane 3) s = exec (.laneProcess lane 0) (s.sramRead 0 1) ∧ exec (.laneProcess lane 4) s = exec (.laneProcess lane 0) (s.sramRead 3 1)) ∧
      (d.1 < 3 → (s.netPort k.port).skipped.contains k.seq = false → k.seq ≠ (s.netPort k.port).expected →
        (s.netPort k.port).done.find? (s.netPort k.port).expected = none → ∃ t, exec (.laneProcess lane 0) s = .next t ∧
          t.netPort k.port = { s.netPort k.port with done := (s.netPort k.port).done.put k.seq (some l) } ∧ t.mrv = u.mrv ∧ OnlyChanges [.net, .mrv] s t) ∧
      (d.1 < 3 → (s.netPort k.port).skipped.contains k.seq = true → (s.netPort k.port).done = [] → ∃ t, exec (.laneProcess lane 0) s = .next t ∧
        t.mrv = { u.mrv with reorderSkip := satInc m.reorderSkip } ∧ t.fab.lateDiscard = satInc s.fab.lateDiscard ∧ OnlyChanges [.net, .mrv, .fab, .freeCtr] s t) ∧
      (empty (s.netPort k.port) → k.seq = (s.netPort k.port).expected →
        (∀ c, 3 ≤ d.1 → d.1 ≤ 5 → slowCore d.1 = c → c < 6 → (m.slowQ.getD c []).length < 4096 → ∃ t, exec (.laneProcess lane 0) s = .next t ∧
          t.mrv.slow = satInc m.slow ∧ t.mrv.slowQ.getD c [] = m.slowQ.getD c [] ++ [l] ∧ (t.netPort k.port).expected = k.seq + 1 ∧ OnlyChanges [.net, .mrv] s t) ∧
        (4096 ≤ s.prof 7 0 (0x5000 + k.cls) 0xFFFF →
          (d.1 = 0 → ∃ t, exec (.laneProcess lane 0) s = .next t ∧ t.mrv = { u.mrv with classDrops := m.classDrops.upd k.cls 0 satInc } ∧
            (t.netPort k.port).expected = k.seq + 1 ∧ OnlyChanges [.net, .mrv] s t) ∧
          (d.1 = 1 → ∃ t, exec (.laneProcess lane 0) s = .next t ∧ t.mrv = { u.mrv with toRme := m.toRme ++ [l] } ∧
            (t.netPort k.port).expected = k.seq + 1 ∧ OnlyChanges [.net, .mrv] s t) ∧
          (∀ b f g x y, d.1 = 2 → s.ringRec d.2.2 = some b → (s.ring d.2.2).error = false → ringTx b = false →
            ((s.ring d.2.2).count + 2 ^ 31 - s.ringSoft b) % 2 ^ 31 < ringSize b →
            s.fab.writeDev (ringTenant b) (ringBase b + ringSlot b * ((s.ring d.2.2).count % ringSize b)) (slotHeader l ++ l.bytes) = .ok (f, x) →
            f.writeDev (ringTenant b) (ringIndex b) (natLe (((s.ring d.2.2).count + 1) % 2 ^ 31) 8) = .ok (g, y) → f.flags = [] → s.mem.fenced = false →
            ∃ t, exec (.laneProcess lane 0) s = .next t ∧ t.fab = (if x.any f.pendingIn then
                { f with flags := [⟨ringTenant b, ringIndex b, natLe (((s.ring d.2.2).count + 1) % 2 ^ 31) 8, x⟩] } else g) ∧ (t.ring d.2.2).count = ((s.ring d.2.2).count + 1) % 2 ^ 31 ∧
              t.mrv.classDrops = m.classDrops ∧ OnlyChanges [.net, .mrv, .fab] s t))) ∧
      (d.1 = 6 →
        (k.esp = true → ∃ t, exec (.laneProcess lane 0) s = .next t ∧ t.mrv.espBadSa = satInc m.espBadSa) ∧
        (∀ v, k.esp = false → u.espInbound k d.2.1 = (v, .bad) → ∃ t, exec (.laneProcess lane 0) s = .next t ∧ t.mrv.espBadSa = satInc m.espBadSa) ∧
        (∀ v, k.esp = false → u.espInbound k d.2.1 = (v, .replay) → ∃ t, exec (.laneProcess lane 0) s = .next t ∧ t.mrv.espReplay = satInc m.espReplay ∧
          t.mrv.saIn = m.saIn) ∧
        (∀ v, k.esp = false → u.espInbound k d.2.1 = (v, .auth) → ∃ t, exec (.laneProcess lane 0) s = .next t ∧ t.mrv.espAuthFail = satInc m.espAuthFail ∧
          t.mrv.saIn = m.saIn) ∧
        (∀ v w x y, k.esp = false → u.espInbound k d.2.1 = (v, .clear x) → v.parse x = (w, some y) → (w.classDest y.cls).1 ≠ 6 →
          exec (.laneProcess lane 0) s = .next (w.place (laneMarks y)) ∧ x.esp = true ∧ x.seq = k.seq ∧ x.port = k.port))) ∧
    ((p.seq ≤ p.expected ∨ (p.done.find? p.expected).isSome) → exec (.reorderSkip port) s = .next s) ∧
    (p.expected < p.seq → p.done.find? p.expected = none → p.done.find? (p.expected + 1) = none → ∃ t, exec (.reorderSkip port) s = .next t ∧
      t.netPort port = { p with expected := p.expected + 1, skipped := p.skipped ++ [p.expected] } ∧
      t.mrv = { m with reorderSkip := satInc m.reorderSkip, events := setBit m.events 2 } ∧ OnlyChanges [.net, .mrv] s t) ∧
    (∀ i, (m.frags.length ≤ i → exec (.fragmentTimeout i) s = .next s) ∧
      (i < m.frags.length → ∃ t, exec (.fragmentTimeout i) s = .next t ∧
        t.mrv = { m with frags := m.frags.eraseIdx i, slowDrop := satInc m.slowDrop, events := setBit m.events 1, lateFrags := m.lateFrags ++ (m.frags[i]?.map (·.key)).toList } ∧
        t.fab.timeoutWon = satInc s.fab.timeoutWon ∧ OnlyChanges [.mrv, .fab, .freeCtr] s t))

/-- R372, R373, R380 to R393: the transmit side. A frame offered to a leaf queue by a source that does not own the leaf is foreign; one without room is held by a no_drop queue and dropped by any other; a placed frame joins the queue's end, marked by ECN. A port sends the frame its tree selects, its nodes pay the charge, and a shaper's level rises with the tally. A read of a high-water mark clears it; an uncorrectable error of a queue flushes it. -/
def Obligations.TrafficQueues : Prop :=
  ∀ (s : State) (port l : Nat) (src : TxSrc) (f : TxFrame) (b : Bytes),
    let run := s.ioRuns = true
    let use := (s.leaf l).cells
    let n := cellsOf f.bytes
    let mayPlace := fun (nb : Bytes) => s.node l = some nb ∧ (s.path l).isSome ∧ s.leafTenant l = some f.tenant
    let room := fun (nb : Bytes) => use + n ≤ nodeMaxCells nb ∧ s.poolUse + n ≤ s.egressCells
    let placed := fun (t : State) (nb : Bytes) =>
      (t.leaf l).frames = (s.leaf l).frames ++ [{ f with bytes := (ecnMark nb f.bytes use).1, stamp := s.tmTally }] ∧
      (t.leaf l).hwmCells = max (s.leaf l).hwmCells (use + n) ∧ (t.leaf l).drops = (s.leaf l).drops ∧
      (t.leaf l).ecn = (if (ecnMark nb f.bytes use).2 then satInc (s.leaf l).ecn else (s.leaf l).ecn) ∧ t.tm.poolHwm ≥ s.tm.poolHwm
    let byCore := exec (.leafEnqueue (.core2 f.tenant l f.bytes)) s
    (s.ioRuns = false → exec (.leafEnqueue src) s = .next s ∧ ∀ sram, exec (.transmitStart port sram) s = .next s) ∧
    (f = { bytes := f.bytes, tenant := f.tenant } → run →
      ((s.node l = none ∨ s.path l = none ∨ s.leafTenant l ≠ some f.tenant) → ∃ t, byCore = .next t ∧
        t.tm = { s.tm with foreignDrops := satInc s.tm.foreignDrops, events := setBit s.tm.events 2 } ∧ OnlyChanges [.tm] s t) ∧
      (∀ nb, mayPlace nb →
        (nodeNoDrop nb = true → ¬ room nb → ∃ t, byCore = .next t ∧ t.leaf l = { s.leaf l with sourceHeld := true } ∧ bitOf t.tm.events 4 = true ∧
          OnlyChanges [.tm] s t) ∧
        (4096 ≤ nodePolicer nb →
          (room nb → ∃ t, byCore = .next t ∧ placed t nb ∧ OnlyChanges [.tm] s t) ∧
          (nodeNoDrop nb = false → ¬ room nb → ∃ t, byCore = .next t ∧ t.leaf l = { s.leaf l with drops := satInc (s.leaf l).drops } ∧
            bitOf t.tm.events 0 = true ∧ t.tm.poolDrops = (if s.poolUse + n ≤ s.egressCells then s.tm.poolDrops else satInc s.tm.poolDrops) ∧
            OnlyChanges [.tm] s t))) ∧
      (s.rme.tx = [] → exec (.leafEnqueue .rme) s = .next s) ∧
      (∀ r x nb, s.rme.tx = x :: r → x.leaf = l → x.bytes = f.bytes → x.tenant = f.tenant → mayPlace nb → 4096 ≤ nodePolicer nb →
        (room nb → ∃ t, exec (.leafEnqueue .rme) s = .next t ∧ placed t nb ∧ t.rme = { s.rme with tx := r } ∧ OnlyChanges [.tm, .rme] s t) ∧
        (nodeNoDrop nb = true → ¬ room nb → ∃ t, exec (.leafEnqueue .rme) s = .next t ∧ t.rme = s.rme ∧ (t.leaf l).sourceHeld = true ∧
          OnlyChanges [.tm] s t))) ∧
    (∀ i rb, run → s.ringRec i = some rb → let k := (s.ring i).count
      let a := ringBase rb + ringSlot rb * (k % ringSize rb);
      (((s.ring i).error = true ∨ ringTx rb = false ∨ s.ringSoft rb = k) → exec (.leafEnqueue (.ring i)) s = .next s) ∧
      ((s.ring i).error = false → ringTx rb = true → s.ringSoft rb ≠ k →
        (∀ e, s.fab.readDev (ringTenant rb) a 32 = .error e → ∃ t, exec (.leafEnqueue (.ring i)) s = .next t ∧ (t.ring i).error = true ∧
          bitOf t.mrv.events 8 = true ∧ (e ≠ 0x30 → t.fab = s.fab) ∧ OnlyChanges [.fab, .log, .mrv] s t) ∧
        (∀ h x, s.fab.readDev (ringTenant rb) a 32 = .ok h → s.fab.readDev (ringTenant rb) (a + 32) (fieldAt h 0 2) = .ok x →
          (∀ v, s.offer (ringLeaf rb) (slotFrame (ringTenant rb) h x) = (v, .held) → exec (.leafEnqueue (.ring i)) s = .next v) ∧
          (∀ v o w, s.offer (ringLeaf rb) (slotFrame (ringTenant rb) h x) = (v, o) → o ≠ .held →
            v.flagWrite (ringTenant rb) (ringIndex rb) (natLe ((k + 1) % 2 ^ 31) 8) [] = some w → ∃ t, exec (.leafEnqueue (.ring i)) s = .next t ∧
              (t.ring i).count = (k + 1) % 2 ^ 31 ∧ t.fab = w.fab ∧ t.tm = v.tm ∧ OnlyChanges [.tm, .fab, .mrv] s t)))) ∧
    ((s.netPorts ≤ port ∨ (s.netPort port).linkUp = false ∨ s.headLeaf 4 (portKey port) = none) → ∀ sram, exec (.transmitStart port sram) s = .next s) ∧
    (run → port < s.netPorts → (s.netPort port).linkUp = true → s.headLeaf 4 (portKey port) = some l →
      (∃ t, exec (.transmitStart port 2) s = .next t ∧ bitOf t.tm.events 5 = true ∧ OnlyChanges [.tm] s t ∧
        t.leaf l = { s.leaf l with frames := [], drops := satAdd (s.leaf l).drops (s.leaf l).frames.length, sourceHeld := false }) ∧
      (∃ t, exec (.transmitStart port 3) s = .next t ∧ bitOf t.tm.events 0 = true ∧ OnlyChanges [.tm] s t ∧
        t.leaf l = { s.leaf l with frames := (s.leaf l).frames.drop 1, drops := satInc (s.leaf l).drops, sourceHeld := false }) ∧
      exec (.transmitStart port 1) s = exec (.transmitStart port 0) (s.sramRead 2 1) ∧ exec (.transmitStart port 4) s = exec (.transmitStart port 0) (s.sramRead 0 1)) ∧
    (∀ r c te pt v, run → port < s.netPorts → (s.netPort port).linkUp = true → s.headLeaf 4 (portKey port) = some l → (s.leaf l).frames = f :: r →
      s.path l = some (c, te, pt) →
      (s.espOutbound f = (v, .drop) → ∃ t, exec (.transmitStart port 0) s = .next t ∧ (t.leaf l).frames = r ∧ (t.leaf l).sourceHeld = false ∧ t.out = s.out) ∧
      (s.espOutbound f = (v, .send b) → ∃ t, exec (.transmitStart port 0) s = .next t ∧ t.out = s.out ++ [.frame port b] ∧ (t.leaf l).frames = r ∧
        (t.leaf l).sourceHeld = false ∧ (t.leaf l).hwmSojourn = max (s.leaf l).hwmSojourn ((s.tmTally + 2 ^ 63 - f.stamp) % 2 ^ 63) ∧
        (∀ x ∈ [l, classKey c, tenantKey te], (t.tmNode x).level = (if s.nodeRate x = 0 then (s.tmNode x).level else (s.tmNode x).level - s.charge port f)) ∧
        (f.sa = none → b = f.bytes ∧ OnlyChanges [.tm, .out] s t))) ∧
    (∀ us, ∃ t, exec (.shaperRefill us) s = .next t ∧ OnlyChanges [.tm] s t ∧
      (∀ k, (k ∉ s.nodeKeys ∨ s.nodeRate k = 0) → (t.tmNode k).level = (s.tmNode k).level) ∧
      (∀ k nb, s.nodeKeys.count k = 1 → s.node k = some nb → s.nodeRate k ≠ 0 →
        (t.tmNode k).level = min (nodeBurst nb : Int) ((s.tmNode k).level + (((s.tmNode k).frac + s.nodeRate k * us) / 8000 : Nat)))) ∧
    (∀ off, (off ≠ 0xC → off ≠ 0x28 → off ≠ 0x2C → exec (.hwmRead off) s = .next s) ∧
      ((off = 0xC ∨ off = 0x28 ∨ off = 0x2C) → ∃ t, exec (.hwmRead off) s = .next t ∧ t.out = s.out ++ [.readData 0xA off ((s.tmRead off).getD 0)] ∧
        (off = 0xC → t.tm = { s.tm with poolHwm := 0 }) ∧ (off = 0x28 → t.leaf s.tm.qSel = { s.leaf s.tm.qSel with hwmCells := 0 }) ∧
        (off = 0x2C → t.leaf s.tm.qSel = { s.leaf s.tm.qSel with hwmSojourn := 0 }) ∧ OnlyChanges [.tm, .out] s t))

/-! ## The remote memory engine (spec/15) -/

/-- R399, R400, R402 to R411, R413, R418, R421: control rings, work requests, windows and targets. An entry of a tenant's control ring is consumed with its status; CREATE makes a context in INIT, CONNECT takes it to RTS, DESTROY frees it. A posted work request starts in order: it waits for its fence, its limit and its counter, fails with a bad entry or a failed dependency, and otherwise its packets leave. A window opens over mapped panes with a new generation; a revoked one ends once its admitted messages have. -/
def Obligations.QueuePairs : Prop :=
  ∀ (s : State) (tenant i n : Nat) (r : CmdRef) (c : Cmd) (q : Qp) (e : Bytes),
    (∀ base index size sync b, s.ctlRing tenant = some (base, index, size, sync) → let k := s.rme.consumed.getD tenant 0
      let a := base + 64 * (k % size)
      let posted := countDiff (s.countOf tenant sync) k ≠ 0 ∧ s.tenantOn tenant = true ∧ s.ioRuns = true ∧ s.handing 2 = false ∧ s.fab.readDev tenant a 64 = .ok e
      let answer := fun (v : State) (st : Nat) => let w := v.rmeWrite tenant (a + 1) (natLe st 1)
        Host.Outcome.next (((w.flagWrite tenant index (natLe ((k + 1) % 2 ^ 31) 8) (w.unsettledIn tenant a 64)).getD w).modRme fun r =>
          { r with consumed := r.consumed.put tenant ((k + 1) % 2 ^ 31) })
      let op := fieldAt e 0 1
      let num := fieldAt e 4 4;
      ((countDiff (s.countOf tenant sync) k = 0 ∨ s.tenantOn tenant = false ∨ s.ioRuns = false ∨ s.handing 2 = true) →
        exec (.create tenant) s = .next s ∧ exec (.connect tenant b) s = .next s ∧ exec (.destroy tenant) s = .next s) ∧
      (posted →
        ((op = 0 ∨ 3 < op) → exec (.create tenant) s = answer s 0x10) ∧
        (op ≠ 1 → 0 < op → op ≤ 3 → exec (.create tenant) s = .next s) ∧
        (op ≠ 2 → exec (.connect tenant b) s = .next s) ∧ (op ≠ 3 → exec (.destroy tenant) s = .next s) ∧
        (op = 1 → let sq := fieldAt e 0x28 1
          let rq := fieldAt e 0x29 1
          let cq := fieldAt e 0x2A 1
          let mapped := s.rangeMapped tenant (fieldAt e 8 8) (64 * 2 ^ sq) = true ∧ (rq = 0 ∨ s.rangeMapped tenant (fieldAt e 0x10 8) (32 * 2 ^ rq) = true) ∧
            s.rangeMapped tenant (fieldAt e 0x18 8) (32 * 2 ^ cq) = true ∧ s.rangeMapped tenant (fieldAt e 0x20 8) 8 = true;
          (badCreate s e = true → exec (.create tenant) s = answer s 0x10) ∧
          (badCreate s e = false → ¬ mapped → exec (.create tenant) s = answer s 0x11) ∧
          (badCreate s e = false → mapped → s.leafTenant (fieldAt e 0x34 4) ≠ some tenant → exec (.create tenant) s = answer s 0x12) ∧
          (badCreate s e = false → mapped → s.leafTenant (fieldAt e 0x34 4) = some tenant →
            (s.qpMax tenant ≤ s.rme.qpsOf tenant → exec (.create tenant) s = answer s 0x13) ∧
            (∀ j, s.rme.qpsOf tenant < s.qpMax tenant → lowestFree (s.rme.qps.map (·.1)) 0x40000 262144 = some j → ∃ v x,
              exec (.create tenant) s = answer (v.rmeWrite tenant (a + 4) (natLe j 4)) 0 ∧ v.qp? j = some x ∧ x.tenant = tenant ∧ x.state = 1 ∧ x.job = false ∧
                x.paths = fieldAt e 0x2B 1 ∧ x.leaf = fieldAt e 0x34 4 ∧ x.sqBase = fieldAt e 8 8 ∧ x.rqBase = fieldAt e 0x10 8 ∧ x.cqBase = fieldAt e 0x18 8 ∧
                x.sqIndexAddr = fieldAt e 0x20 8 ∧ x.sqLog = sq ∧ x.rqLog = rq ∧ x.cqLog = cq ∧ x.sqSync = fieldAt e 0x2C 2 ∧ x.rqSync = fieldAt e 0x2E 2 ∧
                x.cqSync = fieldAt e 0x30 2 ∧ x.sqTaken = 0 ∧ x.rqTaken = 0 ∧ x.cqTail = 0 ∧ (∀ m, m ≠ j → v.qp? m = s.qp? m) ∧ OnlyChanges [.rme] s v))) ∧
        (op = 2 →
          (s.qp? num = none → exec (.connect tenant b) s = answer s 0x10) ∧
          (s.qp? num = some q → (q.tenant ≠ tenant ∨ q.job = true) → exec (.connect tenant b) s = answer s 0x12) ∧
          (s.qp? num = some q → q.tenant = tenant → q.job = false →
            ((q.state ≠ 1 ∨ badConnect e (s.gids tenant).length = true) → exec (.connect tenant b) s = answer s 0x10) ∧
            (q.state = 1 → badConnect e (s.gids tenant).length = false → 1 < q.paths → b = false → exec (.connect tenant b) s = answer s 0x13) ∧
            (q.state = 1 → badConnect e (s.gids tenant).length = false → (q.paths ≤ 1 ∨ b = true) → let w := fieldAt e 0x18 8
              ∃ v, exec (.connect tenant b) s = answer v 0 ∧ v.qp? num = some { q with
                state := 3, gid := (s.gids tenant).getD (w % 256) [], peer := slice e 8 16, peerQpn := fieldAt e 0x20 3, mtu := 128 * 2 ^ (w / 2 ^ 8 % 256)
                timeout := w / 2 ^ 16 % 256, retryCnt := w / 2 ^ 24 % 8, rnrRetry := w / 2 ^ 27 % 8, minRnr := w / 2 ^ 30 % 32, nextPsn := fieldAt e 0x24 3
                e := fieldAt e 0x28 3, outReads := fieldAt e 0x2B 1 } ∧ (∀ m, m ≠ num → v.qp? m = s.qp? m) ∧ OnlyChanges [.rme] s v))) ∧
        (op = 3 →
          (s.qp? num = none → exec (.destroy tenant) s = answer s 0x10) ∧
          (s.qp? num = some q → (q.tenant ≠ tenant ∨ q.job = true) → exec (.destroy tenant) s = answer s 0x12) ∧
          (s.qp? num = some q → q.tenant = tenant → q.job = false → ∃ t, exec (.destroy tenant) s = .next t ∧ t.qp? num = none ∧
            (∀ m, m ≠ num → t.qp? m = s.qp? m) ∧ t.rme.consumed.getD tenant 0 = (k + 1) % 2 ^ 31 ∧ OnlyChanges (.rme :: recordParts) s t)))) ∧
    (∀ (op : Nat) (o : Host.Outcome State Fault Refusal), (op, o) ∈ [(0, exec (.rdmaWrite n) s), (1, exec (.rdmaWriteWithImmediate n) s), (2, exec (.rdmaSend n) s),
        (3, exec (.rdmaSendWithImmediate n) s), (4, exec (.rdmaRead n) s)] →
      (s.qp? n = none → o = .next s) ∧
      (s.qp? n = some q →
        let reads := q.wrs.filter fun w => w.op = 4 ∧ w.done.isNone
        let ctr := (s.con.fn q.tenant).sync.getD (fieldAt e 0x28 2) 0
        let posted := countDiff (s.countOf q.tenant q.sqSync) q.sqTaken ≠ 0 ∧ s.slotFree q = true ∧ q.job = false ∧ s.ioRuns = true
        let runs := posted ∧ q.state = 3 ∧ q.rnrWait = false ∧ s.fab.readDev q.tenant (q.sqBase + 64 * (q.sqTaken % 2 ^ q.sqLog)) 64 = .ok e
        let len := fieldAt e 0x18 4
        let addr := fieldAt e 0x10 8
        let may := badEntry e = false ∧ fieldAt e 0 1 = op ∧ (fieldAt e 1 1 / 2 % 2 = 0 ∨ reads = []) ∧ (op = 4 → reads.length < q.outReads)
        let failed := fun (st : Nat) => ∃ t x, o = .next t ∧ t.qp? n = some x ∧ x.sqTaken = (q.sqTaken + 1) % 2 ^ 31 ∧ x.cqTail = (q.cqTail + 1) % 2 ^ 31 ∧ x.wrs = [] ∧
          x.state = q.state ∧ x.sent = q.sent ∧ x.nextPsn = q.nextPsn ∧ t.rme.tx = s.rme.tx ∧ OnlyChanges [.rme, .fab, .con] s t ∧
          t.fab = ((s.rmeWrite q.tenant q.sqIndexAddr (natLe ((q.sqTaken + 1) % 2 ^ 31) 8)).rmeWrite q.tenant (q.cqBase + 32 * (q.cqTail % 2 ^ q.cqLog))
            (slice e 8 8 ++ natLe st 1 ++ natLe (fieldAt e 0 1) 1 ++ natLe (128 * (1 - q.cqTail / 2 ^ q.cqLog % 2)) 1 ++ [0] ++ natLe n 4 ++ natLe len 4 ++ natLe 0 4 ++ zeros 8)).fab
        (¬ posted → o = .next s) ∧
        (posted → q.state ≠ 3 → q.state ≠ 4 → o = .next s) ∧ (posted → q.state = 3 → q.rnrWait = true → o = .next s) ∧
        (posted → q.state = 4 → o = .next (s.flushPosted n)) ∧
        (runs →
          (fieldAt e 0 1 ≠ op → fieldAt e 0 1 ≤ 4 → o = .next s) ∧
          (badEntry e = true → (fieldAt e 0 1 = op ∨ 4 < fieldAt e 0 1) → q.wrs = [] → failed 0x10) ∧
          (badEntry e = false → fieldAt e 0 1 = op → (fieldAt e 1 1 / 2 % 2 = 1 ∧ reads ≠ [] ∨ op = 4 ∧ q.outReads ≤ reads.length) → o = .next s) ∧
          (may → fieldAt e 1 1 / 4 % 2 = 1 → waitMet ctr (fieldAt e 0x2C 4) = false → o = .next s) ∧
          (may → fieldAt e 1 1 / 4 % 2 = 1 → waitMet ctr (fieldAt e 0x2C 4) = true → bitOf ctr 31 = true → q.wrs = [] → failed 0x80) ∧
          (may → (fieldAt e 1 1 / 4 % 2 = 0 ∨ (waitMet ctr (fieldAt e 0x2C 4) = true ∧ bitOf ctr 31 = false)) →
            (addr / 2 ^ 60 ≠ 0 → addr / 2 ^ 60 ≠ 2 ∨ q.tenant ≠ 0 → q.wrs = [] → failed 0x11) ∧
            (op = 4 → addr / 2 ^ 60 = 0 → ∃ t x, o = .next t ∧ t.qp? n = some x ∧ x.sqTaken = (q.sqTaken + 1) % 2 ^ 31 ∧
              x.wrs = q.wrs ++ [{ entry := e, first := q.nextPsn, n := packetsOf len q.mtu }] ∧ x.sent = q.sent ++ [readPacket q e] ∧
              x.nextPsn = psnAdd q.nextPsn (packetsOf len q.mtu) ∧ t.rme.tx.length = s.rme.tx.length + 1 ∧ OnlyChanges [.rme, .fab] s t) ∧
            (∀ bs, op < 4 → addr / 2 ^ 60 = 0 → s.readC (qpOwner n) q.tenant addr len = .data bs → let ps := wrPackets q e bs
              ∃ t x, o = .next t ∧ t.qp? n = some x ∧ x.sqTaken = (q.sqTaken + 1) % 2 ^ 31 ∧
              x.wrs = q.wrs ++ [{ entry := e, first := q.nextPsn, n := ps.length }] ∧ x.sent = q.sent ++ ps ∧
              x.nextPsn = psnAdd q.nextPsn ps.length ∧ t.rme.tx.length = s.rme.tx.length + ps.length ∧ OnlyChanges [.rme, .fab, .apt, .hep] s t))))) ∧
    (Started s r 5 0x20 [(0x10, 1), (0x11, 1), (0x14, 4), (0x18, 8), (0x20, 8)] c → let o := exec (.windowOpen r) s
      (∀ x, s.tenantArg r.fn 0x10 c = .error x → o = .next (s.failAt r x.1 x.2)) ∧
      (∀ t, s.tenantArg r.fn 0x10 c = .ok t → let len := c.fld 0x20 8
        let rights := 1 ≤ c.fld 0x11 1 ∧ c.fld 0x11 1 ≤ 3
        let sized := 0 < len ∧ len ≤ 2 ^ 40
        let inside := c.fld 0x18 8 + len ≤ 2 ^ 48 ∧ s.rangeMapped t (c.fld 0x18 8) len = true
        let okQp := c.fld 0x14 4 = 0 ∨ ((s.qp? (c.fld 0x14 4)).map (·.tenant)) = some t;
        (¬ rights → o = .next (s.failAt r 0x10 0x11)) ∧ (rights → ¬ sized → o = .next (s.failAt r 0x10 0x20)) ∧
        (rights → sized → ¬ inside → o = .next (s.failAt r 0x11 (if 2 ^ 48 < c.fld 0x18 8 + len then 0x20 else 0x18))) ∧ (rights → sized → inside → ¬ okQp → o = .next (s.failAt r 0x12 0x14)) ∧
        (rights → sized → inside → okQp →
          (s.rmeKey (0x120 + t) (if t = 0 then 4096 else 0) ≤ s.rme.windowsOf t → o = .next (s.finish r 0x13 0 0)) ∧
          (∀ j, s.rme.windowsOf t < s.rmeKey (0x120 + t) (if t = 0 then 4096 else 0) → s.rme.freeWindow = some j →
            let g := ((s.rme.windows.getD j {}).gen + 1) % 4096
            let w : RmeWindow := { gen := g, isOpen := true, tenant := t, rights := c.fld 0x11 1, qpn := c.fld 0x14 4, base := c.fld 0x18 8, len := len }
            ∃ v, o = .next (v.finish r 0 (j + g * 2 ^ 20) 0) ∧ v.rme = { s.rme with windows := s.rme.windows.put j w } ∧ OnlyChanges [.rme] s v)))) ∧
    (Started s r 5 0x21 [(0x10, 1), (0x14, 4)] c → c.accepted = false → let o := exec (.windowRevoke r) s
      let key := c.fld 0x14 4;
      (∀ x, s.tenantArg r.fn 0x10 c = .error x → o = .next (s.failAt r x.1 x.2)) ∧
      (∀ t, s.tenantArg r.fn 0x10 c = .ok t →
        (s.rme.windows.find? (key % 2 ^ 20) = none → o = .next (s.failAt r 0x11 0x14)) ∧
        (∀ w, s.rme.windows.find? (key % 2 ^ 20) = some w →
          ((w.isOpen = false ∨ w.gen ≠ key / 2 ^ 20) → o = .next (s.failAt r 0x11 0x14)) ∧
          (w.isOpen = true → w.gen = key / 2 ^ 20 →
            (w.tenant ≠ t → o = .next (s.failAt r 0x12 0x14)) ∧
            (w.tenant = t → (∀ x ∈ s.rme.windows, x.2.revoke = none) →
              (s.rme.inFlight (key % 2 ^ 20) = true → ∃ t, o = .next t ∧ t.rme.windows.find? (key % 2 ^ 20) = some { w with isOpen := false, revoke := some r } ∧
                t.rme.qps = s.rme.qps ∧ OnlyChanges (.rme :: recordParts) s t) ∧
              (s.rme.inFlight (key % 2 ^ 20) = false → ∃ v, o = .next (v.finish r 0 0 0) ∧
                v.rme.windows.find? (key % 2 ^ 20) = some { w with isOpen := false, revoke := none } ∧ v.rme.qps = s.rme.qps ∧
                OnlyChanges (.rme :: recordParts) s v)))))) ∧
    (((s.rme.windows.getD i {}).isOpen = true ∨ s.rme.inFlight i = false) → exec (.drainLimit i) s = .next s) ∧
    ((s.rme.windows.getD i {}).isOpen = false → s.rme.inFlight i = true → ∃ t, exec (.drainLimit i) s = .next t ∧ bitOf t.rme.events 3 = true ∧
      ∀ j x, s.qp? j = some x → (∃ m ∈ x.msgs, m.window = i) → ∃ y, t.qp? j = some y ∧ y.state = 4) ∧
    (∀ serial b, ((s.target i = none ∨ s.ioRuns = false) → exec (.targetConnect i serial b) s = .next s) ∧
      (∀ x, s.target i = some x → s.ioRuns = true →
        (serial = some (slice x 0x18 16) → (fieldAt x 0 1 ≠ 1 ∨ b = true) → ∃ t, exec (.targetConnect i serial b) s = .next t ∧
          t.rme = { s.rme with targets := s.rme.targets.filter (· ≠ i) ++ [i] } ∧ OnlyChanges [.rme] s t) ∧
        (serial ≠ some (slice x 0x18 16) ∨ (fieldAt x 0 1 = 1 ∧ b = false) →
          (s.rme.targets.contains i = false → exec (.targetConnect i serial b) s = .next s) ∧
          (s.rme.targets.contains i = true → ∃ t, exec (.targetConnect i serial b) s = .next t ∧ t.rme.targets.contains i = false ∧
            bitOf t.rme.events 5 = true ∧ t.rme.qps = s.rme.qps ∧ OnlyChanges [.rme] s t))))

/-- R397, R401, R408, R414 to R417: what the engine does with its oldest packet. A packet with no good ICRC leaves; one no QP accepts is counted; a duplicate is counted and acknowledged again; one beyond the window of 512 is refused with a NAK; a WRITE at the expected PSN is placed and acknowledged, one no window admits is refused. An ACK frees what it acknowledges, a sequence NAK sends again, a fatal one and a retry limit end the QP in ERROR, an RNR NAK waits, a CNP halves the rate. An uncorrectable error of a context ends its QP in ERROR, one of a window closes it (DESIGN CHOICE, log 53). -/
def Obligations.RemotePackets : Prop :=
  ∀ (s : State) (p : Pkt) (rest : List Pkt) (k : Roce) (q : Qp) (due : Bool) (sram n : Nat),
    let rows := [exec (.inboundPacket due sram) s, exec .ackReceive s, exec .nakReceive s, exec .rnrNakReceive s, exec .cnpReceive s]
    let u := s.takePkt
    let accepted := s.mrv.toRme = p :: rest ∧ roceOf p.bytes = some k ∧ k.qpn ≠ 0x03FFFF ∧ s.accepts k = some q
    let qpAfter := fun (o : Host.Outcome State Fault Refusal) (P : State → Qp → Prop) => ∃ t x, o = .next t ∧ t.qp? k.qpn = some x ∧ t.mrv = u.mrv ∧ P t x;
    (s.mrv.toRme = [] → ∀ o ∈ rows, o = .next s) ∧
    (s.mrv.toRme = p :: rest → u.mrv = { s.mrv with toRme := rest } ∧ OnlyChanges [.mrv] s u ∧
      (roceOf p.bytes = none → exec (.inboundPacket due sram) s = .next u ∧ exec .ackReceive s = .next s ∧ exec .nakReceive s = .next s ∧
        exec .rnrNakReceive s = .next s ∧ exec .cnpReceive s = .next s) ∧
      (roceOf p.bytes = some k → k.qpn = 0x03FFFF → ∃ t, exec (.inboundPacket due sram) s = .next t ∧ t.mrv = u.mrv ∧
        t.rme = { s.rme with setup := s.rme.setup ++ [p.bytes] } ∧ OnlyChanges [.mrv, .rme] s t) ∧
      (roceOf p.bytes = some k → k.qpn ≠ 0x03FFFF → s.accepts k = none → ∃ t, exec (.inboundPacket due sram) s = .next t ∧ t.mrv = u.mrv ∧
        t.rme = { s.rme with tenantDrops := satInc s.rme.tenantDrops, events := setBit s.rme.events 4 } ∧ OnlyChanges [.mrv, .rme] s t)) ∧
    (accepted →
      (k.kind ≠ .other → exec (.inboundPacket due sram) s = .next s) ∧ (k.kind ≠ .ack → exec .ackReceive s = .next s) ∧
      ((∀ c, k.kind ≠ .nak c) → exec .nakReceive s = .next s) ∧ ((∀ c, k.kind ≠ .rnr c) → exec .rnrNakReceive s = .next s) ∧
      (k.kind ≠ .cnp → exec .cnpReceive s = .next s) ∧
      (k.kind = .other → qpAfter (exec (.inboundPacket due 2) s) fun t x => x.state = 4 ∧ t.rme.qpErrors = satInc s.rme.qpErrors ∧
        t.rme.tenantDrops = satInc s.rme.tenantDrops) ∧
      (k.kind = .other → p.ce = false → 0x10 < k.op → exec (.inboundPacket due 1) s = .next (u.sramRead 1 1)) ∧
      (k.kind = .other → p.ce = false → 3 ≤ sram → k.hasReth = true → psnSub k.psn q.e < 512 → q.heldPkts = [] →
        qpAfter (exec (.inboundPacket due sram) s) fun t x => t.rme.accessNaks = satInc s.rme.accessNaks ∧ x.e = q.e ∧ x.msgs = q.msgs ∧
          (t.rme.windows.getD ((rethOf k.body).2.1 % 2 ^ 20) {}).isOpen = false ∧ OnlyChanges [.mrv, .rme] s t) ∧
      (k.kind = .other → 0x10 < k.op → p.ce = true → (due = true ∨ q.cnpSent = false) → qpAfter (exec (.inboundPacket due 0) s) fun t x =>
        x.cnpSent = true ∧ x.e = q.e ∧ t.rme.tx.length = s.rme.tx.length + 1 ∧ OnlyChanges [.mrv, .rme] s t) ∧
      (k.kind = .other → p.ce = false →
        (0x10 < k.op → exec (.inboundPacket due 0) s = .next u) ∧
        (k.op < 0xC → 2 ^ 23 ≤ psnSub k.psn q.e → qpAfter (exec (.inboundPacket due 0) s) fun t x =>
          t.rme.dups = satInc s.rme.dups ∧ x.e = q.e ∧ x.unacked = 0 ∧ t.rme.tx.length = s.rme.tx.length + 1 ∧ OnlyChanges [.mrv, .rme] s t) ∧
        (k.op ≤ 0xC → 512 ≤ psnSub k.psn q.e → psnSub k.psn q.e < 2 ^ 23 → qpAfter (exec (.inboundPacket due 0) s) fun t x =>
          t.rme.beyond = satInc s.rme.beyond ∧ x.e = q.e ∧ x.nakSent = true ∧ x.heldPkts = q.heldPkts ∧
          t.rme.tx.length = s.rme.tx.length + (if q.nakSent then 0 else 1) ∧ OnlyChanges [.mrv, .rme] s t) ∧
        (k.op ≤ 0xC → psnSub k.psn q.e < 512 → (q.heldPkts.find? k.psn).isSome → ∃ t, exec (.inboundPacket due 0) s = .next t ∧ t.mrv = u.mrv ∧
          t.rme = { s.rme with dups := satInc s.rme.dups } ∧ OnlyChanges [.mrv, .rme] s t) ∧
        ((k.op = 6 ∨ k.op = 0xA ∨ k.op = 0xB ∨ k.op = 0xC) → psnSub k.psn q.e < 512 → q.heldPkts = [] →
          s.windowCheck k.qpn q.tenant (rethOf k.body).2.1 (rethOf k.body).1 (rethOf k.body).2.2 (k.op ≠ 0xC) = none →
          qpAfter (exec (.inboundPacket due 0) s) fun t x => t.rme.accessNaks = satInc s.rme.accessNaks ∧ x.e = q.e ∧ x.msgs = q.msgs ∧
            t.rme.tx.length = s.rme.tx.length + 1 ∧ OnlyChanges [.mrv, .rme] s t) ∧
        (∀ w a f h, k.op = 0xA → k.psn = q.e → q.heldPkts = [] → q.msgs = [] → (rethOf k.body).2.2 ≤ q.mtu → 0 < q.mtu →
          s.windowCheck k.qpn q.tenant (rethOf k.body).2.1 (rethOf k.body).1 (rethOf k.body).2.2 true = some (w, a) →
          s.fab.writeDev q.tenant a ((payloadOf k.op k.pad k.body).take (rethOf k.body).2.2) = .ok (f, h) →
          State.unsettled { s with fab := f } q.tenant a (rethOf k.body).2.2 = false → ∃ t x, exec (.inboundPacket due 0) s = .next t ∧ t.qp? k.qpn = some x ∧
            x.e = psnAdd q.e 1 ∧ x.msgs = [] ∧ x.heldPkts = [] ∧ x.msn = (q.msn + 1) % 2 ^ 24 ∧ x.unacked = 0 ∧ t.rme.tx.length = s.rme.tx.length + 1 ∧
            ((∀ y ∈ s.rme.windows, y.2.revoke = none) → t.fab = f ∧ OnlyChanges [.mrv, .rme, .fab] s t)) ∧
        (0xD ≤ k.op → k.op ≤ 0x10 → (∀ w ∈ q.wrs, w.op ≠ 4) → ∃ t, exec (.inboundPacket due 0) s = .next t ∧ t.mrv = u.mrv ∧
          t.rme = { s.rme with dups := satInc s.rme.dups } ∧ OnlyChanges [.mrv, .rme] s t)) ∧
      (k.kind = .ack →
        (q.job = true → qpAfter (exec .ackReceive s) fun t x => x = { q with fails := 0 } ∧ OnlyChanges [.mrv, .rme] s t) ∧
        (q.job = false → q.awaits k.psn = false → exec .ackReceive s = .next u) ∧
        (q.job = false → q.awaits k.psn = true → (∀ w ∈ q.wrs, w.op ≠ 4) → qpAfter (exec .ackReceive s) fun t x =>
          x.sent = (q.sent.filter fun y => !psnLe y.psn k.psn) ∧ x.fails = 0 ∧ x.rnrTries = 0 ∧ x.state = q.state ∧ x.nextPsn = q.nextPsn ∧
          t.rme.tx = s.rme.tx ∧ OnlyChanges [.mrv, .rme, .fab, .con] s t)) ∧
      (∀ code, k.kind = .nak code → let o := exec .nakReceive s
        (q.awaits k.psn = false → o = .next u) ∧
        (∀ y, q.awaits k.psn = true → code = 0 → (u.ackUpTo k.qpn (psnSub k.psn 1)).qp? k.qpn = some y →
          o = .next ((u.ackUpTo k.qpn (psnSub k.psn 1)).resend k.qpn (if 1 < y.paths then y.sent.filter fun z => z.psn = k.psn else y.sentFrom k.psn))) ∧
        (q.awaits k.psn = true → 1 ≤ code → code ≤ 3 → qpAfter o fun t x => x.state = 4 ∧ x.sent = [] ∧ x.msgs = [] ∧ x.heldPkts = [] ∧
          t.rme.qpErrors = satInc s.rme.qpErrors ∧ bitOf t.rme.events 0 = true) ∧
        (q.awaits k.psn = true → 3 < code → o = .next u)) ∧
      (∀ timer, k.kind = .rnr timer → let o := exec .rnrNakReceive s
        (q.awaits k.psn = false → o = .next u) ∧
        (q.awaits k.psn = true → (q.rnrRetry = 7 ∨ q.rnrTries < q.rnrRetry) → qpAfter o fun t x => x.rnrWait = true ∧ x.rnrTries = q.rnrTries + 1 ∧ x.state = q.state ∧
          t.rme.tx = s.rme.tx) ∧
        (q.awaits k.psn = true → q.rnrRetry ≠ 7 → q.rnrRetry ≤ q.rnrTries → qpAfter o fun t x => x.state = 4 ∧ t.rme.qpErrors = satInc s.rme.qpErrors)) ∧
      (k.kind = .cnp → qpAfter (exec .cnpReceive s) fun t x => x = { q with rate := q.rate / 2 } ∧ OnlyChanges [.mrv, .rme] s t)) ∧
    (s.qp? n = none → exec (.rnrDelayExpiry n) s = .next s ∧ exec (.holeTimeout n) s = .next s) ∧
    (s.qp? n = some q →
      (q.rnrWait = false → exec (.rnrDelayExpiry n) s = .next s) ∧
      (q.rnrWait = true → ∃ t x, exec (.rnrDelayExpiry n) s = .next t ∧ t.qp? n = some x ∧ x.rnrWait = false ∧ x.sent = q.sent ∧
        t.rme.tx.length = s.rme.tx.length + q.sent.length ∧ t.rme.retx = satAdd s.rme.retx q.sent.length ∧ OnlyChanges [.rme] s t) ∧
      ((q.heldPkts = [] ∨ (q.heldPkts.find? q.e).isSome) → exec (.holeTimeout n) s = .next s) ∧
      (q.heldPkts ≠ [] → q.heldPkts.find? q.e = none → ∃ t x, exec (.holeTimeout n) s = .next t ∧ t.qp? n = some x ∧ x.nakSent = true ∧ x.e = q.e ∧
        t.rme.nakTx = (if q.nakSent then s.rme.nakTx else satInc s.rme.nakTx) ∧ t.rme.tx.length = s.rme.tx.length + (if q.nakSent then 0 else 1) ∧
        OnlyChanges [.rme] s t) ∧
      (∃ t, exec (.rateRecovery n) s = .next t ∧ t.qp? n = some { q with rate := min 65536 (q.rate + 4096) } ∧ t.rme.tx = s.rme.tx ∧ OnlyChanges [.rme] s t))

/-! ## Crucible (spec/16) -/

/-- R425, R436, R438, R442 to R445, R450 to R453: Crucible's services and tests. Nothing is answered while the message does not reach it; every service but GET_STATUS is refused with 0x91 outside the operational state, and level 1 zeroization destroys every volatile secret in any state; a signed service takes a nonce that was given out, once, and the owner's signature; levels 2 and 3 blow fuses or, at the inhibit, leave the steps pending with 0x92; a failed test is the error state. -/
def Obligations.CrucibleServices : Prop :=
  ∀ (s : State) (src : MsgSrc) (nonce sig : Bytes) (n : Nat),
    let heard := s.cruHeard src = true
    let ok := heard ∧ s.cru.state = 1
    let answers := fun (o : Host.Outcome State Fault Refusal) (v : State) (st : Nat) => o = .next (v.reply src st [])
    let clean := fun (c : Crucible) => c.keys = [] ∧ c.cache = [] ∧ c.tik = [] ∧ c.kJob = none ∧ c.zeroizes = satInc s.cru.zeroizes ∧ bitOf c.events 4 = true
    let spent := s.modCru fun c => { c with nonces := c.nonces.filter (· ≠ nonce) }
    let signed := fun (cmd arg : Nat) => s.cru.nonces.contains nonce = true ∧ ∃ k, s.ownerKey = some k ∧
      rsaPssVerify (k.take 384) (k.drop 384) (s.serial ++ nonce ++ natLe cmd 1 ++ natLe arg 1) sig = true
    let forged := fun (cmd arg : Nat) => s.cru.nonces.contains nonce = true ∧ ∀ k, s.ownerKey = some k →
      rsaPssVerify (k.take 384) (k.drop 384) (s.serial ++ nonce ++ natLe cmd 1 ++ natLe arg 1) sig = false
    let checks := fun (o : Host.Outcome State Fault Refusal) (cmd arg : Nat) =>
      (s.cru.nonces.contains nonce = false → answers o s 0x90) ∧ (forged cmd arg → answers o spent 0x32)
    let blown := fun (k : Nat) => s.cru.fuses.slots.upd k {} fun o => { o with revoked := true, owk := List.replicate 32 0xFF#8 }
    let wipes := fun (o : Host.Outcome State Fault Refusal) => ∀ k, s.cru.fuses.active = some k →
      (s.sup.inhibit = false → ∃ v, answers o v 0 ∧ clean v.cru ∧ v.cru.fuses = { s.cru.fuses with slots := blown k } ∧ OnlyChanges [.cru] s v) ∧
      (s.sup.inhibit = true → ∃ v, answers o v 0x92 ∧ clean v.cru ∧ bitOf v.cru.events 5 = true ∧
        v.cru.fuses = { s.cru.fuses with pending := s.cru.fuses.pending ++ [.owner k] } ∧ OnlyChanges [.cru] s v)
    let failed := fun (o : Host.Outcome State Fault Refusal) (mask : Nat) => s.boot.supervisor = true → (s.pwr.state = .p0 ∨ s.pwr.state = .p1) →
      s.coreRestarting 0 = false → ∃ t, o = .next t ∧ t.cru.state = 2 ∧ t.cru.approved = false ∧ clean t.cru ∧ bitOf t.cru.events 3 = true ∧
        t.cru.selftest = s.cru.selftest &&& ~~~(w32 mask) ∧ t.cru.fuses = s.cru.fuses ∧ t.boot.orderly = true ∧ t.boot.trigger = 5
    (¬ heard → exec (.getNonce src) s = .next s ∧ exec (.getStatus src) s = .next s ∧ exec (.selfTest src n) s = .next s ∧
      exec (.getDtkCert src) s = .next s ∧ exec (.zeroize src n nonce sig) s = .next s ∧ exec (.ownerRelease src nonce sig) s = .next s ∧
      exec (.debugUnlock src n nonce sig) s = .next s) ∧
    (heard → s.cru.state ≠ 1 → answers (exec (.getNonce src) s) s 0x91 ∧ answers (exec (.selfTest src n) s) s 0x91 ∧ answers (exec (.getDtkCert src) s) s 0x91 ∧
      (n ≠ 1 → answers (exec (.zeroize src n nonce sig) s) s 0x91) ∧ answers (exec (.ownerRelease src nonce sig) s) s 0x91 ∧
      answers (exec (.debugUnlock src n nonce sig) s) s 0x91) ∧
    (heard → exec (.getStatus src) s = .next (s.reply src 0 (natLe s.cru.status 4))) ∧
    (ok → exec (.getDtkCert src) s = .next (s.reply src 0 Config.dtkCert)) ∧
    (ok → ∃ (v : State) (b : Bytes), exec (.getNonce src) s = .next (v.reply src 0 b) ∧ b.length = 16 ∧ v.cru.nonces = s.cru.nonces ++ [b] ∧
      OnlyChanges [.cru, .freeCtr] s v) ∧
    (ok → n % 256 = 0 → ∃ v, answers (exec (.selfTest src n) s) v 0 ∧ v.cru = { s.cru with selftest := 0xFF#32 } ∧ OnlyChanges [.cru] s v) ∧
    (ok → n % 256 ≠ 0 → failed (exec (.selfTest src n) s) (n % 256)) ∧
    (heard → ∃ v, answers (exec (.zeroize src 1 nonce sig) s) v 0 ∧ clean v.cru ∧ v.cru.fuses = s.cru.fuses ∧ v.cru.state = s.cru.state ∧
      OnlyChanges [.cru] s v) ∧
    (ok → n = 0 ∨ 3 < n → answers (exec (.zeroize src n nonce sig) s) s 0x10) ∧
    (ok → checks (exec (.zeroize src 2 nonce sig) s) 0x10 2 ∧ checks (exec (.ownerRelease src nonce sig) s) 0x20 0 ∧
      (signed 0x10 2 → wipes (exec (.zeroize src 2 nonce sig) s)) ∧ (signed 0x20 0 → wipes (exec (.ownerRelease src nonce sig) s)) ∧
      (∀ k, s.cru.fuses.active = some k → checks (exec (.zeroize src 3 nonce sig) s) 0x10 3 ∧
        (signed 0x10 3 → s.sup.inhibit = false → ∃ v, answers (exec (.zeroize src 3 nonce sig) s) v 0 ∧ clean v.cru ∧
          v.cru.fuses = { s.cru.fuses with slots := blown k, dusGone := true, lifeCycle := 2 } ∧ OnlyChanges [.cru] s v)) ∧
      (s.cru.fuses.active = none →
        (s.sup.inhibit = false → ∃ v, answers (exec (.zeroize src 3 nonce sig) s) v 0 ∧ clean v.cru ∧
          v.cru.fuses = { s.cru.fuses with dusGone := true, lifeCycle := 2 } ∧ OnlyChanges [.cru] s v) ∧
        (s.sup.inhibit = true → ∃ v, answers (exec (.zeroize src 3 nonce sig) s) v 0x92 ∧ clean v.cru ∧
          v.cru.fuses = { s.cru.fuses with pending := s.cru.fuses.pending ++ [.device] } ∧ OnlyChanges [.cru] s v))) ∧
    (ok → (n ≠ 1 → n ≠ 2 → answers (exec (.debugUnlock src n nonce sig) s) s 0x10) ∧
      (n = 1 ∨ n = 2 →
        (s.cru.fuses.debugDisable = true ∨ s.debugPolicy = 0 → answers (exec (.debugUnlock src n nonce sig) s) s 0x91) ∧
        (s.cru.fuses.debugDisable = false → s.debugPolicy ≠ 0 → checks (exec (.debugUnlock src n nonce sig) s) 0x30 n ∧
          (signed 0x30 n → n = 1 ∨ s.sup.inhibit = false → ∃ v, answers (exec (.debugUnlock src n nonce sig) s) v 0 ∧ v.cru.debugScope = n ∧
            v.cru.approved = false ∧ clean v.cru ∧ (n = 1 → v.cru.fuses = s.cru.fuses) ∧ OnlyChanges [.cru] s v)))) ∧
    exec (.nonceExpiry nonce) s = .next spent ∧
    (s.sup.pwrgd = false → exec .environmentZeroize s = .next s) ∧
    (s.sup.pwrgd = true → ∃ t, exec .environmentZeroize s = .next t ∧ clean t.cru ∧ bitOf t.cru.events 6 = true ∧ t.cru.state = s.cru.state ∧ OnlyChanges [.cru] s t) ∧
    (∀ b, (s.cru.state ≠ 1 → exec (.entropyTestFail b) s = .next s ∧ exec .drbgReseed s = .next s ∧ exec .maskRekey s = .next s ∧
        exec (.periodicSelfTest b) s = .next s) ∧
      (s.cru.state = 1 →
        (b = false ∨ s.cru.entropyFailed = false → ∃ t, exec (.entropyTestFail b) s = .next t ∧ t.cru = { s.cru with
          entropyFail := satInc s.cru.entropyFail, entropyFailed := true, events := setBit s.cru.events 2 } ∧ OnlyChanges [.cru] s t) ∧
        (s.cru.entropyFailed = true → failed (exec (.entropyTestFail true) s) 64) ∧
        (∃ t, exec .drbgReseed s = .next t ∧ t.cru = { s.cru with drbgRequests := 0, drbgSeeds := s.cru.drbgSeeds + 1 } ∧ OnlyChanges [.cru] s t) ∧
        (∃ t, exec .maskRekey s = .next t ∧ t.cru = { s.cru with drbgRequests := s.cru.drbgRequests + 1, maskKeys := s.cru.maskKeys + 1 } ∧
          OnlyChanges [.cru, .freeCtr] s t) ∧
        (∃ t, exec (.periodicSelfTest true) s = .next t ∧ t.cru = { s.cru with nextTest := (s.cru.nextTest + 1) % 1152 } ∧ OnlyChanges [.cru] s t) ∧
        failed (exec (.periodicSelfTest false) s) (if s.cru.nextTest < 1024 then 2 else 4)))

/-- R441, R450: attestation and the TAP. The SPDM 1.2 requests are answered with the device's versions, algorithms, digests and chains; CHALLENGE and GET_MEASUREMENTS are signed over the requester's nonce with the values of that moment; out of reset the TAP moves by TMS at a rising edge, and no instruction outside the unlocked scope is taken. -/
def Obligations.AttestationAndTap : Prop :=
  ∀ (s : State) (src : MsgSrc) (slot off len i : Nat) (nonce : Bytes),
    let rows := [exec (.getVersion src) s, exec (.getCapabilities src) s, exec (.negotiateAlgorithms src) s, exec (.getDigests src) s,
      exec (.getCertificate src slot off len) s, exec (.challenge src slot nonce) s, exec (.getMeasurements src i nonce) s]
    let heard := s.cruHeard src = true
    let ok := heard ∧ s.cru.state = 1
    let refused := fun (o : Host.Outcome State Fault Refusal) (st : Nat) => o = .next (s.reply src st [])
    let signs := fun (o : Host.Outcome State Fault Refusal) (head : Bytes) => ∃ (v : State) (x : Bytes), x.length = 32 ∧ OnlyChanges [.cru, .freeCtr] s v ∧
      v.cru.keys = s.cru.keys ∧ o = .next (v.reply src 0 (head ++ x ++ Config.idkSign (nonce ++ (head ++ x))))
    let one := fun (k : Nat) => [BitVec.ofNat 8 k, 1, 35, 0, (if k = 1 then 0 else if k ≤ 3 then 1 else 3), 32, 0] ++ s.measurement k
    (¬ heard → ∀ o ∈ rows, o = .next s) ∧
    (heard → s.cru.state ≠ 1 → ∀ o ∈ rows, refused o 0x91) ∧
    (ok →
      exec (.getVersion src) s = .next (s.reply src 0 [0x10, 0x04, 0, 0, 0, 1, 0, 0x12]) ∧
      exec (.getCapabilities src) s = .next (s.reply src 0 [0x12, 0x61, 0, 0, 0, 0, 0, 0, 0x36, 0, 0, 0]) ∧
      exec (.negotiateAlgorithms src) s = .next (s.reply src 0 ([0x12, 0x63, 0, 0, 36, 0, 1, 0, 2, 0, 0, 0, 0x10, 0, 0, 0, 1, 0, 0, 0] ++ zeros 16)) ∧
      (s.spdmChain 1 = none → exec (.getDigests src) s = .next (s.reply src 0 ([0x12, 0x01, 0, 1] ++ sha256 Config.deviceChain))) ∧
      (∀ c, s.spdmChain 1 = some c → exec (.getDigests src) s = .next (s.reply src 0 ([0x12, 0x01, 0, 3] ++ sha256 Config.deviceChain ++ sha256 c))) ∧
      (s.spdmChain slot = none → refused (exec (.getCertificate src slot off len) s) 0x10 ∧ refused (exec (.challenge src slot nonce) s) 0x10) ∧
      (∀ c, s.spdmChain slot = some c → let p := (c.drop off).take len
        exec (.getCertificate src slot off len) s = .next (s.reply src 0
          ([0x12, 0x02, BitVec.ofNat 8 slot, 0] ++ natLe p.length 2 ++ natLe (c.length - off - p.length) 2 ++ p)) ∧
        (s.cru.fuses.dusGone = true → refused (exec (.challenge src slot nonce) s) 0x91) ∧
        (s.cru.fuses.dusGone = false → signs (exec (.challenge src slot nonce) s) ([0x12, 0x03, BitVec.ofNat 8 slot, 0] ++ sha256 c))) ∧
      ((i = 0 ∨ 7 < i) → i ≠ 0xFF → refused (exec (.getMeasurements src i nonce) s) 0x10) ∧
      ((1 ≤ i ∧ i ≤ 7 ∨ i = 0xFF) → s.cru.fuses.dusGone = true → refused (exec (.getMeasurements src i nonce) s) 0x91) ∧
      (1 ≤ i → i ≤ 7 → s.cru.fuses.dusGone = false →
        signs (exec (.getMeasurements src i nonce) s) ([0x12, 0x60, 0, 0, 1] ++ natLe (one i).length 3 ++ one i)) ∧
      (i = 0xFF → s.cru.fuses.dusGone = false → let r := [1, 2, 3, 4, 5, 6, 7].flatMap one
        signs (exec (.getMeasurements src i nonce) s) ([0x12, 0x60, 0, 0, 7] ++ natLe r.length 3 ++ r))) ∧
    (∀ rising tms tdi, let j := s.cru.jtag
      (s.ioDriven = false → exec (.jtagTckEdge rising tms tdi) s = .next s) ∧
      (s.ioDriven = true →
        (j.tap ≠ .shDr → j.tap ≠ .shIr → exec (.jtagTckEdge false tms tdi) s = .next s) ∧
        (j.tap = .shDr ∨ j.tap = .shIr → exec (.jtagTckEdge false tms tdi) s = .next { s with out := s.out ++ [.tdo (j.shift.headD false)] }) ∧
        (∃ t, exec (.jtagTckEdge true tms tdi) s = .next t ∧ t.cru = { s.cru with jtag := t.cru.jtag } ∧ OnlyChanges [.cru, .freeCtr] s t ∧
          t.cru.jtag.tap = j.tap.next tms ∧ (j.tap = .shDr ∨ j.tap = .shIr → t.cru.jtag.shift = j.shift.drop 1 ++ [tdi]) ∧
          (j.tap.next tms = .reset → t.cru.jtag.ir = 1) ∧ (j.tap.next tms ≠ .reset → j.tap.next tms ≠ .updIr → t.cru.jtag.ir = j.ir) ∧
          (j.tap.next tms = .updIr → (t.cru.jtag.ir = 4 → s.cru.debugScope = 2) ∧ (t.cru.jtag.ir = 2 ∨ t.cru.jtag.ir = 3 → 1 ≤ s.cru.debugScope) ∧
            t.cru.jtag.ir ≤ 4))))

/-! ## The AOD: power states, wake and sideband (spec/19) -/

/-- R500 to R507, R511, R516, R517, R552: power states and wake. SET_POWER is checked, refused where its precondition does not hold, and otherwise enters P1 at once, P2 up to its sleep calibration, with the compute rails and the links down and HBM kept, and P3 with Crucible's secrets gone; a wake before the commit point abandons the entry. The end of the calibration is P2 or P3. An enabled wake source is latched and returns the device to P0, with the tallies advanced by the sleep; in P0, or disabled, it does nothing. -/
def Obligations.PowerStates : Prop :=
  ∀ (s : State) (src : MsgSrc) (target confirm periods ms : Nat),
    let p := s.pwr
    let set := exec (.setPower src target confirm 0 periods) s
    let heard := s.heard src = true
    let at_ := fun (x : PState) => p.state = x ∧ p.transition = false
    let in_ := fun (t : State) (x : PState) (o : Outcome4) => t.pwr.state = x ∧ t.pwr.transition = false ∧ t.pwr.outcome = o ∧ bitOf t.pwr.alertLatch 0 = true
    let rowsOf := [(1, exec (.wakeNLow periods) s), (0, exec (.sidebandAddressMatch false periods) s), (2, exec (.hostActivityWake periods) s)]
    let woken := fun (k : Nat) (t : State) => in_ t .p0 .completed ∧ bitOf t.pwr.wakeLatch k = true ∧ t.tal = s.tal.advance periods ∧ t.fab.hbm = s.fab.hbm ∧
      t.sup = s.sup.cmpUp ∧ OnlyChanges [.pwr, .tal, .tel, .sup, .fab, .apt, .hep, .out] s t
    (¬ heard → set = .next s ∧ exec (.getPower src) s = .next s ∧ exec (.setAlarm src ms) s = .next s) ∧
    (heard →
      exec (.getPower src) s = .next (s.reply src 0 (natLe p.status 4 ++ natLe p.wakeLatch.toNat 4 ++ natLe p.lastSleepMs 4)) ∧
      (∃ v, exec (.setAlarm src ms) s = .next (v.reply src 0 []) ∧ v.pwr = { p with alarmMs := ms % 2 ^ 32 } ∧ OnlyChanges [.pwr] s v) ∧
      (3 < target ∨ (target = 3 ∧ confirm ≠ 0x444F524D) → set = .next (s.reply src 0x10 [])) ∧
      (p.transition = true → 0 < target → target < 3 ∨ (target = 3 ∧ confirm = 0x444F524D) → set = .next (s.reply src 0x91 [])) ∧
      (target < 3 ∨ (target = 3 ∧ confirm = 0x444F524D) → at_ (pstateOf target) → set = .next (s.reply src 0 [])) ∧
      (at_ .p3 → 0 < target → target < 3 → set = .next (s.reply src 0x90 [])) ∧
      (at_ .p0 → 0 < target → target < 3 ∨ (target = 3 ∧ confirm = 0x444F524D) → (s.mayEnter (pstateOf target) = false ∨ s.sup.pwrgd = false) →
        ∃ v, set = .next (v.reply src 0x90 []) ∧ v.pwr.state = .p0 ∧ v.pwr.transition = false ∧ v.pwr.outcome = .refused ∧ bitOf v.pwr.alertLatch 5 = true ∧
          OnlyChanges [.pwr, .tel, .out] s v) ∧
      (at_ .p0 → target = 1 → s.jobRunning = false → s.sup.pwrgd = true → ∃ t, set = .next t ∧ in_ t .p1 .completed ∧ OnlyChanges [.pwr, .tel, .out] s t) ∧
      (p.state = .p0 ∨ p.state = .p1 → p.transition = false → s.sup.pwrgd = true →
        (target = 2 → s.mayEnter .p2 = true → ∃ t, set = .next t ∧ t.pwr = { p with transition := true, target := .p2, committed := true, wakeSeen := false } ∧
          t.sup = s.sup.cmpDown ∧ t.fab.hbm = s.fab.hbm ∧ (∀ i, (t.netPort i).linkUp = false ∨ 32 ≤ i) ∧ (∀ x ∈ t.apt.ports, x.2.dl = false ∧ (x.2.cohort = false → x.2.perstLow = true)) ∧
          OnlyChanges [.pwr, .sup, .net, .fab, .apt, .ten, .ddt, .out] s t) ∧
        (target = 3 → confirm = 0x444F524D → s.mayEnter .p3 = true → ∃ t, set = .next t ∧
          t.pwr = { p with transition := true, target := .p3, committed := false, wakeSeen := false } ∧ t.cru.keys = [] ∧ t.cru.kJob = none ∧
          OnlyChanges [.pwr, .cru, .out] s t)) ∧
      (∀ early, p.state = .p0 ∨ p.state = .p1 → p.transition = false → s.sup.pwrgd = true → s.mayEnter .p2 = true → p.enabled (w32 early) ≠ 0#32 → p.native = true →
        ∃ t, exec (.setPower src 2 confirm early periods) s = .next t ∧ in_ t .p0 .abandoned ∧ t.pwr.abortCount = satInc p.abortCount ∧
          t.pwr.wakeLatch = p.wakeLatch ||| p.enabled (w32 early) ∧ t.sup = s.sup ∧ OnlyChanges [.pwr, .tel, .out] s t) ∧
      (at_ .p2 → target = 0 → s.sup.aodUp = true → s.hep.heldReqs = [] → ∃ v, set = .next (v.reply src 0 []) ∧ woken 5 v)) ∧
    (∀ ps late, (p.transition = false → exec (.sleepCalibrationDone ps late) s = .next s) ∧
      (p.transition = true → p.wakeSeen = false → let o := exec (.sleepCalibrationDone ps 0) s
        (p.target = .p2 → ∃ t, o = .next t ∧ in_ t .p2 .completed ∧ t.tal = { s.tal with sleepCal := ps % 2 ^ 32, stopped := true } ∧
          t.tel.kept.length = s.tel.kept.length + 1 ∧ OnlyChanges [.pwr, .tal, .tel, .out] s t) ∧
        (p.target = .p3 → ∃ t, o = .next t ∧ in_ t .p3 .completed ∧ mainOff t.sup ∧ t.con = {} ∧ t.fab.hbm = [] ∧ t.tal.sleepCal = ps % 2 ^ 32 ∧
          t.pwr.wakeEn = p.wakeEn ∧ t.pwr.alarmMs = p.alarmMs)) ∧
      (p.transition = true → p.wakeSeen = true → p.target = .p2 → s.hep.heldReqs = [] → ∃ t, exec (.sleepCalibrationDone ps 0) s = .next t ∧
        in_ t .p0 .completed)) ∧
    (at_ .p0 → s.sup.pwrgd = true → s.boot.supervisor = true → bitOf p.ctrl 1 = true → s.jobRunning = false → s.noneRunning = true → s.coreRestarting 5 = false →
      ∃ t, exec .autoTrim s = .next t ∧ in_ t .p1 .completed ∧ OnlyChanges [.pwr, .tel, .out] s t) ∧
    ((p.state ≠ .p0 ∨ bitOf p.ctrl 1 = false ∨ s.jobRunning = true ∨ s.noneRunning = false) → exec .autoTrim s = .next s) ∧
    (p.state ≠ .p1 → exec .p1WorkWake s = .next s) ∧
    (at_ .p1 → s.sup.aodUp = true → ∃ t, exec .p1WorkWake s = .next t ∧ in_ t .p0 .completed ∧ bitOf t.pwr.wakeLatch 4 = true ∧ OnlyChanges [.pwr, .tel, .out] s t) ∧
    (∀ k o, (k, o) ∈ rowsOf →
      (at_ .p0 → o = .next s) ∧ (bitOf p.wakeEn k = false → o = .next s) ∧
      (s.sup.aodUp = true → bitOf p.wakeEn k = true →
        (at_ .p1 → ∃ t, o = .next t ∧ in_ t .p0 .completed ∧ bitOf t.pwr.wakeLatch k = true ∧ OnlyChanges [.pwr, .tel, .out] s t) ∧
        (at_ .p2 → s.hep.heldReqs = [] → ∃ t, o = .next t ∧ woken k t) ∧
        (p.state = .p0 → p.transition = true → p.committed = false → p.native = true → ∃ t, o = .next t ∧ in_ t .p0 .abandoned ∧
          t.pwr.abortCount = satInc p.abortCount ∧ t.sup = s.sup))) ∧
    (at_ .p3 → exec (.hostActivityWake periods) s = .next s) ∧
    (at_ .p3 → s.sup.aodUp = true → bitOf p.wakeEn 1 = true → ∃ t, exec (.wakeNLow periods) s = .next t ∧ in_ t .p0 .completed ∧
      bitOf t.pwr.wakeLatch 1 = true ∧ t.tal = s.tal.advance periods ∧ t.con = {} ∧ t.fab.hbm = []) ∧
    (at_ .p0 → s.sup.aodUp = true → s.sb.protocol = 1 → exec (.sidebandAddressMatch true periods) s = .next { s with out := s.out ++ [.nack] }) ∧
    (p.alarmMs = 0 → exec (.sleepAlarm periods) s = .next s) ∧
    (p.alarmMs ≠ 0 → (at_ .p0 → exec (.sleepAlarm periods) s = .next { s with pwr := { p with alarmMs := 0 } }) ∧
      (at_ .p2 → s.sup.aodUp = true → bitOf p.wakeEn 3 = true → s.hep.heldReqs = [] → ∃ t, exec (.sleepAlarm periods) s = .next t ∧ woken 3 t ∧
        t.pwr.alarmMs = 0)) ∧
    (∀ b, (b = false ∨ s.sup.aodUp = false → exec (.aodWatchdogExpiry b) s = .next s) ∧
      (b = true → s.sup.aodUp = true → exec (.aodWatchdogExpiry b) s = .next { s with out := s.out ++ [.nack] }))

/-- R21, R61 to R63, R508, R510, R511, R522, R544: the sideband. RESET_WARM starts the orderly phase, RESET_COLD acts at once, TRIP_CLEAR needs 1 s below 80 °C; the fault log, the telemetry and the register window are read by offset and cursor, a write to the window reaches only seven registers and any other is counted; the I3C codes keep the dynamic address, the interrupt enable and the length limits. -/
def Obligations.SidebandCommands : Prop :=
  ∀ (s : State) (src : MsgSrc) (off n a : Nat) (v : W32),
    let heard := s.heard src = true
    let restarted := fun (t : State) => t.con = {} ∧ t.fab.hbm = [] ∧ t.sup.limitCtrl = 0xA3847369#32 ∧
      (s.sup.modEn = true → s.sup.lockout = false → s.sup.cutoff = false → s.sup.aodUp = true → t.sup.tripLatched = false → mainOn t.sup)
    let sends := fun (o : Host.Outcome State Fault Refusal) (b : Bytes) => o = .next { s with out := s.out ++ [.sideband 0 b] }
    let frees := fun (o : Host.Outcome State Fault Refusal) (k : Nat) => ∃ b : Bytes, b.length = k ∧
      o = .next { s with out := s.out ++ [.sideband 0 b], freeCtr := s.freeCtr + 1 }
    let becomes := fun (o : Host.Outcome State Fault Refusal) (x : Sideband) => o = .next { s with sb := x }
    (¬ heard → exec (.resetWarm src) s = .next s ∧ exec (.resetCold src) s = .next s ∧ exec (.tripClear src) s = .next s ∧
      exec (.faultLogRead src off) s = .next s ∧ exec (.telemetryRead src off n) s = .next s) ∧
    (heard →
      (s.boot.supervisor = true → s.pwr.state = .p0 ∨ s.pwr.state = .p1 → s.coreRestarting 0 = false → ∃ t, exec (.resetWarm src) s = .next t ∧
        t.boot.orderly = true ∧ t.boot.trigger = 1 ∧ t.sup = s.sup ∧ t.cru = s.cru ∧ t.boot.profile = s.boot.profile) ∧
      (s.boot.supervisor = false ∨ s.pwr.state = .p2 → s.pwr.state ≠ .p3 → ∃ t, exec (.resetWarm src) s = .next t ∧ t.con = {} ∧ t.fab.hbm = [] ∧
        t.sup.limitCtrl = s.sup.limitCtrl) ∧
      (s.pwr.state = .p3 → ∃ t, exec (.resetWarm src) s = .next t ∧ restarted t) ∧
      (∃ t, exec (.resetCold src) s = .next t ∧ restarted t) ∧
      (s.sup.coolUs < 1000000 → exec (.tripClear src) s = .next (s.reply src 0x92 [])) ∧
      (1000000 ≤ s.sup.coolUs → ∃ t, exec (.tripClear src) s = .next t ∧ restarted t ∧ t.sup.tripLatched = false ∧ t.sup.thermTripLow = false) ∧
      (131136 ≤ off → exec (.faultLogRead src off) s = .next (s.reply src 0x10 [])) ∧
      (off < 131136 → ∃ b, exec (.faultLogRead src off) s = .next (s.reply src 0 b) ∧ b.length = min 256 (131136 - off) ∧
        ∀ i, i < b.length → b[i]? = some (s.log.byteAt (off + i))) ∧
      (n < 64 ∨ 1024 < n → exec (.telemetryRead src off n) s = .next (s.reply src 0x10 [])) ∧
      (64 ≤ n → n ≤ 1024 → (s.pwr.state = .p2 ∨ s.pwr.state = .p3) → exec (.telemetryRead src off n) s = .next (s.reply src 0x90 [])) ∧
      (64 ≤ n → n ≤ 1024 → s.pwr.state = .p0 ∨ s.pwr.state = .p1 → ∃ rs : List TelemRec, (∀ r ∈ rs, r ∈ s.tel.ring ∧ off ≤ r.cursor) ∧
        (rs.flatMap (·.bytes)).length ≤ n ∧ exec (.telemetryRead src off n) s = .next (s.reply src (if off < s.tel.oldest then 0x93 else 0)
          (natLe (match rs.getLast? with | some r => r.cursor + r.bytes.length | none => max off s.tel.oldest) 8 ++ natLe s.tel.oldest 8 ++ rs.flatMap (·.bytes)))) ∧
      (∀ i, i < 131072 → s.log.entries = [] → s.log.byteAt (64 + i) = 0#8)) ∧
    (s.sup.aodUp = false → ∀ b, exec (.registerWindowRead off) s = .next s ∧ exec (.registerWindowWrite off v b) s = .next s) ∧
    (s.sup.aodUp = true →
      (∀ x, s.aodRead off = some x → sends (exec (.registerWindowRead off) s) (natLe x 4)) ∧
      (s.aodRead off = none → frees (exec (.registerWindowRead off) s) 4) ∧
      (∀ b, (s.sb.protocol = 0 ∧ b = false) ∨ off ∉ [0x104, 0x110, 0x208, 0x20C, 0x210, 0x214, 0x218] → ∃ t, exec (.registerWindowWrite off v b) s = .next t ∧
        t.pwr = { s.pwr with sbErr := satInc s.pwr.sbErr } ∧ OnlyChanges [.pwr] s t) ∧
      (∀ b, s.sb.protocol ≠ 0 ∨ b = true →
        (off = 0x110 → exec (.registerWindowWrite off v b) s = exec (.aodLimitCtrlWrite v) s) ∧
        (off = 0x104 → field v 8 24 = 0 → exec (.registerWindowWrite off v b) s = .next { s with sup := { s.sup with events := w1c s.sup.events v } }) ∧
        (off = 0x208 → field v 4 28 = 0 → exec (.registerWindowWrite off v b) s = .next { s with pwr := { s.pwr with wakeEn := v } }) ∧
        (off = 0x20C → field v 6 26 = 0 → exec (.registerWindowWrite off v b) s = .next { s with pwr := { s.pwr with wakeLatch := w1c s.pwr.wakeLatch v } }) ∧
        (off = 0x210 → exec (.registerWindowWrite off v b) s = .next { s with pwr := { s.pwr with alarmMs := v.toNat } }) ∧
        (off = 0x214 → field v 6 26 = 0 → exec (.registerWindowWrite off v b) s = .next { s with pwr := { s.pwr with alertEn := v } }) ∧
        (off = 0x218 → field v 6 26 = 0 → exec (.registerWindowWrite off v b) s = .next { s with pwr := { s.pwr with alertLatch := w1c s.pwr.alertLatch v } }))) ∧
    (s.onI3c = false → ∀ o ∈ [exec (.entdaa a) s, exec (.setdasa a) s, exec .rstdaa s, exec .enec s, exec .disec s, exec .getpid s, exec .getbcr s,
      exec .getdcr s, exec .getstatus s, exec (.setmwl n) s, exec .getmwl s, exec (.setmrl n) s, exec .getmrl s], o = .next s) ∧
    (s.onI3c = true →
      (s.sb.dynAddr ≠ none → exec (.entdaa a) s = .next s ∧ exec (.setdasa a) s = .next s) ∧
      (s.sb.dynAddr = none → becomes (exec (.entdaa a) s) { s.sb with dynAddr := some (a % 128) } ∧ becomes (exec (.setdasa a) s) { s.sb with dynAddr := some (a % 128) }) ∧
      becomes (exec .rstdaa s) { s.sb with dynAddr := none } ∧ becomes (exec .enec s) { s.sb with ibiEn := true } ∧
      becomes (exec .disec s) { s.sb with ibiEn := false } ∧ becomes (exec (.setmwl n) s) { s.sb with mwl := n % 65536 } ∧
      becomes (exec (.setmrl n) s) { s.sb with mrl := n % 65536 } ∧ sends (exec .getmwl s) (natBe s.sb.mwl 2) ∧ sends (exec .getmrl s) (natBe s.sb.mrl 2) ∧
      frees (exec .getpid s) 6 ∧ frees (exec .getbcr s) 1 ∧ frees (exec .getdcr s) 1 ∧ frees (exec .getstatus s) 2) ∧
    (s.sup.aodUp = false ∨ s.sb.protocol ≠ 0 ∨ s.pwr.alertEn &&& s.pwr.alertLatch = 0#32 → exec .alertResponseAddress s = .next s) ∧
    (s.sup.aodUp = true → s.sb.protocol = 0 → s.pwr.alertEn &&& s.pwr.alertLatch ≠ 0#32 →
      sends (exec .alertResponseAddress s) (natLe (2 * (0x58 + s.sup.straps.sbAddr)) 1))

/-! ## Number formats (spec/05) -/

/-- R124 to R127, R131, R132: a finite encoding outside MX, subnormals included, is kept by a conversion of its value under every rounding mode; rounding to a multiple of an ulp truncates, takes the nearest with ties to even, or goes up where the 16-bit fraction and the random value reach 65536; NaN, infinities and finite overflow give what the table of R126 says, and INT8 saturates with NaN as 0. -/
def Obligations.NumberFormats : Prop :=
  (∀ (f : Fmt) (satOff : Bool) (md : Rnd) (r w : Nat), f ∈ [fp32, bf16, fp16, e4m3, e5m2] → r < 65536 → w < 2 ^ f.bits →
    w % 2 ^ (f.bits - 1) ≤ f.top → f.conv satOff md r (f.decode w) = w) ∧
  (∀ (f : Fmt) (s : Bool) (m x : Nat), f ∈ [fp32, bf16, fp16, e4m3, e5m2, e3m2, e2m3, e2m1] → m < 2 ^ f.man →
    x * 2 ^ f.man + m ≤ f.top →
    f.decode (f.sign s + x * 2 ^ f.man + m) =
      if x = 0 then .fin s m (1 - f.bias - f.man) else .fin s (2 ^ f.man + m) (x - f.bias - f.man)) ∧
  (∀ (m r : Nat) (e q : Int), e < q → let d := 2 ^ (q - e).toNat
    (let n := roundMag m e q .rtz r; n * d ≤ m ∧ m < (n + 1) * d) ∧
    (let n := roundMag m e q .rne r; 2 * (n * d) ≤ 2 * m + d ∧ 2 * m ≤ 2 * (n * d) + d ∧
      (2 * (n * d) = 2 * m + d ∨ 2 * m = 2 * (n * d) + d → n % 2 = 0)) ∧
    roundMag m e q .sr r = m / d + if 65536 ≤ m % d * 65536 / d + r then 1 else 0) ∧
  (∀ (satOff : Bool) (md : Rnd) (r : Nat),
    [1, 2, 3, 4, 5].map (fun k => elemBits k satOff md r .nan) = [0x7FC00000, 0x7FC0, 0x7E00, 0x7F, 0x7F] ∧
    [1, 2, 3, 4, 5].map (fun k => elemBits k satOff md r (.inf false)) =
      [0x7F800000, 0x7F80, 0x7C00, if satOff then 0x7F else 0x7E, if satOff then 0x7C else 0x7B] ∧
    [1, 2, 3, 4, 5].map (fun k => elemBits k satOff md r (.inf true)) =
      [0xFF800000, 0xFF80, 0xFC00, if satOff then 0x7F else 0xFE, if satOff then 0xFC else 0xFB]) ∧
  (∀ (f : Fmt) (satOff : Bool) (md : Rnd) (r m : Nat) (s : Bool) (e : Int), f.top < f.enc m e md r →
    (f ∈ [fp32, bf16, fp16] → f.conv satOff md r (.fin s m e) = f.sign s + f.top + if md = .rtz then 0 else 1) ∧
    (f = e4m3 → f.conv satOff md r (.fin s m e) = if satOff then 0x7F else f.sign s + 0x7E) ∧
    (f = e5m2 → f.conv satOff md r (.fin s m e) = f.sign s + if satOff = true ∧ md ≠ .rtz then 0x7C else 0x7B)) ∧
  (∀ (satOff : Bool) (md : Rnd) (r m : Nat) (s : Bool) (e : Int),
    intOf 8 (elemBits 9 satOff md r .nan) = 0 ∧ intOf 8 (elemBits 9 satOff md r (.inf false)) = 127 ∧
    intOf 8 (elemBits 9 satOff md r (.inf true)) = -128 ∧
    intOf 8 (elemBits 9 satOff md r (.fin s m e)) =
      max (-128) (min 127 (if s then -(roundMag m e 0 md r : Int) else (roundMag m e 0 md r : Int)))) ∧
  (∀ a b : Int, Val.add (.fin false 0 a) (.fin true 0 b) = .fin false 0 (min a b)) ∧
  (∀ (s u : Bool) (m n : Nat) (a b : Int), Val.mul (.fin s m a) (.fin u n b) = .fin (s != u) (m * n) (a + b))

/-! ## The block as a whole -/

/-- The queue of waiting commands is first in, first out: a step runs the command at the front on the state with the rest of the queue, and idles on an empty queue (log 1, the model's choice). -/
def Obligations.StepRunsFront : Prop :=
  (∀ (s : State) (c : Instr) (rest : List Instr), step { s with pending := c :: rest } = exec c { s with pending := rest }) ∧
  (∀ s : State, s.pending = [] → step s = .next s)

/-- Every command of the table completes in every state: exec answers a next state, never a fault or a refusal. -/
def Obligations.EveryCommandCompletes : Prop := ∀ (i : Instr) (s : State), ∃ t : State, exec i s = .next t

/-- A step takes exactly the front command off the queue: no command adds to the queue, removes from it or reorders it. -/
def Obligations.QueueOrder : Prop := ∀ s t : State, step s = .next t → t.pending = s.pending.tail

/-- R27, R94, R95, R100, R101, R177, R213, R244, R271, R298, R349, R377, R378, R396, R422, R456, R472, R490, R523: after AOD power-on every register whose reset the spec gives as a number reads that number; every queue is disabled with zero registers; the DV32 state registers hold the values of R490; memory lists nothing; no command waits. The level of the input and of the rails, the non-volatile write inhibit and the stopped cores at that moment are the model's reading (log 6). -/
def Obligations.ResetState : Prop :=
  (∀ p ∈ ([
      (0x1, [0x4, 0x8, 0xC, 0x10, 0x14, 0x18, 0x24, 0x28]),
      (0x2, [0x4, 0x14, 0x18, 0x1C, 0x20, 0x24, 0x28, 0x2C]),
      (0x3, [0x104, 0x114, 0x118, 0x11C, 0x20C, 0x210, 0x218, 0x21C, 0x220, 0x224, 0x300, 0x304, 0x308, 0x30C, 0x310, 0x314, 0x400, 0x404,
        0x40C]),
      (0x4, [0x4, 0x8, 0xC, 0x10, 0x14, 0x20, 0x28]),
      (0x5, [0x4]),
      (0x6, [0x4, 0xC, 0x10, 0x14]),
      (0x7, [0x4, 0x8, 0xC, 0x10]),
      (0x8, [0x0, 0x4]),
      (0x9, [0x4, 0x8, 0xC, 0x10, 0x14, 0x18, 0x1C, 0x20, 0x24, 0x28, 0x2C, 0x30]),
      (0xA, [0x4, 0x8, 0xC, 0x10, 0x14, 0x20, 0x28, 0x2C, 0x30, 0x34, 0x40, 0x44, 0x50, 0x54, 0x58, 0x5C]),
      (0xB, [0x4, 0x8, 0xC, 0x10, 0x14, 0x18, 0x1C, 0x20, 0x24, 0x28, 0x2C, 0x30, 0x38]),
      (0xC, [0x0, 0x4, 0x8, 0xC, 0x10, 0x14, 0x18, 0x20, 0x28, 0x2C, 0x30, 0x34, 0x38, 0x3C]),
      (0xD, [0x0, 0x4, 0x8, 0xC, 0x10, 0x14, 0x18, 0x20, 0x24, 0x28, 0x2C, 0x30, 0x34, 0x38, 0x3C, 0x40, 0x44]),
      (0xE, [0x4, 0x8, 0xC, 0x10, 0x14, 0x18, 0x1C, 0x20, 0x24, 0x28, 0x2C, 0x30, 0x34, 0x38, 0x3C, 0x40, 0x44, 0x80, 0x84, 0x88, 0x8C,
        0x90, 0x94, 0x98, 0x9C, 0xA0, 0xA4, 0xA8])] : List (Nat × List Nat)),
    ∀ off ∈ p.2, State.reset.regRead p.1 off = some 0) ∧
  State.reset.regRead 0x3 0x110 = some 0xA3847369 ∧
  State.reset.regRead 0x3 0x204 = some 0xA02 ∧
  State.reset.regRead 0x3 0x208 = some 0xE ∧
  State.reset.regRead 0x3 0x214 = some 0x16 ∧
  State.reset.regRead 0x3 0x408 = some 0xA03E8 ∧
  State.reset.regRead 0x5 0x8 = some 0x1808 ∧
  State.reset.regRead 0x5 0x10 = some 0x118 ∧
  (∀ k < 8, (∀ o ∈ [0x04, 0x08, 0x0C, 0x10, 0x14, 0x18, 0x20], State.reset.regRead 0x5 (0x1000 * (k + 1) + o) = some 0) ∧
    State.reset.regRead 0x5 (0x1000 * (k + 1) + 0x1C) = some 0x7F7F) ∧
  (∀ k < 8, (∀ o ∈ [0x04, 0x10, 0x14, 0x18, 0x1C, 0x20, 0x24], State.reset.regRead 0x6 (0x1000 * (k + 1) + o) = some 0) ∧
    State.reset.regRead 0x6 (0x1000 * (k + 1) + 0x08) = some 0x1F) ∧
  (∀ k < 4, ∀ o ∈ [0x04, 0x08, 0x0C, 0x10, 0x14, 0x18], State.reset.regRead 0x7 (0x1000 * (k + 1) + o) = some 0) ∧
  (∀ k < 32, ∀ o ∈ [0x04, 0x08, 0x0C, 0x10, 0x14, 0x18, 0x1C, 0x20, 0x24, 0x28, 0x2C],
    State.reset.regRead 0x8 (0x1000 * (k + 1) + o) = some 0) ∧
  (∀ k < 512, ∀ o ∈ [0x10, 0x14], State.reset.regRead 0x1 (0x1000 + 0x20 * k + o) = some 0) ∧
  (∀ fn q : Nat, let u := State.reset.queue fn q
    u.sqBase = 0 ∧ u.cqBase = 0 ∧ u.ctrl = 0 ∧ u.state = .disabled ∧ u.generation = 0 ∧ u.sqHead = 0 ∧ u.cqTail = 0 ∧ u.cqHead = 0 ∧
    u.err = 0 ∧ u.seq = 0 ∧ u.ignored = 0 ∧ u.fetched = [] ∧ u.running = []) ∧
  State.reset.con.fnContract = 0x00010100#32 ∧
  (∀ c i : Nat, (State.reset.core c).sreg c i = if i = 6 then 0x38000#32 else if i = 7 then BitVec.ofNat 32 c else 0) ∧
  State.reset.sup.inhibit = true ∧ State.reset.sup.pwrgd = false ∧ State.reset.boot.supervisor = false ∧
  State.reset.fab.hbm = [] ∧ State.reset.fl.mem = [] ∧ State.reset.out = [] ∧ State.reset.pending = []

/-- After reset HBM, the configuration flash and every core's SRAM list nothing, which is their canonical form. -/
def Obligations.MemoryCanonicalAtReset : Prop := MemoryCanonical State.reset

/-- Every step of every command keeps the canonical form of HBM, of the configuration flash and of every core's SRAM, so equal memories are equal data. -/
def Obligations.MemoryCanonical : Prop :=
  ∀ s t : State, Machine.MemoryCanonical s → step s = .next t → Machine.MemoryCanonical t
end

