-- ==== Sys2Proof/Laws/Tbl.lean ====
section
/-! SUPPORT. Laws of the keyed tables: what a write at one key leaves at every key. -/

namespace Sys2Proof.Tbl

theorem find?_put_self {α : Type} (t : Tbl α) (n : Nat) (v : α) : (t.put n v).find? n = some v := by
  induction t with
  | nil => simp [put, find?]
  | cons c r ih =>
    obtain ⟨k, w⟩ := c
    simp only [put]
    split
    · simp [find?]
    · split
      · simp [find?]
      · rename_i h _; simp [find?, h, ih]

theorem find?_put_ne {α : Type} (t : Tbl α) (n m : Nat) (v : α) (h : m ≠ n) : (t.put n v).find? m = t.find? m := by
  induction t with
  | nil => simp [put, find?, Ne.symm h]
  | cons c r ih =>
    obtain ⟨k, w⟩ := c
    simp only [put]
    split
    · rename_i hk; subst hk; simp [find?, Ne.symm h]
    · split
      · simp [find?, Ne.symm h]
      · simp [find?, ih]

theorem put_put {α : Type} (t : Tbl α) (n : Nat) (v w : α) : (t.put n v).put n w = t.put n w := by
  induction t with
  | nil => simp [put]
  | cons c r ih =>
    obtain ⟨k, x⟩ := c
    by_cases hk : k = n
    · subst hk; simp [put]
    · by_cases hn : n < k
      · simp [put, hk, hn]
      · simp [put, hk, hn, ih]

@[simp] theorem getD_put_self {α : Type} (t : Tbl α) (n : Nat) (v d : α) : (t.put n v).getD n d = v := by
  simp [getD, find?_put_self]

theorem getD_put_ne {α : Type} (t : Tbl α) (n m : Nat) (v d : α) (h : m ≠ n) : (t.put n v).getD m d = t.getD m d := by
  simp [getD, find?_put_ne t n m v h]

@[simp] theorem getD_upd_self {α : Type} (t : Tbl α) (n : Nat) (d : α) (f : α → α) : (t.upd n d f).getD n d = f (t.getD n d) := by
  simp [upd]

theorem getD_upd_ne {α : Type} (t : Tbl α) (n m : Nat) (d : α) (f : α → α) (h : m ≠ n) : (t.upd n d f).getD m d = t.getD m d :=
  getD_put_ne t n m _ d h

theorem upd_upd {α : Type} (t : Tbl α) (n : Nat) (d : α) (f g : α → α) : (t.upd n d f).upd n d g = t.upd n d fun x => g (f x) := by
  unfold upd
  rw [getD_put_self, put_put]

end Sys2Proof.Tbl
end

