-- ==== Sys2Proof/Laws/Core.lean ====
section
/-! SUPPORT. Laws of the DV32 cores: reading and changing a core and its registers. -/

namespace Sys2Proof.Machine

open Sys2Proof

@[simp] theorem State.core_modCore (s : State) (c : Nat) (f : Core → Core) : (s.modCore c f).core c = f (s.core c) := by
  simp [State.core, State.modCore, State.modGaf]

theorem State.core_modCore_ne (s : State) (c d : Nat) (f : Core → Core) (h : d ≠ c) : (s.modCore c f).core d = s.core d := by
  simp [State.core, State.modCore, State.modGaf, Tbl.getD_upd_ne _ _ _ _ _ h]

@[simp] theorem State.modCore_modCore (s : State) (c : Nat) (f g : Core → Core) :
    (s.modCore c f).modCore c g = s.modCore c fun k => g (f k) := by
  simp [State.modCore, State.modGaf, Tbl.upd_upd]

theorem Core.reg_zero (k : Core) : k.reg 0 = 0 := rfl

theorem Core.reg_setReg (k : Core) (n m : Nat) (v : W32) :
    (k.setReg n v).reg m = if m = n then (if n = 0 then 0 else v) else k.reg m := by
  unfold Core.reg Core.setReg
  by_cases hm : m = 0
  · subst hm
    by_cases hn : n = 0
    · simp [hn]
    · simp [Ne.symm hn]
  · by_cases hn : n = 0
    · subst hn; simp [hm]
    · by_cases h : m = n
      · subst h; simp [hn]
      · simp [hm, hn, h, Tbl.getD_put_ne _ _ _ _ _ h]

@[simp] theorem Core.setReg_pc (k : Core) (n : Nat) (v : W32) : (k.setReg n v).pc = k.pc := by
  unfold Core.setReg; split <;> rfl

@[simp] theorem Core.setReg_psr (k : Core) (n : Nat) (v : W32) : (k.setReg n v).psr = k.psr := by
  unfold Core.setReg; split <;> rfl

@[simp] theorem Core.setReg_sram (k : Core) (n : Nat) (v : W32) : (k.setReg n v).sram = k.sram := by
  unfold Core.setReg; split <;> rfl

@[simp] theorem Core.settleEret_reg (k : Core) (n : Nat) : k.settleEret.reg n = k.reg n := by
  unfold Core.settleEret; split <;> rfl

@[simp] theorem Core.settleEret_pc (k : Core) : k.settleEret.pc = k.pc := by
  unfold Core.settleEret; split <;> rfl

@[simp] theorem Core.settleEret_psr (k : Core) : k.settleEret.psr = k.psr := by
  unfold Core.settleEret; split <;> rfl

@[simp] theorem Core.settleEret_sram (k : Core) : k.settleEret.sram = k.sram := by
  unfold Core.settleEret; split <;> rfl

@[simp] theorem Core.settleEret_user (k : Core) : k.settleEret.user = k.user := by
  simp [Core.user]

end Sys2Proof.Machine
end

