-- ==== Sys2Proof/Laws/Mem.lean ====
section
/-! SUPPORT. Laws of the sparse byte memory: every operation keeps the canonical form, a read gives what was written, and a write leaves the other addresses alone. -/

namespace Sys2Proof.Machine.Mem

open Sys2Proof

/-- Every listed address lies above `k`. -/
def Above (k : Nat) (m : Mem) : Prop := ∀ c ∈ m, k < c.1

theorem wf_nil (d : Byte) : wf d [] = true := rfl

theorem wf_cons (d : Byte) (k : Nat) (v : Byte) (m : Mem) :
    wf d ((k, v) :: m) = true ↔ v ≠ d ∧ Above k m ∧ wf d m = true := by
  induction m generalizing k v with
  | nil => simp [wf, Above]
  | cons c r ih =>
    obtain ⟨k', v'⟩ := c
    have h := ih k' v'
    simp only [wf, Bool.and_eq_true, bne_iff_ne, ne_eq, decide_eq_true_eq]
    constructor
    · rintro ⟨⟨hv, hk⟩, hr⟩
      refine ⟨hv, ?_, hr⟩
      intro c hc
      rcases List.mem_cons.1 hc with rfl | hc
      · exact hk
      · exact Nat.lt_trans hk ((h.1 hr).2.1 c hc)
    · rintro ⟨hv, ha, hr⟩
      exact ⟨⟨hv, ha (k', v') (by simp)⟩, hr⟩

theorem wf_filter (d : Byte) (p : Host.Cell → Bool) (m : Mem) (h : wf d m = true) : wf d (m.filter p) = true := by
  induction m with
  | nil => rfl
  | cons c r ih =>
    obtain ⟨k, v⟩ := c
    rw [wf_cons] at h
    by_cases hp : p (k, v) = true
    · rw [List.filter_cons_of_pos hp, wf_cons]
      exact ⟨h.1, fun c hc => h.2.1 c (List.mem_filter.1 hc).1, ih h.2.2⟩
    · rw [List.filter_cons_of_neg hp]; exact ih h.2.2

theorem mem_insert (m : Mem) (a : Nat) (b : Byte) (c : Host.Cell) (h : c ∈ insert m a b) : c = (a, b) ∨ c ∈ m := by
  induction m with
  | nil => simpa [insert] using h
  | cons x r ih =>
    obtain ⟨k, v⟩ := x
    simp only [insert] at h
    split at h
    · simpa using h
    · split at h
      · rcases List.mem_cons.1 h with h | h
        · exact Or.inl h
        · exact Or.inr (List.mem_cons_of_mem _ h)
      · rcases List.mem_cons.1 h with h | h
        · exact Or.inr (by simp [h])
        · rcases ih h with h | h
          · exact Or.inl h
          · exact Or.inr (List.mem_cons_of_mem _ h)

theorem wf_insert (d : Byte) (m : Mem) (a : Nat) (b : Byte) (hb : b ≠ d) (h : wf d m = true) : wf d (insert m a b) = true := by
  induction m with
  | nil => simp [insert, wf, hb]
  | cons x r ih =>
    obtain ⟨k, v⟩ := x
    have h' := (wf_cons d k v r).1 h
    simp only [insert]
    split
    · rename_i hak
      rw [wf_cons]
      refine ⟨hb, ?_, h⟩
      intro c hc
      rcases List.mem_cons.1 hc with rfl | hc
      · exact hak
      · exact Nat.lt_trans hak (h'.2.1 c hc)
    · split
      · rename_i _ hka
        subst hka
        rw [wf_cons]; exact ⟨hb, h'.2.1, h'.2.2⟩
      · rename_i h1 h2
        rw [wf_cons]
        refine ⟨h'.1, ?_, ih h'.2.2⟩
        intro c hc
        rcases mem_insert r a b c hc with rfl | hc
        · show k < a; omega
        · exact h'.2.1 c hc

/-- Writing a byte keeps the canonical form. -/
theorem wf_writeByte (d : Byte) (m : Mem) (a : Nat) (b : Byte) (h : wf d m = true) : wf d (writeByte d m a b) = true := by
  unfold writeByte
  split
  · exact wf_filter d _ m h
  · rename_i hb; exact wf_insert d m a b hb h

/-- Writing bytes keeps the canonical form. -/
theorem wf_write (d : Byte) (m : Mem) (a : Nat) (bs : Bytes) (h : wf d m = true) : wf d (write d m a bs) = true := by
  induction bs generalizing m a with
  | nil => exact h
  | cons b r ih => exact ih _ _ (wf_writeByte d m a b h)

/-- Clearing a range keeps the canonical form. -/
theorem wf_clear (d : Byte) (m : Mem) (a n : Nat) (h : wf d m = true) : wf d (clear m a n) = true := wf_filter d _ m h

theorem readByte_filter (d : Byte) (p : Nat → Bool) (m : Mem) (x : Nat) :
    readByte d (m.filter fun c => p c.1) x = if p x then readByte d m x else d := by
  induction m with
  | nil => simp [readByte]
  | cons c r ih =>
    obtain ⟨k, v⟩ := c
    by_cases hp : p k = true
    · rw [List.filter_cons_of_pos (by simpa using hp)]
      simp only [readByte, ih]
      by_cases hk : k = x
      · subst hk; simp [hp]
      · simp [hk]
    · rw [List.filter_cons_of_neg (by simpa using hp)]
      simp only [readByte, ih]
      by_cases hk : k = x
      · subst hk; simp [hp]
      · simp [hk]

theorem readByte_insert (d : Byte) (m : Mem) (a : Nat) (b : Byte) (x : Nat) :
    readByte d (insert m a b) x = if a = x then b else readByte d m x := by
  induction m with
  | nil => simp [insert, readByte]
  | cons c r ih =>
    obtain ⟨k, v⟩ := c
    simp only [insert]
    split
    · simp [readByte]
    · split
      · rename_i _ hka
        subst hka
        by_cases hx : k = x <;> simp [readByte, hx]
      · rename_i _ hka
        simp only [readByte, ih]
        by_cases hk : k = x
        · subst hk
          have : ¬ a = k := fun h => hka h.symm
          simp [this]
        · simp [hk]

/-- A byte reads as written; every other address reads as before. -/
theorem readByte_writeByte (d : Byte) (m : Mem) (a : Nat) (b : Byte) (x : Nat) :
    readByte d (writeByte d m a b) x = if a = x then b else readByte d m x := by
  unfold writeByte
  split
  · rename_i hb
    subst hb
    unfold erase
    rw [readByte_filter b (fun k => decide (k ≠ a)) m x]
    by_cases hx : a = x
    · subst hx; simp
    · have : ¬ x = a := fun h => hx h.symm
      simp [hx, this]
  · exact readByte_insert d m a b x

/-- A write leaves every address outside it as it was. -/
theorem readByte_write_out (d : Byte) (m : Mem) (a : Nat) (bs : Bytes) (x : Nat) (h : x < a ∨ a + bs.length ≤ x) :
    readByte d (write d m a bs) x = readByte d m x := by
  induction bs generalizing m a with
  | nil => rfl
  | cons b r ih =>
    simp only [write]
    rw [ih _ _ (by simp at h; omega), readByte_writeByte]
    have : ¬ a = x := by simp at h; omega
    simp [this]

/-- A read after a write at the same place gives the bytes written. -/
theorem readByte_write_in (d : Byte) (m : Mem) (a : Nat) (bs : Bytes) (i : Nat) (h : i < bs.length) :
    readByte d (write d m a bs) (a + i) = bs[i] := by
  induction bs generalizing m a i with
  | nil => simp at h
  | cons b r ih =>
    cases i with
    | zero =>
      simp only [write, Nat.add_zero]
      rw [readByte_write_out _ _ _ _ _ (by omega), readByte_writeByte]
      simp
    | succ j =>
      simp only [write]
      have := ih (writeByte d m a b) (a + 1) j (by simpa using h)
      rw [show a + (j + 1) = a + 1 + j by omega, this]
      simp

/-- A cleared address reads as an unlisted one does; every other reads as before. -/
theorem readByte_clear (d : Byte) (m : Mem) (a n x : Nat) :
    readByte d (clear m a n) x = if x < a ∨ a + n ≤ x then readByte d m x else d := by
  unfold clear
  rw [readByte_filter d (fun k => decide (k < a ∨ a + n ≤ k)) m x]
  simp

/-- The bytes read are the bytes written. -/
theorem read_write (d : Byte) (m : Mem) (a : Nat) (bs : Bytes) : read d (write d m a bs) a bs.length = bs := by
  have key : ∀ (k : Nat) (pre post : Bytes), bs = pre ++ post → k = pre.length →
      (seqFrom (a + k) post.length).map (readByte d (write d m a bs)) = post := by
    intro k pre post
    induction post generalizing k pre with
    | nil => intros; rfl
    | cons b r ih =>
      intro hb hk
      simp only [List.length_cons, seqFrom, List.map_cons]
      have hl : k < bs.length := by rw [hb, hk]; simp
      have h1 := readByte_write_in d m a bs k hl
      have h2 : bs[k] = b := by subst hb; simp [hk]
      have h3 := ih (k + 1) (pre ++ [b]) (by simp [hb]) (by simp [hk])
      rw [h1, h2]
      congr 1
  simpa [read] using key 0 [] bs (by simp) rfl

end Sys2Proof.Machine.Mem

namespace Sys2Proof.Machine

open Sys2Proof

/-- Programming keeps the canonical form of the flash. -/
theorem wf_programMem (m : Mem) (a : Nat) (bs : Bytes) (h : Mem.wf 0xFF m = true) : Mem.wf 0xFF (programMem m a bs) = true :=
  Mem.wf_write _ _ _ _ h

/-- A finished flash operation keeps the canonical form of the flash. -/
theorem wf_flashApply (m : Mem) (o : FlashOp) (h : Mem.wf 0xFF m = true) : Mem.wf 0xFF (o.apply m) = true := by
  cases o <;> simp only [FlashOp.apply]
  · exact Mem.wf_clear _ _ _ _ h
  · exact wf_programMem _ _ _ h
  · exact wf_programMem _ _ _ h
  · exact h

/-- A write of HBM keeps its canonical form. -/
theorem wf_writeNow (f : Fabric) (pa : Nat) (bs : Bytes) (h : Mem.wf 0 f.hbm = true) : Mem.wf 0 (f.writeNow pa bs).hbm = true :=
  Mem.wf_write _ _ _ _ h

/-- After reset HBM and the flash list nothing, which is the canonical form. -/
theorem reset_wf : Mem.wf 0 State.reset.fab.hbm = true ∧ Mem.wf 0xFF State.reset.fl.mem = true := ⟨rfl, rfl⟩

end Sys2Proof.Machine
end

