-- ==== Sys2Proof/Laws/Fabric.lean ====
section
/-! SUPPORT. Writes of device memory at admission: each keeps the canonical form of HBM and the translation table; an admitted one writes its bytes and nothing else. -/

namespace Sys2Proof.Machine

open Sys2Proof

/-- An admitted write keeps the canonical form of HBM. -/
theorem wf_takeIn (f : Fabric) (pa : Nat) (bs : Bytes) (h : Mem.wf 0 f.hbm = true) : Mem.wf 0 (f.takeIn pa bs).hbm = true := by
  have pieces : ∀ (l : List (Nat × Nat)) (g : Fabric), Mem.wf 0 g.hbm = true →
      Mem.wf 0 (l.foldl (fun f p => if f.badPartial p.1 p.2 then f else f.writeNow p.1 (slice bs (p.1 - pa) p.2)) g).hbm = true := by
    intro l
    induction l with
    | nil => exact fun _ hg => hg
    | cons p l ih =>
      intro g hg
      simp only [List.foldl_cons]
      split
      · exact ih g hg
      · exact ih _ (wf_writeNow g _ _ hg)
  unfold Fabric.takeIn
  split
  · exact pieces _ f h
  · exact wf_writeNow f pa bs h

@[simp] theorem Fabric.askCopy_hbm (f : Fabric) (p : Nat) : (f.askCopy p).hbm = f.hbm := by
  unfold Fabric.askCopy; split <;> rfl

@[simp] theorem Fabric.hold_hbm (f : Fabric) (p : Nat) : (f.hold p).hbm = f.hbm := by
  simp only [Fabric.hold]; split <;> split <;> simp

/-- A write at its admission point keeps the canonical form of HBM, be it written, held or made to wait. -/
theorem wf_enter (f : Fabric) (pa : Nat) (bs : Bytes) (h : Mem.wf 0 f.hbm = true) : Mem.wf 0 (f.enter pa bs).hbm = true := by
  simp only [Fabric.enter]
  split
  · exact h
  · split
    · rw [Fabric.hold_hbm]; exact h
    · exact wf_takeIn f pa bs h

theorem wf_enterAll (l : List (Nat × Nat)) (f : Fabric) (bs : Bytes) (h : Mem.wf 0 f.hbm = true) : Mem.wf 0 (f.enterAll l bs).1.hbm = true := by
  induction l generalizing f bs with
  | nil => exact h
  | cons p l ih => exact ih _ _ (wf_enter f p.1 _ h)

/-- A write of a tenant's device memory that succeeds keeps the canonical form of HBM. -/
theorem wf_writeDev (f g : Fabric) (tenant off : Nat) (bs : Bytes) (held : List Nat) (h : Mem.wf 0 f.hbm = true)
    (ok : f.writeDev tenant off bs = .ok (g, held)) : Mem.wf 0 g.hbm = true := by
  unfold Fabric.writeDev at ok
  split at ok
  · simp at ok
  · split at ok
    · simp at ok
    · injection ok with ok
      have e : (f.enterAll _ bs).1 = g := congrArg Prod.fst ok
      exact e ▸ wf_enterAll _ f bs h

/-- Where its pane is not armed, the hold buffer has room and no block it covers in part is in error, a write is applied at once. -/
theorem Fabric.enter_open (f : Fabric) (pa : Nat) (bs : Bytes) (room : (f.ctrl (stackOf pa)).held.length < 256)
    (free : f.armed (paneOf pa) = false) (good : f.badPartial pa bs.length = false) : f.enter pa bs = f.writeNow pa bs := by
  have : ¬ 256 ≤ (f.ctrl (stackOf pa)).held.length := by omega
  simp [Fabric.enter, Fabric.takeIn, this, free, good]

/-- What an applied write leaves at every address: its bytes inside its range, the old ones outside. -/
theorem Fabric.writeNow_byte (f : Fabric) (pa : Nat) (bs : Bytes) (x : Nat) :
    (∀ i (h : i < bs.length), x = pa + i → Mem.readByte 0 (f.writeNow pa bs).hbm x = bs[i]) ∧
    (x < pa ∨ pa + bs.length ≤ x → Mem.readByte 0 (f.writeNow pa bs).hbm x = Mem.readByte 0 f.hbm x) :=
  ⟨fun i h e => e ▸ Mem.readByte_write_in 0 f.hbm pa bs i h, fun h => Mem.readByte_write_out 0 f.hbm pa bs x h⟩

end Sys2Proof.Machine
end

