-- ==== Sys2Proof/Laws/Frame.lean ====
section
/-! SUPPORT. Frames compose: how OnlyChanges passes through a chain of updates, and the part each named update of State touches. -/

namespace Sys2Proof.Machine

open Sys2Proof

theorem StatePart.Same.refl (p : StatePart) (s : State) : p.Same s s := by cases p <;> rfl

theorem StatePart.Same.trans {p : StatePart} {s t u : State} (h : p.Same s t) (g : p.Same t u) : p.Same s u := by
  cases p <;> exact Eq.trans g h

theorem OnlyChanges.refl (ps : List StatePart) (s : State) : OnlyChanges ps s s := fun p _ => StatePart.Same.refl p s

theorem OnlyChanges.trans {ps : List StatePart} {s t u : State} (h : OnlyChanges ps s t) (g : OnlyChanges ps t u) : OnlyChanges ps s u :=
  fun p hp => (h p hp).trans (g p hp)

theorem OnlyChanges.mono {ps qs : List StatePart} {s t : State} (h : OnlyChanges ps s t) (sub : ∀ p ∈ ps, p ∈ qs) : OnlyChanges qs s t :=
  fun p hp => h p fun hm => hp (sub p hm)

/-- Two frames give the frame of both. -/
theorem OnlyChanges.append {ps qs : List StatePart} {s t u : State} (h : OnlyChanges ps s t) (g : OnlyChanges qs t u) : OnlyChanges (ps ++ qs) s u :=
  (h.mono fun _ hp => List.mem_append_left _ hp).trans (g.mono fun _ hp => List.mem_append_right _ hp)

theorem State.emit_only (s : State) (o : Output) : OnlyChanges [.out] s (s.emit o) := by
  intro p hp; cases p <;> first | rfl | exact absurd (List.mem_singleton_self _) hp

theorem State.report_only (s : State) (r : Report) : OnlyChanges [.log] s (s.report r) := by
  intro p hp; cases p <;> first | rfl | exact absurd (List.mem_singleton_self _) hp

theorem State.tick_only (s : State) : OnlyChanges [.freeCtr] s (s.tick) := by
  intro p hp; cases p <;> first | rfl | exact absurd (List.mem_singleton_self _) hp

theorem State.modFn_only (s : State) (n : Nat) (g : FnQueues → FnQueues) : OnlyChanges [.con] s (s.modFn n g) := by
  intro p hp; cases p <;> first | rfl | exact absurd (List.mem_singleton_self _) hp

theorem State.modQueue_only (s : State) (n q : Nat) (g : Queue → Queue) : OnlyChanges [.con] s (s.modQueue n q g) := by
  intro p hp; cases p <;> first | rfl | exact absurd (List.mem_singleton_self _) hp

theorem State.modHost_only (s : State) (n : Nat) (g : HostFn → HostFn) : OnlyChanges [.hep] s (s.modHost n g) := by
  intro p hp; cases p <;> first | rfl | exact absurd (List.mem_singleton_self _) hp

theorem State.modPort_only (s : State) (n : Nat) (g : Port → Port) : OnlyChanges [.apt] s (s.modPort n g) := by
  intro p hp; cases p <;> first | rfl | exact absurd (List.mem_singleton_self _) hp

theorem State.modNet_only (s : State) (n : Nat) (g : NetPort → NetPort) : OnlyChanges [.net] s (s.modNet n g) := by
  intro p hp; cases p <;> first | rfl | exact absurd (List.mem_singleton_self _) hp

theorem State.modCru_only (s : State) (g : Crucible → Crucible) : OnlyChanges [.cru] s (s.modCru g) := by
  intro p hp; cases p <;> first | rfl | exact absurd (List.mem_singleton_self _) hp

theorem State.modBoot_only (s : State) (g : Boot → Boot) : OnlyChanges [.boot] s (s.modBoot g) := by
  intro p hp; cases p <;> first | rfl | exact absurd (List.mem_singleton_self _) hp

theorem State.modGaf_only (s : State) (g : Gaffer → Gaffer) : OnlyChanges [.gaf] s (s.modGaf g) := by
  intro p hp; cases p <;> first | rfl | exact absurd (List.mem_singleton_self _) hp

theorem State.modCore_only (s : State) (c : Nat) (g : Core → Core) : OnlyChanges [.gaf] s (s.modCore c g) := by
  intro p hp; cases p <;> first | rfl | exact absurd (List.mem_singleton_self _) hp

theorem State.modAnn_only (s : State) (g : Anneal → Anneal) : OnlyChanges [.ann] s (s.modAnn g) := by
  intro p hp; cases p <;> first | rfl | exact absurd (List.mem_singleton_self _) hp

theorem State.modLeh_only (s : State) (g : Lehr → Lehr) : OnlyChanges [.leh] s (s.modLeh g) := by
  intro p hp; cases p <;> first | rfl | exact absurd (List.mem_singleton_self _) hp

theorem State.modMem_only (s : State) (g : Members → Members) : OnlyChanges [.mem] s (s.modMem g) := by
  intro p hp; cases p <;> first | rfl | exact absurd (List.mem_singleton_self _) hp

theorem State.modMrv_only (s : State) (g : Marver → Marver) : OnlyChanges [.mrv] s (s.modMrv g) := by
  intro p hp; cases p <;> first | rfl | exact absurd (List.mem_singleton_self _) hp

theorem State.modRme_only (s : State) (g : Rme → Rme) : OnlyChanges [.rme] s (s.modRme g) := by
  intro p hp; cases p <;> first | rfl | exact absurd (List.mem_singleton_self _) hp

theorem State.modSto_only (s : State) (g : Storage → Storage) : OnlyChanges [.sto] s (s.modSto g) := by
  intro p hp; cases p <;> first | rfl | exact absurd (List.mem_singleton_self _) hp

theorem State.modTen_only (s : State) (g : Tensor → Tensor) : OnlyChanges [.ten] s (s.modTen g) := by
  intro p hp; cases p <;> first | rfl | exact absurd (List.mem_singleton_self _) hp

theorem State.modTm_only (s : State) (g : Tm → Tm) : OnlyChanges [.tm] s (s.modTm g) := by
  intro p hp; cases p <;> first | rfl | exact absurd (List.mem_singleton_self _) hp

end Sys2Proof.Machine
end

