-- ==== Sys2Proof/Laws/PerInstr.lean ====
section
/-! SUPPORT. Per command: no table word spells it, since the opcode table gives no row any bits; a command reaches the block only through its queue. -/

namespace Sys2Proof.Laws.NoWord

open Sys2Proof Sys2Proof.Machine

/-- No word of any width spells the command. -/
def Statement (i : Instr) : Prop := ∀ nbits w : Nat, decodeTableWord nbits w ≠ some i

/-- Decoding answers no command for any word. -/
theorem none_spelled (i : Instr) : Statement i := fun _ _ h => nomatch h

theorem inputSag (vinMv : Nat) : Statement (.inputSag vinMv) := none_spelled _
theorem railOutOfWindow (rail mv : Nat) : Statement (.railOutOfWindow rail mv) := none_spelled _
theorem undervoltageLockout (vinMv : Nat) : Statement (.undervoltageLockout vinMv) := none_spelled _
theorem lockoutEnd (vinMv : Nat) : Statement (.lockoutEnd vinMv) := none_spelled _
theorem overvoltageCutOff (vinMv : Nat) : Statement (.overvoltageCutOff vinMv) := none_spelled _
theorem cutOffEnd (vinMv : Nat) : Statement (.cutOffEnd vinMv) := none_spelled _
theorem modEnFall : Statement (.modEnFall) := none_spelled _
theorem modEnRise : Statement (.modEnRise) := none_spelled _
theorem inhibitLift (vinMv : Nat) : Statement (.inhibitLift vinMv) := none_spelled _
theorem inputGlitch (vinMv : Nat) : Statement (.inputGlitch vinMv) := none_spelled _
theorem junctionThrottle (tempC : Nat) : Statement (.junctionThrottle tempC) := none_spelled _
theorem throttleStep (tempC : Nat) : Statement (.throttleStep tempC) := none_spelled _
theorem thermalTrip (sensor tempC : Nat) : Statement (.thermalTrip sensor tempC) := none_spelled _
theorem coreRailOvervoltage (rail mv : Nat) : Statement (.coreRailOvervoltage rail mv) := none_spelled _
theorem inputCurrentLimit (ma : Nat) : Statement (.inputCurrentLimit ma) := none_spelled _
theorem aodLimitCtrlWrite (value : W32) : Statement (.aodLimitCtrlWrite value) := none_spelled _
theorem aodPowerOn (vinMv cohortId hostEn sbAddr recover : Nat) : Statement (.aodPowerOn vinMv cohortId hostEn sbAddr recover) := none_spelled _
theorem modRstNAssert : Statement (.modRstNAssert) := none_spelled _
theorem orderlyPhaseEnd : Statement (.orderlyPhaseEnd) := none_spelled _
theorem bootRomStart (selfTest trained dies : Nat) : Statement (.bootRomStart selfTest trained dies) := none_spelled _
theorem cohortMemberJoin (port member size hostEn serial : Nat) (sections : List (Nat × Bytes)) : Statement (.cohortMemberJoin port member size hostEn serial sections) := none_spelled _
theorem memberWaitExpiry : Statement (.memberWaitExpiry) := none_spelled _
theorem linkFlitReplay (link : Nat) (failed : Bool) : Statement (.linkFlitReplay link failed) := none_spelled _
theorem bridgeEntryOverflow (domain : Nat) : Statement (.bridgeEntryOverflow domain) := none_spelled _
theorem patrolScrub (ctrl : Nat) (errors : List (Nat × Byte)) : Statement (.patrolScrub ctrl errors) := none_spelled _
theorem paneErrorAgeOut (ctrl pane : Nat) : Statement (.paneErrorAgeOut ctrl pane) := none_spelled _
theorem paneWithdraw (pane : Nat) : Statement (.paneWithdraw pane) := none_spelled _
theorem armedPaneWrite (pa : Nat) (bytes : Bytes) : Statement (.armedPaneWrite pa bytes) := none_spelled _
theorem paneCopyDone (pane stallNs waitUs sram : Nat) : Statement (.paneCopyDone pane stallNs waitUs sram) := none_spelled _
theorem selfRefreshEnter (stack quadrant : Nat) (enter : Bool) : Statement (.selfRefreshEnter stack quadrant enter) := none_spelled _
theorem memCtrlWrite (core offset : Nat) (value : W32) : Statement (.memCtrlWrite core offset value) := none_spelled _
theorem registerWrite (who : Master) (block offset : Nat) (value : W32) : Statement (.registerWrite who block offset value) := none_spelled _
theorem queueEnable (fn q : Nat) (ctrl : W32) : Statement (.queueEnable fn q ctrl) := none_spelled _
theorem queueDisable (fn q : Nat) : Statement (.queueDisable fn q) := none_spelled _
theorem queueDoorbell (fn q tail : Nat) : Statement (.queueDoorbell fn q tail) := none_spelled _
theorem cqHeadWrite (fn q head : Nat) : Statement (.cqHeadWrite fn q head) := none_spelled _
theorem commandFetch (fn q : Nat) : Statement (.commandFetch fn q) := none_spelled _
theorem commandStart (fn q : Nat) : Statement (.commandStart fn q) := none_spelled _
theorem syncCounterWrite (fn index : Nat) (value : W32) : Statement (.syncCounterWrite fn index value) := none_spelled _
theorem copy (r : CmdRef) : Statement (.copy r) := none_spelled _
theorem fill (r : CmdRef) : Statement (.fill r) := none_spelled _
theorem copyTensor (r : CmdRef) : Statement (.copyTensor r) := none_spelled _
theorem writeImm (r : CmdRef) : Statement (.writeImm r) := none_spelled _
theorem queryDevice (r : CmdRef) : Statement (.queryDevice r) := none_spelled _
theorem placementQuery (r : CmdRef) : Statement (.placementQuery r) := none_spelled _
theorem tenantSet (r : CmdRef) : Statement (.tenantSet r) := none_spelled _
theorem tenantQuiesce (r : CmdRef) : Statement (.tenantQuiesce r) := none_spelled _
theorem tenantResume (r : CmdRef) : Statement (.tenantResume r) := none_spelled _
theorem paneMap (r : CmdRef) : Statement (.paneMap r) := none_spelled _
theorem paneUnmap (r : CmdRef) : Statement (.paneUnmap r) := none_spelled _
theorem profileStage (r : CmdRef) : Statement (.profileStage r) := none_spelled _
theorem restart (r : CmdRef) : Statement (.restart r) := none_spelled _
theorem diagRead (r : CmdRef) : Statement (.diagRead r) := none_spelled _
theorem modelRegister (r : CmdRef) : Statement (.modelRegister r) := none_spelled _
theorem modelLoad (r : CmdRef) : Statement (.modelLoad r) := none_spelled _
theorem modelEvict (r : CmdRef) : Statement (.modelEvict r) := none_spelled _
theorem modelRun (r : CmdRef) : Statement (.modelRun r) := none_spelled _
theorem matmul (r : CmdRef) : Statement (.matmul r) := none_spelled _
theorem project (r : CmdRef) : Statement (.project r) := none_spelled _
theorem workUnitGrant (r : CmdRef) (quarter : Nat) (others : List Nat) (k l lo n : Nat) : Statement (.workUnitGrant r quarter others k l lo n) := none_spelled _
theorem workUnitDone (quarter tile sram : Nat) : Statement (.workUnitDone quarter tile sram) := none_spelled _
theorem quarterReassign (quarter : Nat) : Statement (.quarterReassign quarter) := none_spelled _
theorem modelFetchDone (tenant id : Nat) : Statement (.modelFetchDone tenant id) := none_spelled _
theorem residencyMigration (tenant id : Nat) (seats : List (Nat × Nat)) : Statement (.residencyMigration tenant id seats) := none_spelled _
theorem shardDefine (r : CmdRef) : Statement (.shardDefine r) := none_spelled _
theorem bucketDefine (r : CmdRef) : Statement (.bucketDefine r) := none_spelled _
theorem ruleLoad (r : CmdRef) : Statement (.ruleLoad r) := none_spelled _
theorem groupMap (r : CmdRef) : Statement (.groupMap r) := none_spelled _
theorem start (r : CmdRef) : Statement (.start r) := none_spelled _
theorem startBarrierDigest (rank : Nat) (digest chain : Bytes) : Statement (.startBarrierDigest rank digest chain) := none_spelled _
theorem startBarrierTimeout : Statement (.startBarrierTimeout) := none_spelled _
theorem setConst (r : CmdRef) : Statement (.setConst r) := none_spelled _
theorem retry (r : CmdRef) : Statement (.retry r) := none_spelled _
theorem stop (r : CmdRef) : Statement (.stop r) := none_spelled _
theorem query (r : CmdRef) : Statement (.query r) := none_spelled _
theorem intakeToken (contributor : Nat) (token : Bytes) : Statement (.intakeToken contributor token) := none_spelled _
theorem intakeTimeout : Statement (.intakeTimeout) := none_spelled _
theorem partialMessage (imm : Nat) (payload : Bytes) : Statement (.partialMessage imm payload) := none_spelled _
theorem exchangeTimeout (bucket : Option Nat) : Statement (.exchangeTimeout bucket) := none_spelled _
theorem scalarMessage (imm : Nat) (payload : Bytes) : Statement (.scalarMessage imm payload) := none_spelled _
theorem groupUpdateDone (sram : Nat) : Statement (.groupUpdateDone sram) := none_spelled _
theorem gatherMessage (imm : Nat) (payload : Bytes) : Statement (.gatherMessage imm payload) := none_spelled _
theorem weightsReady (group : Nat) : Statement (.weightsReady group) := none_spelled _
theorem abort (src step reason : Nat) : Statement (.abort src step reason) := none_spelled _
theorem epochTimerDue : Statement (.epochTimerDue) := none_spelled _
theorem epochAnnounce (gen epoch step : Nat) (nonce : Bytes) : Statement (.epochAnnounce gen epoch step nonce) := none_spelled _
theorem announceAck (gen src epoch : Nat) : Statement (.announceAck gen src epoch) := none_spelled _
theorem segmentStage (sram : Nat) : Statement (.segmentStage sram) := none_spelled _
theorem segmentReceive (gen src : Nat) (bytes : Bytes) : Statement (.segmentReceive gen src bytes) := none_spelled _
theorem segmentAck (gen buddy epoch seg kind : Nat) : Statement (.segmentAck gen buddy epoch seg kind) := none_spelled _
theorem segmentRefused (gen buddy epoch seg : Nat) : Statement (.segmentRefused gen buddy epoch seg) := none_spelled _
theorem shardReport (gen epoch rank segments scope first count : Nat) (digest : Bytes) (buddies legs : List (Nat × Nat)) : Statement (.shardReport gen epoch rank segments scope first count digest buddies legs) := none_spelled _
theorem manifestStore (gen : Nat) (manifest : Bytes) : Statement (.manifestStore gen manifest) := none_spelled _
theorem manifestAck (gen epoch : Nat) : Statement (.manifestAck gen epoch) := none_spelled _
theorem commit (gen : Nat) (manifest : Bytes) : Statement (.commit gen manifest) := none_spelled _
theorem discard (gen epoch cause : Nat) : Statement (.discard gen epoch cause) := none_spelled _
theorem onwardLegDone (epoch kind : Nat) (seg : Option Nat) (ok : Bool) : Statement (.onwardLegDone epoch kind seg ok) := none_spelled _
theorem take (ref : Option CmdRef) : Statement (.take ref) := none_spelled _
theorem policy (r : CmdRef) : Statement (.policy r) := none_spelled _
theorem epochQuery (r : CmdRef) : Statement (.epochQuery r) := none_spelled _
theorem restore (r : CmdRef) (chains : List Bytes) (confirmed : Bool) : Statement (.restore r chains confirmed) := none_spelled _
theorem segmentPullDone (holder rank : Nat) (seg : Option Nat) (bytes : Bytes) : Statement (.segmentPullDone holder rank seg bytes) := none_spelled _
theorem pullTimeout (rank : Nat) (seg : Option Nat) : Statement (.pullTimeout rank seg) := none_spelled _
theorem paneRepair (pane : Nat) : Statement (.paneRepair pane) := none_spelled _
theorem heartbeatSend : Statement (.heartbeatSend) := none_spelled _
theorem heartbeat (src gen : Nat) : Statement (.heartbeat src gen) := none_spelled _
theorem suspicionTimeout (rank : Nat) : Statement (.suspicionTimeout rank) := none_spelled _
theorem suspicionLapse (rank : Nat) : Statement (.suspicionLapse rank) := none_spelled _
theorem suspectReport (gen suspect watcher : Nat) (recent relay : Bool) : Statement (.suspectReport gen suspect watcher recent relay) := none_spelled _
theorem probe (src gen : Nat) : Statement (.probe src gen) := none_spelled _
theorem probeReply (gen src : Nat) : Statement (.probeReply gen src) := none_spelled _
theorem probeWindowExpiry (suspect : Nat) : Statement (.probeWindowExpiry suspect) := none_spelled _
theorem lost (lost : List Nat) (gen epoch root : Nat) : Statement (.lost lost gen epoch root) := none_spelled _
theorem selfFence : Statement (.selfFence) := none_spelled _
theorem withdraw (rank gen : Nat) : Statement (.withdraw rank gen) := none_spelled _
theorem reshard (ref : Option CmdRef) (status epoch flags : Nat) (exclude : List Nat) (table manifest : Bytes) : Statement (.reshard ref status epoch flags exclude table manifest) := none_spelled _
theorem reshardComplete (digests : List (Nat × Bytes × Bytes)) (recoveryUs : Nat) : Statement (.reshardComplete digests recoveryUs) := none_spelled _
theorem dlActive (port speed width : Nat) (flit : Bool) (aperture : List BarInfo) : Statement (.dlActive port speed width flit aperture) := none_spelled _
theorem peerCompletion (port tag status : Nat) (bytes : Bytes) : Statement (.peerCompletion port tag status bytes) := none_spelled _
theorem peerCompletionTimeout (port tag : Nat) : Statement (.peerCompletionTimeout port tag) := none_spelled _
theorem peerTagQuarantineEnd (port tag : Nat) : Statement (.peerTagQuarantineEnd port tag) := none_spelled _
theorem inboundWrite (origin : Inbound) (port addr : Nat) (read : Bool) (bytes : Bytes) : Statement (.inboundWrite origin port addr read bytes) := none_spelled _
theorem slotPowerOn (port : Nat) (auto : Bool) : Statement (.slotPowerOn port auto) := none_spelled _
theorem slotRefclkStart (port : Nat) : Statement (.slotRefclkStart port) := none_spelled _
theorem slotPerstRelease (port : Nat) : Statement (.slotPerstRelease port) := none_spelled _
theorem slotPowerOff (port : Nat) : Statement (.slotPowerOff port) := none_spelled _
theorem attentionIndicatorSet (port value : Nat) : Statement (.attentionIndicatorSet port value) := none_spelled _
theorem powerIndicatorSet (port value : Nat) : Statement (.powerIndicatorSet port value) := none_spelled _
theorem presenceChange (port : Nat) (present : Bool) : Statement (.presenceChange port present) := none_spelled _
theorem attentionButton (port : Nat) : Statement (.attentionButton port) := none_spelled _
theorem buttonWindowEnd (port : Nat) : Statement (.buttonWindowEnd port) := none_spelled _
theorem powerFault (port : Nat) : Statement (.powerFault port) := none_spelled _
theorem surpriseDown (port : Nat) : Statement (.surpriseDown port) := none_spelled _
theorem linkTrainRetry (port : Nat) (failed : Bool) : Statement (.linkTrainRetry port failed) := none_spelled _
theorem cohortLinkDown (port : Nat) : Statement (.cohortLinkDown port) := none_spelled _
theorem bmeClear (fn : Nat) : Statement (.bmeClear fn) := none_spelled _
theorem bmeSet (fn : Nat) : Statement (.bmeSet fn) := none_spelled _
theorem interruptDisableWrite (fn : Nat) (disable : Bool) : Statement (.interruptDisableWrite fn disable) := none_spelled _
theorem flr (fn : Nat) : Statement (.flr fn) := none_spelled _
theorem hotReset : Statement (.hotReset) := none_spelled _
theorem hostLinkDown : Statement (.hostLinkDown) := none_spelled _
theorem fundamentalReset : Statement (.fundamentalReset) := none_spelled _
theorem bar4Read (fn off len : Nat) : Statement (.bar4Read fn off len) := none_spelled _
theorem bar4Write (fn off : Nat) (bytes : Bytes) : Statement (.bar4Write fn off bytes) := none_spelled _
theorem hostReadCompletion (fn tag status : Nat) (bytes : Bytes) : Statement (.hostReadCompletion fn tag status bytes) := none_spelled _
theorem hostReadTimeout (fn tag : Nat) : Statement (.hostReadTimeout fn tag) := none_spelled _
theorem hostTagQuarantineEnd (fn tag : Nat) : Statement (.hostTagQuarantineEnd fn tag) := none_spelled _
theorem hbCtrlWrite (fn : Nat) (value : W32) : Statement (.hbCtrlWrite fn value) := none_spelled _
theorem hepHeartbeat (fn : Nat) : Statement (.hepHeartbeat fn) := none_spelled _
theorem driverLossExpiry (fn : Nat) (met : Bool) : Statement (.driverLossExpiry fn met) := none_spelled _
theorem nvmeSqTailDoorbell (fn q tail : Nat) : Statement (.nvmeSqTailDoorbell fn q tail) := none_spelled _
theorem nvmeCqHeadDoorbell (fn q head : Nat) : Statement (.nvmeCqHeadDoorbell fn q head) := none_spelled _
theorem accelPairDoorbell (port off : Nat) (bytes : Bytes) : Statement (.accelPairDoorbell port off bytes) := none_spelled _
theorem intmsWrite (fn : Nat) (value : W32) : Statement (.intmsWrite fn value) := none_spelled _
theorem intmcWrite (fn : Nat) (value : W32) : Statement (.intmcWrite fn value) := none_spelled _
theorem ccEnClear (fn : Nat) : Statement (.ccEnClear fn) := none_spelled _
theorem ccShnSet (fn shn : Nat) : Statement (.ccShnSet fn shn) := none_spelled _
theorem createIoSq (fn : Nat) : Statement (.createIoSq fn) := none_spelled _
theorem createIoCq (fn : Nat) : Statement (.createIoCq fn) := none_spelled _
theorem deleteIoSq (fn : Nat) : Statement (.deleteIoSq fn) := none_spelled _
theorem deleteIoCq (fn : Nat) : Statement (.deleteIoCq fn) := none_spelled _
theorem getLogPage (fn : Nat) : Statement (.getLogPage fn) := none_spelled _
theorem identify (fn : Nat) : Statement (.identify fn) := none_spelled _
theorem nvmeAbort (fn : Nat) : Statement (.nvmeAbort fn) := none_spelled _
theorem setFeatures (fn : Nat) : Statement (.setFeatures fn) := none_spelled _
theorem getFeatures (fn : Nat) : Statement (.getFeatures fn) := none_spelled _
theorem asynchronousEventRequest (fn : Nat) : Statement (.asynchronousEventRequest fn) := none_spelled _
theorem firmwareImageDownload (fn : Nat) : Statement (.firmwareImageDownload fn) := none_spelled _
theorem firmwareCommit (fn : Nat) (recent : Bool) (fail : Option Nat) (restart : Option (Nat × Nat)) : Statement (.firmwareCommit fn recent fail restart) := none_spelled _
theorem createAccelQueuePair (fn : Nat) : Statement (.createAccelQueuePair fn) := none_spelled _
theorem deleteAccelQueuePair (fn : Nat) : Statement (.deleteAccelQueuePair fn) := none_spelled _
theorem nvmeRead (c q : Nat) : Statement (.nvmeRead c q) := none_spelled _
theorem nvmeWrite (c q : Nat) : Statement (.nvmeWrite c q) := none_spelled _
theorem nvmeFlush (c q : Nat) : Statement (.nvmeFlush c q) := none_spelled _
theorem writeZeroes (c q : Nat) : Statement (.writeZeroes c q) := none_spelled _
theorem datasetManagement (c q : Nat) : Statement (.datasetManagement c q) := none_spelled _
theorem overlapRelease : Statement (.overlapRelease) := none_spelled _
theorem driveCompletion (drive tag : Nat) (ok : Bool) (sram : Nat) (bytes : Bytes) : Statement (.driveCompletion drive tag ok sram bytes) := none_spelled _
theorem driveTimeout (drive tag : Nat) : Statement (.driveTimeout drive tag) := none_spelled _
theorem driveResetDone (drive : Nat) : Statement (.driveResetDone drive) := none_spelled _
theorem driveLost (drive : Nat) (presence : Bool) : Statement (.driveLost drive presence) := none_spelled _
theorem driveReinsert (drive : Nat) (info : DriveInfo) : Statement (.driveReinsert drive info) := none_spelled _
theorem driveTrainRetry (drive : Nat) (info : Option DriveInfo) : Statement (.driveTrainRetry drive info) := none_spelled _
theorem replicaAck (target tag status : Nat) (bytes : Bytes) : Statement (.replicaAck target tag status bytes) := none_spelled _
theorem replicaTimeout (target tag : Nat) : Statement (.replicaTimeout target tag) := none_spelled _
theorem replicaWrite (target : Nat) (message : Bytes) : Statement (.replicaWrite target message) := none_spelled _
theorem replicaRebuildDone (tenant nsid target : Nat) : Statement (.replicaRebuildDone tenant nsid target) := none_spelled _
theorem frameReceive (port : Nat) (bytes : Bytes) (fecCorrected : Nat) (fecOk fcsOk : Bool) : Statement (.frameReceive port bytes fecCorrected fecOk fcsOk) := none_spelled _
theorem pfcRepeat (port prio : Nat) : Statement (.pfcRepeat port prio) := none_spelled _
theorem pfcFrameReceive (port enable : Nat) (quanta : List Nat) : Statement (.pfcFrameReceive port enable quanta) := none_spelled _
theorem pauseExpiry (port prio : Nat) : Statement (.pauseExpiry port prio) := none_spelled _
theorem pcsAlignmentLoss (port : Nat) : Statement (.pcsAlignmentLoss port) := none_spelled _
theorem frameParse (sram : Nat) : Statement (.frameParse sram) := none_spelled _
theorem laneProcess (lane sram : Nat) : Statement (.laneProcess lane sram) := none_spelled _
theorem reorderSkip (port : Nat) : Statement (.reorderSkip port) := none_spelled _
theorem fragmentTimeout (index : Nat) : Statement (.fragmentTimeout index) := none_spelled _
theorem leafEnqueue (src : TxSrc) : Statement (.leafEnqueue src) := none_spelled _
theorem transmitStart (port sram : Nat) : Statement (.transmitStart port sram) := none_spelled _
theorem shaperRefill (us : Nat) : Statement (.shaperRefill us) := none_spelled _
theorem hwmRead (offset : Nat) : Statement (.hwmRead offset) := none_spelled _
theorem create (tenant : Nat) : Statement (.create tenant) := none_spelled _
theorem connect (tenant : Nat) (reorders : Bool) : Statement (.connect tenant reorders) := none_spelled _
theorem destroy (tenant : Nat) : Statement (.destroy tenant) := none_spelled _
theorem rdmaWrite (qpn : Nat) : Statement (.rdmaWrite qpn) := none_spelled _
theorem rdmaWriteWithImmediate (qpn : Nat) : Statement (.rdmaWriteWithImmediate qpn) := none_spelled _
theorem rdmaSend (qpn : Nat) : Statement (.rdmaSend qpn) := none_spelled _
theorem rdmaSendWithImmediate (qpn : Nat) : Statement (.rdmaSendWithImmediate qpn) := none_spelled _
theorem rdmaRead (qpn : Nat) : Statement (.rdmaRead qpn) := none_spelled _
theorem inboundPacket (cnpDue : Bool) (sram : Nat) : Statement (.inboundPacket cnpDue sram) := none_spelled _
theorem ackReceive : Statement (.ackReceive) := none_spelled _
theorem nakReceive : Statement (.nakReceive) := none_spelled _
theorem rnrNakReceive : Statement (.rnrNakReceive) := none_spelled _
theorem holeTimeout (qpn : Nat) : Statement (.holeTimeout qpn) := none_spelled _
theorem ackTimeout (qpn : Nat) : Statement (.ackTimeout qpn) := none_spelled _
theorem cnpReceive : Statement (.cnpReceive) := none_spelled _
theorem rateRecovery (qpn : Nat) : Statement (.rateRecovery qpn) := none_spelled _
theorem windowOpen (r : CmdRef) : Statement (.windowOpen r) := none_spelled _
theorem windowRevoke (r : CmdRef) : Statement (.windowRevoke r) := none_spelled _
theorem drainLimit (window : Nat) : Statement (.drainLimit window) := none_spelled _
theorem targetConnect (target : Nat) (serial : Option Bytes) (serves : Bool) : Statement (.targetConnect target serial serves) := none_spelled _
theorem saInstall (r : CmdRef) : Statement (.saInstall r) := none_spelled _
theorem saRemove (r : CmdRef) : Statement (.saRemove r) := none_spelled _
theorem nsCreate (r : CmdRef) : Statement (.nsCreate r) := none_spelled _
theorem nsDelete (r : CmdRef) : Statement (.nsDelete r) := none_spelled _
theorem nsFormat (r : CmdRef) : Statement (.nsFormat r) := none_spelled _
theorem getNonce (src : MsgSrc) : Statement (.getNonce src) := none_spelled _
theorem getStatus (src : MsgSrc) : Statement (.getStatus src) := none_spelled _
theorem selfTest (src : MsgSrc) (failed : Nat) : Statement (.selfTest src failed) := none_spelled _
theorem getDtkCert (src : MsgSrc) : Statement (.getDtkCert src) := none_spelled _
theorem zeroize (src : MsgSrc) (level : Nat) (nonce sig : Bytes) : Statement (.zeroize src level nonce sig) := none_spelled _
theorem ownerRelease (src : MsgSrc) (nonce sig : Bytes) : Statement (.ownerRelease src nonce sig) := none_spelled _
theorem debugUnlock (src : MsgSrc) (scope : Nat) (nonce sig : Bytes) : Statement (.debugUnlock src scope nonce sig) := none_spelled _
theorem nonceExpiry (nonce : Bytes) : Statement (.nonceExpiry nonce) := none_spelled _
theorem environmentZeroize : Statement (.environmentZeroize) := none_spelled _
theorem entropyTestFail (within1s : Bool) : Statement (.entropyTestFail within1s) := none_spelled _
theorem drbgReseed : Statement (.drbgReseed) := none_spelled _
theorem maskRekey : Statement (.maskRekey) := none_spelled _
theorem periodicSelfTest (pass : Bool) : Statement (.periodicSelfTest pass) := none_spelled _
theorem getVersion (src : MsgSrc) : Statement (.getVersion src) := none_spelled _
theorem getCapabilities (src : MsgSrc) : Statement (.getCapabilities src) := none_spelled _
theorem negotiateAlgorithms (src : MsgSrc) : Statement (.negotiateAlgorithms src) := none_spelled _
theorem getDigests (src : MsgSrc) : Statement (.getDigests src) := none_spelled _
theorem getCertificate (src : MsgSrc) (slot offset len : Nat) : Statement (.getCertificate src slot offset len) := none_spelled _
theorem challenge (src : MsgSrc) (slot : Nat) (nonce : Bytes) : Statement (.challenge src slot nonce) := none_spelled _
theorem getMeasurements (src : MsgSrc) (index : Nat) (nonce : Bytes) : Statement (.getMeasurements src index nonce) := none_spelled _
theorem gafMbPush (core : Option Nat) (fifo entry : Nat) : Statement (.gafMbPush core fifo entry) := none_spelled _
theorem gafMbPop (core : Option Nat) (fifo : Nat) : Statement (.gafMbPop core fifo) := none_spelled _
theorem gafMbCtrlWrite (core fifo : Nat) (value : W32) : Statement (.gafMbCtrlWrite core fifo value) := none_spelled _
theorem gafWdtKick (core : Nat) : Statement (.gafWdtKick core) := none_spelled _
theorem watchdogExpiry (core outcome recent : Nat) (fifos : List Nat) : Statement (.watchdogExpiry core outcome recent fifos) := none_spelled _
theorem machineCheck (core outcome recent : Nat) (fifos : List Nat) : Statement (.machineCheck core outcome recent fifos) := none_spelled _
theorem programFault (core : Nat) : Statement (.programFault core) := none_spelled _
theorem tallyRead (core : Nat) : Statement (.tallyRead core) := none_spelled _
theorem timerSet (core : Nat) : Statement (.timerSet core) := none_spelled _
theorem wait (core : Nat) (due : Bool) : Statement (.wait core due) := none_spelled _
theorem kernelCopy (core : Nat) : Statement (.kernelCopy core) := none_spelled _
theorem pktRecv (core : Nat) : Statement (.pktRecv core) := none_spelled _
theorem pktSend (core : Nat) : Statement (.pktSend core) := none_spelled _
theorem pktReinject (core : Nat) : Statement (.pktReinject core) := none_spelled _
theorem kernelSaInstall (core : Nat) : Statement (.kernelSaInstall core) := none_spelled _
theorem kernelSaRemove (core : Nat) : Statement (.kernelSaRemove core) := none_spelled _
theorem log (core : Nat) : Statement (.log core) := none_spelled _
theorem exit (core : Nat) : Statement (.exit core) := none_spelled _
theorem alarmInterrupt (core : Nat) : Statement (.alarmInterrupt core) := none_spelled _
theorem supervisorSignal (core : Nat) : Statement (.supervisorSignal core) := none_spelled _
theorem add (core : Nat) (rd ra rb : Nat) : Statement (.add core rd ra rb) := none_spelled _
theorem sub (core : Nat) (rd ra rb : Nat) : Statement (.sub core rd ra rb) := none_spelled _
theorem and (core : Nat) (rd ra rb : Nat) : Statement (.and core rd ra rb) := none_spelled _
theorem or (core : Nat) (rd ra rb : Nat) : Statement (.or core rd ra rb) := none_spelled _
theorem xor (core : Nat) (rd ra rb : Nat) : Statement (.xor core rd ra rb) := none_spelled _
theorem sll (core : Nat) (rd ra rb : Nat) : Statement (.sll core rd ra rb) := none_spelled _
theorem srl (core : Nat) (rd ra rb : Nat) : Statement (.srl core rd ra rb) := none_spelled _
theorem sra (core : Nat) (rd ra rb : Nat) : Statement (.sra core rd ra rb) := none_spelled _
theorem slt (core : Nat) (rd ra rb : Nat) : Statement (.slt core rd ra rb) := none_spelled _
theorem sltu (core : Nat) (rd ra rb : Nat) : Statement (.sltu core rd ra rb) := none_spelled _
theorem clz (core : Nat) (rd ra : Nat) : Statement (.clz core rd ra) := none_spelled _
theorem permr (core : Nat) (rd ra rb : Nat) : Statement (.permr core rd ra rb) := none_spelled _
theorem mul (core : Nat) (rd ra rb : Nat) : Statement (.mul core rd ra rb) := none_spelled _
theorem mulhs (core : Nat) (rd ra rb : Nat) : Statement (.mulhs core rd ra rb) := none_spelled _
theorem mulhu (core : Nat) (rd ra rb : Nat) : Statement (.mulhu core rd ra rb) := none_spelled _
theorem div (core : Nat) (rd ra rb : Nat) : Statement (.div core rd ra rb) := none_spelled _
theorem divu (core : Nat) (rd ra rb : Nat) : Statement (.divu core rd ra rb) := none_spelled _
theorem rem (core : Nat) (rd ra rb : Nat) : Statement (.rem core rd ra rb) := none_spelled _
theorem remu (core : Nat) (rd ra rb : Nat) : Statement (.remu core rd ra rb) := none_spelled _
theorem addi (core : Nat) (rd ra imm : Nat) : Statement (.addi core rd ra imm) := none_spelled _
theorem andi (core : Nat) (rd ra imm : Nat) : Statement (.andi core rd ra imm) := none_spelled _
theorem ori (core : Nat) (rd ra imm : Nat) : Statement (.ori core rd ra imm) := none_spelled _
theorem xori (core : Nat) (rd ra imm : Nat) : Statement (.xori core rd ra imm) := none_spelled _
theorem slti (core : Nat) (rd ra imm : Nat) : Statement (.slti core rd ra imm) := none_spelled _
theorem sltiu (core : Nat) (rd ra imm : Nat) : Statement (.sltiu core rd ra imm) := none_spelled _
theorem lui (core : Nat) (rd imm : Nat) : Statement (.lui core rd imm) := none_spelled _
theorem slli (core : Nat) (rd ra imm : Nat) : Statement (.slli core rd ra imm) := none_spelled _
theorem srli (core : Nat) (rd ra imm : Nat) : Statement (.srli core rd ra imm) := none_spelled _
theorem srai (core : Nat) (rd ra imm : Nat) : Statement (.srai core rd ra imm) := none_spelled _
theorem lb (core : Nat) (rd base imm : Nat) : Statement (.lb core rd base imm) := none_spelled _
theorem lbu (core : Nat) (rd base imm : Nat) : Statement (.lbu core rd base imm) := none_spelled _
theorem lh (core : Nat) (rd base imm : Nat) : Statement (.lh core rd base imm) := none_spelled _
theorem lhu (core : Nat) (rd base imm : Nat) : Statement (.lhu core rd base imm) := none_spelled _
theorem lw (core : Nat) (rd base imm : Nat) : Statement (.lw core rd base imm) := none_spelled _
theorem ldp (core : Nat) (rd base imm : Nat) : Statement (.ldp core rd base imm) := none_spelled _
theorem sb (core : Nat) (rs base imm : Nat) : Statement (.sb core rs base imm) := none_spelled _
theorem sh (core : Nat) (rs base imm : Nat) : Statement (.sh core rs base imm) := none_spelled _
theorem sw (core : Nat) (rs base imm : Nat) : Statement (.sw core rs base imm) := none_spelled _
theorem stp (core : Nat) (rs base imm : Nat) : Statement (.stp core rs base imm) := none_spelled _
theorem beq (core : Nat) (ra rb imm : Nat) : Statement (.beq core ra rb imm) := none_spelled _
theorem bne (core : Nat) (ra rb imm : Nat) : Statement (.bne core ra rb imm) := none_spelled _
theorem blt (core : Nat) (ra rb imm : Nat) : Statement (.blt core ra rb imm) := none_spelled _
theorem bge (core : Nat) (ra rb imm : Nat) : Statement (.bge core ra rb imm) := none_spelled _
theorem bltu (core : Nat) (ra rb imm : Nat) : Statement (.bltu core ra rb imm) := none_spelled _
theorem bgeu (core : Nat) (ra rb imm : Nat) : Statement (.bgeu core ra rb imm) := none_spelled _
theorem j (core : Nat) (imm : Nat) : Statement (.j core imm) := none_spelled _
theorem jal (core : Nat) (imm : Nat) : Statement (.jal core imm) := none_spelled _
theorem jalr (core : Nat) (rd ra imm : Nat) : Statement (.jalr core rd ra imm) := none_spelled _
theorem bfx (core : Nat) (rd ra lsb width : Nat) (sx : Bool) : Statement (.bfx core rd ra lsb width sx) := none_spelled _
theorem bfi (core : Nat) (rd ra lsb width : Nat) : Statement (.bfi core rd ra lsb width) := none_spelled _
theorem perm (core : Nat) (rd ra sel : Nat) : Statement (.perm core rd ra sel) := none_spelled _
theorem rep (core : Nat) (fromReg inc : Bool) (ra count : Nat) : Statement (.rep core fromReg inc ra count) := none_spelled _
theorem repi (core : Nat) (fromReg inc : Bool) (ra count granted : Nat) : Statement (.repi core fromReg inc ra count granted) := none_spelled _
theorem trap (core : Nat) (code : Nat) : Statement (.trap core code) := none_spelled _
theorem eret (core : Nat) : Statement (.eret core) := none_spelled _
theorem mfs (core : Nat) (rd index : Nat) : Statement (.mfs core rd index) := none_spelled _
theorem mts (core : Nat) (ra index : Nat) : Statement (.mts core ra index) := none_spelled _
theorem fence (core : Nat) : Statement (.fence core) := none_spelled _
theorem waiti (core : Nat) : Statement (.waiti core) := none_spelled _
theorem setPower (src : MsgSrc) (target confirm early periods : Nat) : Statement (.setPower src target confirm early periods) := none_spelled _
theorem sleepCalibrationDone (periodPs late : Nat) : Statement (.sleepCalibrationDone periodPs late) := none_spelled _
theorem autoTrim : Statement (.autoTrim) := none_spelled _
theorem p1WorkWake : Statement (.p1WorkWake) := none_spelled _
theorem wakeNLow (periods : Nat) : Statement (.wakeNLow periods) := none_spelled _
theorem sidebandAddressMatch (asleep : Bool) (periods : Nat) : Statement (.sidebandAddressMatch asleep periods) := none_spelled _
theorem hostActivityWake (periods : Nat) : Statement (.hostActivityWake periods) := none_spelled _
theorem sleepAlarm (periods : Nat) : Statement (.sleepAlarm periods) := none_spelled _
theorem getPower (src : MsgSrc) : Statement (.getPower src) := none_spelled _
theorem setAlarm (src : MsgSrc) (ms : Nat) : Statement (.setAlarm src ms) := none_spelled _
theorem resetWarm (src : MsgSrc) : Statement (.resetWarm src) := none_spelled _
theorem resetCold (src : MsgSrc) : Statement (.resetCold src) := none_spelled _
theorem tripClear (src : MsgSrc) : Statement (.tripClear src) := none_spelled _
theorem faultLogRead (src : MsgSrc) (offset : Nat) : Statement (.faultLogRead src offset) := none_spelled _
theorem telemetryRead (src : MsgSrc) (cursor maxBytes : Nat) : Statement (.telemetryRead src cursor maxBytes) := none_spelled _
theorem registerWindowRead (offset : Nat) : Statement (.registerWindowRead offset) := none_spelled _
theorem registerWindowWrite (offset : Nat) (value : W32) (pecOk : Bool) : Statement (.registerWindowWrite offset value pecOk) := none_spelled _
theorem entdaa (addr : Nat) : Statement (.entdaa addr) := none_spelled _
theorem setdasa (addr : Nat) : Statement (.setdasa addr) := none_spelled _
theorem rstdaa : Statement (.rstdaa) := none_spelled _
theorem enec : Statement (.enec) := none_spelled _
theorem disec : Statement (.disec) := none_spelled _
theorem getpid : Statement (.getpid) := none_spelled _
theorem getbcr : Statement (.getbcr) := none_spelled _
theorem getdcr : Statement (.getdcr) := none_spelled _
theorem getstatus : Statement (.getstatus) := none_spelled _
theorem setmwl (len : Nat) : Statement (.setmwl len) := none_spelled _
theorem getmwl : Statement (.getmwl) := none_spelled _
theorem setmrl (len : Nat) : Statement (.setmrl len) := none_spelled _
theorem getmrl : Statement (.getmrl) := none_spelled _
theorem alertResponseAddress : Statement (.alertResponseAddress) := none_spelled _
theorem clearUncertain (core : Nat) : Statement (.clearUncertain core) := none_spelled _
theorem paceControlTick (averageMw : Nat) : Statement (.paceControlTick averageMw) := none_spelled _
theorem tallyCalibration (source elapsedNs : Nat) : Statement (.tallyCalibration source elapsedNs) := none_spelled _
theorem sensorSample (samples : List (Nat × Int)) : Statement (.sensorSample samples) := none_spelled _
theorem sensorRecord : Statement (.sensorRecord) := none_spelled _
theorem counterSnapshot : Statement (.counterSnapshot) := none_spelled _
theorem aodWatchdogExpiry (inTransaction : Bool) : Statement (.aodWatchdogExpiry inTransaction) := none_spelled _
theorem imageBegin (src : MsgSrc) (bank total : Nat) : Statement (.imageBegin src bank total) := none_spelled _
theorem imageData (src : MsgSrc) (offset : Nat) (bytes : Bytes) : Statement (.imageData src offset bytes) := none_spelled _
theorem imageEnd (src : MsgSrc) : Statement (.imageEnd src) := none_spelled _
theorem imageActivate (src : MsgSrc) (bank mode : Nat) (recent : Bool) : Statement (.imageActivate src bank mode recent) := none_spelled _
theorem fwStatus (src : MsgSrc) : Statement (.fwStatus src) := none_spelled _
theorem fwActivate (r : CmdRef) (recent : Bool) (fail : Option Nat) (restart : Option (Nat × Nat)) : Statement (.fwActivate r recent fail restart) := none_spelled _
theorem trialConfirm : Statement (.trialConfirm) := none_spelled _
theorem faultEntry : Statement (.faultEntry) := none_spelled _
theorem portLinkUp (port : Nat) : Statement (.portLinkUp port) := none_spelled _
theorem hepPerstNRelease : Statement (.hepPerstNRelease) := none_spelled _
theorem hostLinkUp : Statement (.hostLinkUp) := none_spelled _
theorem modRstNRelease : Statement (.modRstNRelease) := none_spelled _
theorem ccEnSet (fn : Nat) (cc : W32) : Statement (.ccEnSet fn cc) := none_spelled _
theorem driveResetTimeout (drive : Nat) : Statement (.driveResetTimeout drive) := none_spelled _
theorem aodPowerLoss : Statement (.aodPowerLoss) := none_spelled _
theorem flashProgramOrEraseDone : Statement (.flashProgramOrEraseDone) := none_spelled _
theorem illegalInstruction (core : Nat) : Statement (.illegalInstruction core) := none_spelled _
theorem jtagTckEdge (rising tms tdi : Bool) : Statement (.jtagTckEdge rising tms tdi) := none_spelled _
theorem reportUnanswered (suspect : Nat) : Statement (.reportUnanswered suspect) := none_spelled _
theorem rnrDelayExpiry (qpn : Nat) : Statement (.rnrDelayExpiry qpn) := none_spelled _
theorem pmStateWrite (fn : Nat) (d3 : Bool) : Statement (.pmStateWrite fn d3) := none_spelled _

end Sys2Proof.Laws.NoWord
end

