-- ==== Sys2Proof/Laws/State.lean ====
section
/-! SUPPORT. What each update of the state leaves in each field: one lemma per field per update, so that no later proof unfolds a record update. -/

namespace Sys2Proof.Machine

open Sys2Proof

/-! ## emit -/

@[simp] theorem State.emit_sup (s : State) (o : Output) : (s.emit o).sup = s.sup := rfl
@[simp] theorem State.emit_pwr (s : State) (o : Output) : (s.emit o).pwr = s.pwr := rfl
@[simp] theorem State.emit_tal (s : State) (o : Output) : (s.emit o).tal = s.tal := rfl
@[simp] theorem State.emit_sb (s : State) (o : Output) : (s.emit o).sb = s.sb := rfl
@[simp] theorem State.emit_tel (s : State) (o : Output) : (s.emit o).tel = s.tel := rfl
@[simp] theorem State.emit_log (s : State) (o : Output) : (s.emit o).log = s.log := rfl
@[simp] theorem State.emit_fl (s : State) (o : Output) : (s.emit o).fl = s.fl := rfl
@[simp] theorem State.emit_boot (s : State) (o : Output) : (s.emit o).boot = s.boot := rfl
@[simp] theorem State.emit_fab (s : State) (o : Output) : (s.emit o).fab = s.fab := rfl
@[simp] theorem State.emit_con (s : State) (o : Output) : (s.emit o).con = s.con := rfl
@[simp] theorem State.emit_hep (s : State) (o : Output) : (s.emit o).hep = s.hep := rfl
@[simp] theorem State.emit_apt (s : State) (o : Output) : (s.emit o).apt = s.apt := rfl
@[simp] theorem State.emit_cru (s : State) (o : Output) : (s.emit o).cru = s.cru := rfl
@[simp] theorem State.emit_gaf (s : State) (o : Output) : (s.emit o).gaf = s.gaf := rfl
@[simp] theorem State.emit_net (s : State) (o : Output) : (s.emit o).net = s.net := rfl
@[simp] theorem State.emit_mrv (s : State) (o : Output) : (s.emit o).mrv = s.mrv := rfl
@[simp] theorem State.emit_tm (s : State) (o : Output) : (s.emit o).tm = s.tm := rfl
@[simp] theorem State.emit_ten (s : State) (o : Output) : (s.emit o).ten = s.ten := rfl
@[simp] theorem State.emit_ann (s : State) (o : Output) : (s.emit o).ann = s.ann := rfl
@[simp] theorem State.emit_leh (s : State) (o : Output) : (s.emit o).leh = s.leh := rfl
@[simp] theorem State.emit_mem (s : State) (o : Output) : (s.emit o).mem = s.mem := rfl
@[simp] theorem State.emit_rme (s : State) (o : Output) : (s.emit o).rme = s.rme := rfl
@[simp] theorem State.emit_sto (s : State) (o : Output) : (s.emit o).sto = s.sto := rfl
@[simp] theorem State.emit_out (s : State) (o : Output) : (s.emit o).out = s.out ++ [o] := rfl
@[simp] theorem State.emit_freeCtr (s : State) (o : Output) : (s.emit o).freeCtr = s.freeCtr := rfl
@[simp] theorem State.emit_pending (s : State) (o : Output) : (s.emit o).pending = s.pending := rfl

/-! ## report -/

@[simp] theorem State.report_sup (s : State) (r : Report) : (s.report r).sup = s.sup := rfl
@[simp] theorem State.report_pwr (s : State) (r : Report) : (s.report r).pwr = s.pwr := rfl
@[simp] theorem State.report_tal (s : State) (r : Report) : (s.report r).tal = s.tal := rfl
@[simp] theorem State.report_sb (s : State) (r : Report) : (s.report r).sb = s.sb := rfl
@[simp] theorem State.report_tel (s : State) (r : Report) : (s.report r).tel = s.tel := rfl
@[simp] theorem State.report_log (s : State) (r : Report) : (s.report r).log = { s.log with reports := s.log.reports ++ [r] } := rfl
@[simp] theorem State.report_fl (s : State) (r : Report) : (s.report r).fl = s.fl := rfl
@[simp] theorem State.report_boot (s : State) (r : Report) : (s.report r).boot = s.boot := rfl
@[simp] theorem State.report_fab (s : State) (r : Report) : (s.report r).fab = s.fab := rfl
@[simp] theorem State.report_con (s : State) (r : Report) : (s.report r).con = s.con := rfl
@[simp] theorem State.report_hep (s : State) (r : Report) : (s.report r).hep = s.hep := rfl
@[simp] theorem State.report_apt (s : State) (r : Report) : (s.report r).apt = s.apt := rfl
@[simp] theorem State.report_cru (s : State) (r : Report) : (s.report r).cru = s.cru := rfl
@[simp] theorem State.report_gaf (s : State) (r : Report) : (s.report r).gaf = s.gaf := rfl
@[simp] theorem State.report_net (s : State) (r : Report) : (s.report r).net = s.net := rfl
@[simp] theorem State.report_mrv (s : State) (r : Report) : (s.report r).mrv = s.mrv := rfl
@[simp] theorem State.report_tm (s : State) (r : Report) : (s.report r).tm = s.tm := rfl
@[simp] theorem State.report_ten (s : State) (r : Report) : (s.report r).ten = s.ten := rfl
@[simp] theorem State.report_ann (s : State) (r : Report) : (s.report r).ann = s.ann := rfl
@[simp] theorem State.report_leh (s : State) (r : Report) : (s.report r).leh = s.leh := rfl
@[simp] theorem State.report_mem (s : State) (r : Report) : (s.report r).mem = s.mem := rfl
@[simp] theorem State.report_rme (s : State) (r : Report) : (s.report r).rme = s.rme := rfl
@[simp] theorem State.report_sto (s : State) (r : Report) : (s.report r).sto = s.sto := rfl
@[simp] theorem State.report_out (s : State) (r : Report) : (s.report r).out = s.out := rfl
@[simp] theorem State.report_freeCtr (s : State) (r : Report) : (s.report r).freeCtr = s.freeCtr := rfl
@[simp] theorem State.report_pending (s : State) (r : Report) : (s.report r).pending = s.pending := rfl

/-! ## tick -/

@[simp] theorem State.tick_sup (s : State) : (s.tick).sup = s.sup := rfl
@[simp] theorem State.tick_pwr (s : State) : (s.tick).pwr = s.pwr := rfl
@[simp] theorem State.tick_tal (s : State) : (s.tick).tal = s.tal := rfl
@[simp] theorem State.tick_sb (s : State) : (s.tick).sb = s.sb := rfl
@[simp] theorem State.tick_tel (s : State) : (s.tick).tel = s.tel := rfl
@[simp] theorem State.tick_log (s : State) : (s.tick).log = s.log := rfl
@[simp] theorem State.tick_fl (s : State) : (s.tick).fl = s.fl := rfl
@[simp] theorem State.tick_boot (s : State) : (s.tick).boot = s.boot := rfl
@[simp] theorem State.tick_fab (s : State) : (s.tick).fab = s.fab := rfl
@[simp] theorem State.tick_con (s : State) : (s.tick).con = s.con := rfl
@[simp] theorem State.tick_hep (s : State) : (s.tick).hep = s.hep := rfl
@[simp] theorem State.tick_apt (s : State) : (s.tick).apt = s.apt := rfl
@[simp] theorem State.tick_cru (s : State) : (s.tick).cru = s.cru := rfl
@[simp] theorem State.tick_gaf (s : State) : (s.tick).gaf = s.gaf := rfl
@[simp] theorem State.tick_net (s : State) : (s.tick).net = s.net := rfl
@[simp] theorem State.tick_mrv (s : State) : (s.tick).mrv = s.mrv := rfl
@[simp] theorem State.tick_tm (s : State) : (s.tick).tm = s.tm := rfl
@[simp] theorem State.tick_ten (s : State) : (s.tick).ten = s.ten := rfl
@[simp] theorem State.tick_ann (s : State) : (s.tick).ann = s.ann := rfl
@[simp] theorem State.tick_leh (s : State) : (s.tick).leh = s.leh := rfl
@[simp] theorem State.tick_mem (s : State) : (s.tick).mem = s.mem := rfl
@[simp] theorem State.tick_rme (s : State) : (s.tick).rme = s.rme := rfl
@[simp] theorem State.tick_sto (s : State) : (s.tick).sto = s.sto := rfl
@[simp] theorem State.tick_out (s : State) : (s.tick).out = s.out := rfl
@[simp] theorem State.tick_freeCtr (s : State) : (s.tick).freeCtr = s.freeCtr + 1 := rfl
@[simp] theorem State.tick_pending (s : State) : (s.tick).pending = s.pending := rfl

/-! ## modFn -/

@[simp] theorem State.modFn_sup (s : State) (n : Nat) (g : FnQueues → FnQueues) : (s.modFn n g).sup = s.sup := rfl
@[simp] theorem State.modFn_pwr (s : State) (n : Nat) (g : FnQueues → FnQueues) : (s.modFn n g).pwr = s.pwr := rfl
@[simp] theorem State.modFn_tal (s : State) (n : Nat) (g : FnQueues → FnQueues) : (s.modFn n g).tal = s.tal := rfl
@[simp] theorem State.modFn_sb (s : State) (n : Nat) (g : FnQueues → FnQueues) : (s.modFn n g).sb = s.sb := rfl
@[simp] theorem State.modFn_tel (s : State) (n : Nat) (g : FnQueues → FnQueues) : (s.modFn n g).tel = s.tel := rfl
@[simp] theorem State.modFn_log (s : State) (n : Nat) (g : FnQueues → FnQueues) : (s.modFn n g).log = s.log := rfl
@[simp] theorem State.modFn_fl (s : State) (n : Nat) (g : FnQueues → FnQueues) : (s.modFn n g).fl = s.fl := rfl
@[simp] theorem State.modFn_boot (s : State) (n : Nat) (g : FnQueues → FnQueues) : (s.modFn n g).boot = s.boot := rfl
@[simp] theorem State.modFn_fab (s : State) (n : Nat) (g : FnQueues → FnQueues) : (s.modFn n g).fab = s.fab := rfl
@[simp] theorem State.modFn_con (s : State) (n : Nat) (g : FnQueues → FnQueues) : (s.modFn n g).con = { s.con with fns := s.con.fns.upd n {} g } := rfl
@[simp] theorem State.modFn_hep (s : State) (n : Nat) (g : FnQueues → FnQueues) : (s.modFn n g).hep = s.hep := rfl
@[simp] theorem State.modFn_apt (s : State) (n : Nat) (g : FnQueues → FnQueues) : (s.modFn n g).apt = s.apt := rfl
@[simp] theorem State.modFn_cru (s : State) (n : Nat) (g : FnQueues → FnQueues) : (s.modFn n g).cru = s.cru := rfl
@[simp] theorem State.modFn_gaf (s : State) (n : Nat) (g : FnQueues → FnQueues) : (s.modFn n g).gaf = s.gaf := rfl
@[simp] theorem State.modFn_net (s : State) (n : Nat) (g : FnQueues → FnQueues) : (s.modFn n g).net = s.net := rfl
@[simp] theorem State.modFn_mrv (s : State) (n : Nat) (g : FnQueues → FnQueues) : (s.modFn n g).mrv = s.mrv := rfl
@[simp] theorem State.modFn_tm (s : State) (n : Nat) (g : FnQueues → FnQueues) : (s.modFn n g).tm = s.tm := rfl
@[simp] theorem State.modFn_ten (s : State) (n : Nat) (g : FnQueues → FnQueues) : (s.modFn n g).ten = s.ten := rfl
@[simp] theorem State.modFn_ann (s : State) (n : Nat) (g : FnQueues → FnQueues) : (s.modFn n g).ann = s.ann := rfl
@[simp] theorem State.modFn_leh (s : State) (n : Nat) (g : FnQueues → FnQueues) : (s.modFn n g).leh = s.leh := rfl
@[simp] theorem State.modFn_mem (s : State) (n : Nat) (g : FnQueues → FnQueues) : (s.modFn n g).mem = s.mem := rfl
@[simp] theorem State.modFn_rme (s : State) (n : Nat) (g : FnQueues → FnQueues) : (s.modFn n g).rme = s.rme := rfl
@[simp] theorem State.modFn_sto (s : State) (n : Nat) (g : FnQueues → FnQueues) : (s.modFn n g).sto = s.sto := rfl
@[simp] theorem State.modFn_out (s : State) (n : Nat) (g : FnQueues → FnQueues) : (s.modFn n g).out = s.out := rfl
@[simp] theorem State.modFn_freeCtr (s : State) (n : Nat) (g : FnQueues → FnQueues) : (s.modFn n g).freeCtr = s.freeCtr := rfl
@[simp] theorem State.modFn_pending (s : State) (n : Nat) (g : FnQueues → FnQueues) : (s.modFn n g).pending = s.pending := rfl

/-! ## modHost -/

@[simp] theorem State.modHost_sup (s : State) (n : Nat) (g : HostFn → HostFn) : (s.modHost n g).sup = s.sup := rfl
@[simp] theorem State.modHost_pwr (s : State) (n : Nat) (g : HostFn → HostFn) : (s.modHost n g).pwr = s.pwr := rfl
@[simp] theorem State.modHost_tal (s : State) (n : Nat) (g : HostFn → HostFn) : (s.modHost n g).tal = s.tal := rfl
@[simp] theorem State.modHost_sb (s : State) (n : Nat) (g : HostFn → HostFn) : (s.modHost n g).sb = s.sb := rfl
@[simp] theorem State.modHost_tel (s : State) (n : Nat) (g : HostFn → HostFn) : (s.modHost n g).tel = s.tel := rfl
@[simp] theorem State.modHost_log (s : State) (n : Nat) (g : HostFn → HostFn) : (s.modHost n g).log = s.log := rfl
@[simp] theorem State.modHost_fl (s : State) (n : Nat) (g : HostFn → HostFn) : (s.modHost n g).fl = s.fl := rfl
@[simp] theorem State.modHost_boot (s : State) (n : Nat) (g : HostFn → HostFn) : (s.modHost n g).boot = s.boot := rfl
@[simp] theorem State.modHost_fab (s : State) (n : Nat) (g : HostFn → HostFn) : (s.modHost n g).fab = s.fab := rfl
@[simp] theorem State.modHost_con (s : State) (n : Nat) (g : HostFn → HostFn) : (s.modHost n g).con = s.con := rfl
@[simp] theorem State.modHost_hep (s : State) (n : Nat) (g : HostFn → HostFn) : (s.modHost n g).hep = { s.hep with fns := s.hep.fns.upd n {} g } := rfl
@[simp] theorem State.modHost_apt (s : State) (n : Nat) (g : HostFn → HostFn) : (s.modHost n g).apt = s.apt := rfl
@[simp] theorem State.modHost_cru (s : State) (n : Nat) (g : HostFn → HostFn) : (s.modHost n g).cru = s.cru := rfl
@[simp] theorem State.modHost_gaf (s : State) (n : Nat) (g : HostFn → HostFn) : (s.modHost n g).gaf = s.gaf := rfl
@[simp] theorem State.modHost_net (s : State) (n : Nat) (g : HostFn → HostFn) : (s.modHost n g).net = s.net := rfl
@[simp] theorem State.modHost_mrv (s : State) (n : Nat) (g : HostFn → HostFn) : (s.modHost n g).mrv = s.mrv := rfl
@[simp] theorem State.modHost_tm (s : State) (n : Nat) (g : HostFn → HostFn) : (s.modHost n g).tm = s.tm := rfl
@[simp] theorem State.modHost_ten (s : State) (n : Nat) (g : HostFn → HostFn) : (s.modHost n g).ten = s.ten := rfl
@[simp] theorem State.modHost_ann (s : State) (n : Nat) (g : HostFn → HostFn) : (s.modHost n g).ann = s.ann := rfl
@[simp] theorem State.modHost_leh (s : State) (n : Nat) (g : HostFn → HostFn) : (s.modHost n g).leh = s.leh := rfl
@[simp] theorem State.modHost_mem (s : State) (n : Nat) (g : HostFn → HostFn) : (s.modHost n g).mem = s.mem := rfl
@[simp] theorem State.modHost_rme (s : State) (n : Nat) (g : HostFn → HostFn) : (s.modHost n g).rme = s.rme := rfl
@[simp] theorem State.modHost_sto (s : State) (n : Nat) (g : HostFn → HostFn) : (s.modHost n g).sto = s.sto := rfl
@[simp] theorem State.modHost_out (s : State) (n : Nat) (g : HostFn → HostFn) : (s.modHost n g).out = s.out := rfl
@[simp] theorem State.modHost_freeCtr (s : State) (n : Nat) (g : HostFn → HostFn) : (s.modHost n g).freeCtr = s.freeCtr := rfl
@[simp] theorem State.modHost_pending (s : State) (n : Nat) (g : HostFn → HostFn) : (s.modHost n g).pending = s.pending := rfl

/-! ## modPort -/

@[simp] theorem State.modPort_sup (s : State) (n : Nat) (g : Port → Port) : (s.modPort n g).sup = s.sup := rfl
@[simp] theorem State.modPort_pwr (s : State) (n : Nat) (g : Port → Port) : (s.modPort n g).pwr = s.pwr := rfl
@[simp] theorem State.modPort_tal (s : State) (n : Nat) (g : Port → Port) : (s.modPort n g).tal = s.tal := rfl
@[simp] theorem State.modPort_sb (s : State) (n : Nat) (g : Port → Port) : (s.modPort n g).sb = s.sb := rfl
@[simp] theorem State.modPort_tel (s : State) (n : Nat) (g : Port → Port) : (s.modPort n g).tel = s.tel := rfl
@[simp] theorem State.modPort_log (s : State) (n : Nat) (g : Port → Port) : (s.modPort n g).log = s.log := rfl
@[simp] theorem State.modPort_fl (s : State) (n : Nat) (g : Port → Port) : (s.modPort n g).fl = s.fl := rfl
@[simp] theorem State.modPort_boot (s : State) (n : Nat) (g : Port → Port) : (s.modPort n g).boot = s.boot := rfl
@[simp] theorem State.modPort_fab (s : State) (n : Nat) (g : Port → Port) : (s.modPort n g).fab = s.fab := rfl
@[simp] theorem State.modPort_con (s : State) (n : Nat) (g : Port → Port) : (s.modPort n g).con = s.con := rfl
@[simp] theorem State.modPort_hep (s : State) (n : Nat) (g : Port → Port) : (s.modPort n g).hep = s.hep := rfl
@[simp] theorem State.modPort_apt (s : State) (n : Nat) (g : Port → Port) : (s.modPort n g).apt = { s.apt with ports := s.apt.ports.upd n {} g } := rfl
@[simp] theorem State.modPort_cru (s : State) (n : Nat) (g : Port → Port) : (s.modPort n g).cru = s.cru := rfl
@[simp] theorem State.modPort_gaf (s : State) (n : Nat) (g : Port → Port) : (s.modPort n g).gaf = s.gaf := rfl
@[simp] theorem State.modPort_net (s : State) (n : Nat) (g : Port → Port) : (s.modPort n g).net = s.net := rfl
@[simp] theorem State.modPort_mrv (s : State) (n : Nat) (g : Port → Port) : (s.modPort n g).mrv = s.mrv := rfl
@[simp] theorem State.modPort_tm (s : State) (n : Nat) (g : Port → Port) : (s.modPort n g).tm = s.tm := rfl
@[simp] theorem State.modPort_ten (s : State) (n : Nat) (g : Port → Port) : (s.modPort n g).ten = s.ten := rfl
@[simp] theorem State.modPort_ann (s : State) (n : Nat) (g : Port → Port) : (s.modPort n g).ann = s.ann := rfl
@[simp] theorem State.modPort_leh (s : State) (n : Nat) (g : Port → Port) : (s.modPort n g).leh = s.leh := rfl
@[simp] theorem State.modPort_mem (s : State) (n : Nat) (g : Port → Port) : (s.modPort n g).mem = s.mem := rfl
@[simp] theorem State.modPort_rme (s : State) (n : Nat) (g : Port → Port) : (s.modPort n g).rme = s.rme := rfl
@[simp] theorem State.modPort_sto (s : State) (n : Nat) (g : Port → Port) : (s.modPort n g).sto = s.sto := rfl
@[simp] theorem State.modPort_out (s : State) (n : Nat) (g : Port → Port) : (s.modPort n g).out = s.out := rfl
@[simp] theorem State.modPort_freeCtr (s : State) (n : Nat) (g : Port → Port) : (s.modPort n g).freeCtr = s.freeCtr := rfl
@[simp] theorem State.modPort_pending (s : State) (n : Nat) (g : Port → Port) : (s.modPort n g).pending = s.pending := rfl

/-! ## modNet -/

@[simp] theorem State.modNet_sup (s : State) (n : Nat) (g : NetPort → NetPort) : (s.modNet n g).sup = s.sup := rfl
@[simp] theorem State.modNet_pwr (s : State) (n : Nat) (g : NetPort → NetPort) : (s.modNet n g).pwr = s.pwr := rfl
@[simp] theorem State.modNet_tal (s : State) (n : Nat) (g : NetPort → NetPort) : (s.modNet n g).tal = s.tal := rfl
@[simp] theorem State.modNet_sb (s : State) (n : Nat) (g : NetPort → NetPort) : (s.modNet n g).sb = s.sb := rfl
@[simp] theorem State.modNet_tel (s : State) (n : Nat) (g : NetPort → NetPort) : (s.modNet n g).tel = s.tel := rfl
@[simp] theorem State.modNet_log (s : State) (n : Nat) (g : NetPort → NetPort) : (s.modNet n g).log = s.log := rfl
@[simp] theorem State.modNet_fl (s : State) (n : Nat) (g : NetPort → NetPort) : (s.modNet n g).fl = s.fl := rfl
@[simp] theorem State.modNet_boot (s : State) (n : Nat) (g : NetPort → NetPort) : (s.modNet n g).boot = s.boot := rfl
@[simp] theorem State.modNet_fab (s : State) (n : Nat) (g : NetPort → NetPort) : (s.modNet n g).fab = s.fab := rfl
@[simp] theorem State.modNet_con (s : State) (n : Nat) (g : NetPort → NetPort) : (s.modNet n g).con = s.con := rfl
@[simp] theorem State.modNet_hep (s : State) (n : Nat) (g : NetPort → NetPort) : (s.modNet n g).hep = s.hep := rfl
@[simp] theorem State.modNet_apt (s : State) (n : Nat) (g : NetPort → NetPort) : (s.modNet n g).apt = s.apt := rfl
@[simp] theorem State.modNet_cru (s : State) (n : Nat) (g : NetPort → NetPort) : (s.modNet n g).cru = s.cru := rfl
@[simp] theorem State.modNet_gaf (s : State) (n : Nat) (g : NetPort → NetPort) : (s.modNet n g).gaf = s.gaf := rfl
@[simp] theorem State.modNet_net (s : State) (n : Nat) (g : NetPort → NetPort) : (s.modNet n g).net = { s.net with ports := s.net.ports.upd n {} g } := rfl
@[simp] theorem State.modNet_mrv (s : State) (n : Nat) (g : NetPort → NetPort) : (s.modNet n g).mrv = s.mrv := rfl
@[simp] theorem State.modNet_tm (s : State) (n : Nat) (g : NetPort → NetPort) : (s.modNet n g).tm = s.tm := rfl
@[simp] theorem State.modNet_ten (s : State) (n : Nat) (g : NetPort → NetPort) : (s.modNet n g).ten = s.ten := rfl
@[simp] theorem State.modNet_ann (s : State) (n : Nat) (g : NetPort → NetPort) : (s.modNet n g).ann = s.ann := rfl
@[simp] theorem State.modNet_leh (s : State) (n : Nat) (g : NetPort → NetPort) : (s.modNet n g).leh = s.leh := rfl
@[simp] theorem State.modNet_mem (s : State) (n : Nat) (g : NetPort → NetPort) : (s.modNet n g).mem = s.mem := rfl
@[simp] theorem State.modNet_rme (s : State) (n : Nat) (g : NetPort → NetPort) : (s.modNet n g).rme = s.rme := rfl
@[simp] theorem State.modNet_sto (s : State) (n : Nat) (g : NetPort → NetPort) : (s.modNet n g).sto = s.sto := rfl
@[simp] theorem State.modNet_out (s : State) (n : Nat) (g : NetPort → NetPort) : (s.modNet n g).out = s.out := rfl
@[simp] theorem State.modNet_freeCtr (s : State) (n : Nat) (g : NetPort → NetPort) : (s.modNet n g).freeCtr = s.freeCtr := rfl
@[simp] theorem State.modNet_pending (s : State) (n : Nat) (g : NetPort → NetPort) : (s.modNet n g).pending = s.pending := rfl

/-! ## modCru -/

@[simp] theorem State.modCru_sup (s : State) (g : Crucible → Crucible) : (s.modCru g).sup = s.sup := rfl
@[simp] theorem State.modCru_pwr (s : State) (g : Crucible → Crucible) : (s.modCru g).pwr = s.pwr := rfl
@[simp] theorem State.modCru_tal (s : State) (g : Crucible → Crucible) : (s.modCru g).tal = s.tal := rfl
@[simp] theorem State.modCru_sb (s : State) (g : Crucible → Crucible) : (s.modCru g).sb = s.sb := rfl
@[simp] theorem State.modCru_tel (s : State) (g : Crucible → Crucible) : (s.modCru g).tel = s.tel := rfl
@[simp] theorem State.modCru_log (s : State) (g : Crucible → Crucible) : (s.modCru g).log = s.log := rfl
@[simp] theorem State.modCru_fl (s : State) (g : Crucible → Crucible) : (s.modCru g).fl = s.fl := rfl
@[simp] theorem State.modCru_boot (s : State) (g : Crucible → Crucible) : (s.modCru g).boot = s.boot := rfl
@[simp] theorem State.modCru_fab (s : State) (g : Crucible → Crucible) : (s.modCru g).fab = s.fab := rfl
@[simp] theorem State.modCru_con (s : State) (g : Crucible → Crucible) : (s.modCru g).con = s.con := rfl
@[simp] theorem State.modCru_hep (s : State) (g : Crucible → Crucible) : (s.modCru g).hep = s.hep := rfl
@[simp] theorem State.modCru_apt (s : State) (g : Crucible → Crucible) : (s.modCru g).apt = s.apt := rfl
@[simp] theorem State.modCru_cru (s : State) (g : Crucible → Crucible) : (s.modCru g).cru = g s.cru := rfl
@[simp] theorem State.modCru_gaf (s : State) (g : Crucible → Crucible) : (s.modCru g).gaf = s.gaf := rfl
@[simp] theorem State.modCru_net (s : State) (g : Crucible → Crucible) : (s.modCru g).net = s.net := rfl
@[simp] theorem State.modCru_mrv (s : State) (g : Crucible → Crucible) : (s.modCru g).mrv = s.mrv := rfl
@[simp] theorem State.modCru_tm (s : State) (g : Crucible → Crucible) : (s.modCru g).tm = s.tm := rfl
@[simp] theorem State.modCru_ten (s : State) (g : Crucible → Crucible) : (s.modCru g).ten = s.ten := rfl
@[simp] theorem State.modCru_ann (s : State) (g : Crucible → Crucible) : (s.modCru g).ann = s.ann := rfl
@[simp] theorem State.modCru_leh (s : State) (g : Crucible → Crucible) : (s.modCru g).leh = s.leh := rfl
@[simp] theorem State.modCru_mem (s : State) (g : Crucible → Crucible) : (s.modCru g).mem = s.mem := rfl
@[simp] theorem State.modCru_rme (s : State) (g : Crucible → Crucible) : (s.modCru g).rme = s.rme := rfl
@[simp] theorem State.modCru_sto (s : State) (g : Crucible → Crucible) : (s.modCru g).sto = s.sto := rfl
@[simp] theorem State.modCru_out (s : State) (g : Crucible → Crucible) : (s.modCru g).out = s.out := rfl
@[simp] theorem State.modCru_freeCtr (s : State) (g : Crucible → Crucible) : (s.modCru g).freeCtr = s.freeCtr := rfl
@[simp] theorem State.modCru_pending (s : State) (g : Crucible → Crucible) : (s.modCru g).pending = s.pending := rfl

/-! ## modBoot -/

@[simp] theorem State.modBoot_sup (s : State) (g : Boot → Boot) : (s.modBoot g).sup = s.sup := rfl
@[simp] theorem State.modBoot_pwr (s : State) (g : Boot → Boot) : (s.modBoot g).pwr = s.pwr := rfl
@[simp] theorem State.modBoot_tal (s : State) (g : Boot → Boot) : (s.modBoot g).tal = s.tal := rfl
@[simp] theorem State.modBoot_sb (s : State) (g : Boot → Boot) : (s.modBoot g).sb = s.sb := rfl
@[simp] theorem State.modBoot_tel (s : State) (g : Boot → Boot) : (s.modBoot g).tel = s.tel := rfl
@[simp] theorem State.modBoot_log (s : State) (g : Boot → Boot) : (s.modBoot g).log = s.log := rfl
@[simp] theorem State.modBoot_fl (s : State) (g : Boot → Boot) : (s.modBoot g).fl = s.fl := rfl
@[simp] theorem State.modBoot_boot (s : State) (g : Boot → Boot) : (s.modBoot g).boot = g s.boot := rfl
@[simp] theorem State.modBoot_fab (s : State) (g : Boot → Boot) : (s.modBoot g).fab = s.fab := rfl
@[simp] theorem State.modBoot_con (s : State) (g : Boot → Boot) : (s.modBoot g).con = s.con := rfl
@[simp] theorem State.modBoot_hep (s : State) (g : Boot → Boot) : (s.modBoot g).hep = s.hep := rfl
@[simp] theorem State.modBoot_apt (s : State) (g : Boot → Boot) : (s.modBoot g).apt = s.apt := rfl
@[simp] theorem State.modBoot_cru (s : State) (g : Boot → Boot) : (s.modBoot g).cru = s.cru := rfl
@[simp] theorem State.modBoot_gaf (s : State) (g : Boot → Boot) : (s.modBoot g).gaf = s.gaf := rfl
@[simp] theorem State.modBoot_net (s : State) (g : Boot → Boot) : (s.modBoot g).net = s.net := rfl
@[simp] theorem State.modBoot_mrv (s : State) (g : Boot → Boot) : (s.modBoot g).mrv = s.mrv := rfl
@[simp] theorem State.modBoot_tm (s : State) (g : Boot → Boot) : (s.modBoot g).tm = s.tm := rfl
@[simp] theorem State.modBoot_ten (s : State) (g : Boot → Boot) : (s.modBoot g).ten = s.ten := rfl
@[simp] theorem State.modBoot_ann (s : State) (g : Boot → Boot) : (s.modBoot g).ann = s.ann := rfl
@[simp] theorem State.modBoot_leh (s : State) (g : Boot → Boot) : (s.modBoot g).leh = s.leh := rfl
@[simp] theorem State.modBoot_mem (s : State) (g : Boot → Boot) : (s.modBoot g).mem = s.mem := rfl
@[simp] theorem State.modBoot_rme (s : State) (g : Boot → Boot) : (s.modBoot g).rme = s.rme := rfl
@[simp] theorem State.modBoot_sto (s : State) (g : Boot → Boot) : (s.modBoot g).sto = s.sto := rfl
@[simp] theorem State.modBoot_out (s : State) (g : Boot → Boot) : (s.modBoot g).out = s.out := rfl
@[simp] theorem State.modBoot_freeCtr (s : State) (g : Boot → Boot) : (s.modBoot g).freeCtr = s.freeCtr := rfl
@[simp] theorem State.modBoot_pending (s : State) (g : Boot → Boot) : (s.modBoot g).pending = s.pending := rfl

/-! ## modGaf -/

@[simp] theorem State.modGaf_sup (s : State) (g : Gaffer → Gaffer) : (s.modGaf g).sup = s.sup := rfl
@[simp] theorem State.modGaf_pwr (s : State) (g : Gaffer → Gaffer) : (s.modGaf g).pwr = s.pwr := rfl
@[simp] theorem State.modGaf_tal (s : State) (g : Gaffer → Gaffer) : (s.modGaf g).tal = s.tal := rfl
@[simp] theorem State.modGaf_sb (s : State) (g : Gaffer → Gaffer) : (s.modGaf g).sb = s.sb := rfl
@[simp] theorem State.modGaf_tel (s : State) (g : Gaffer → Gaffer) : (s.modGaf g).tel = s.tel := rfl
@[simp] theorem State.modGaf_log (s : State) (g : Gaffer → Gaffer) : (s.modGaf g).log = s.log := rfl
@[simp] theorem State.modGaf_fl (s : State) (g : Gaffer → Gaffer) : (s.modGaf g).fl = s.fl := rfl
@[simp] theorem State.modGaf_boot (s : State) (g : Gaffer → Gaffer) : (s.modGaf g).boot = s.boot := rfl
@[simp] theorem State.modGaf_fab (s : State) (g : Gaffer → Gaffer) : (s.modGaf g).fab = s.fab := rfl
@[simp] theorem State.modGaf_con (s : State) (g : Gaffer → Gaffer) : (s.modGaf g).con = s.con := rfl
@[simp] theorem State.modGaf_hep (s : State) (g : Gaffer → Gaffer) : (s.modGaf g).hep = s.hep := rfl
@[simp] theorem State.modGaf_apt (s : State) (g : Gaffer → Gaffer) : (s.modGaf g).apt = s.apt := rfl
@[simp] theorem State.modGaf_cru (s : State) (g : Gaffer → Gaffer) : (s.modGaf g).cru = s.cru := rfl
@[simp] theorem State.modGaf_gaf (s : State) (g : Gaffer → Gaffer) : (s.modGaf g).gaf = g s.gaf := rfl
@[simp] theorem State.modGaf_net (s : State) (g : Gaffer → Gaffer) : (s.modGaf g).net = s.net := rfl
@[simp] theorem State.modGaf_mrv (s : State) (g : Gaffer → Gaffer) : (s.modGaf g).mrv = s.mrv := rfl
@[simp] theorem State.modGaf_tm (s : State) (g : Gaffer → Gaffer) : (s.modGaf g).tm = s.tm := rfl
@[simp] theorem State.modGaf_ten (s : State) (g : Gaffer → Gaffer) : (s.modGaf g).ten = s.ten := rfl
@[simp] theorem State.modGaf_ann (s : State) (g : Gaffer → Gaffer) : (s.modGaf g).ann = s.ann := rfl
@[simp] theorem State.modGaf_leh (s : State) (g : Gaffer → Gaffer) : (s.modGaf g).leh = s.leh := rfl
@[simp] theorem State.modGaf_mem (s : State) (g : Gaffer → Gaffer) : (s.modGaf g).mem = s.mem := rfl
@[simp] theorem State.modGaf_rme (s : State) (g : Gaffer → Gaffer) : (s.modGaf g).rme = s.rme := rfl
@[simp] theorem State.modGaf_sto (s : State) (g : Gaffer → Gaffer) : (s.modGaf g).sto = s.sto := rfl
@[simp] theorem State.modGaf_out (s : State) (g : Gaffer → Gaffer) : (s.modGaf g).out = s.out := rfl
@[simp] theorem State.modGaf_freeCtr (s : State) (g : Gaffer → Gaffer) : (s.modGaf g).freeCtr = s.freeCtr := rfl
@[simp] theorem State.modGaf_pending (s : State) (g : Gaffer → Gaffer) : (s.modGaf g).pending = s.pending := rfl

/-! ## modAnn -/

@[simp] theorem State.modAnn_sup (s : State) (g : Anneal → Anneal) : (s.modAnn g).sup = s.sup := rfl
@[simp] theorem State.modAnn_pwr (s : State) (g : Anneal → Anneal) : (s.modAnn g).pwr = s.pwr := rfl
@[simp] theorem State.modAnn_tal (s : State) (g : Anneal → Anneal) : (s.modAnn g).tal = s.tal := rfl
@[simp] theorem State.modAnn_sb (s : State) (g : Anneal → Anneal) : (s.modAnn g).sb = s.sb := rfl
@[simp] theorem State.modAnn_tel (s : State) (g : Anneal → Anneal) : (s.modAnn g).tel = s.tel := rfl
@[simp] theorem State.modAnn_log (s : State) (g : Anneal → Anneal) : (s.modAnn g).log = s.log := rfl
@[simp] theorem State.modAnn_fl (s : State) (g : Anneal → Anneal) : (s.modAnn g).fl = s.fl := rfl
@[simp] theorem State.modAnn_boot (s : State) (g : Anneal → Anneal) : (s.modAnn g).boot = s.boot := rfl
@[simp] theorem State.modAnn_fab (s : State) (g : Anneal → Anneal) : (s.modAnn g).fab = s.fab := rfl
@[simp] theorem State.modAnn_con (s : State) (g : Anneal → Anneal) : (s.modAnn g).con = s.con := rfl
@[simp] theorem State.modAnn_hep (s : State) (g : Anneal → Anneal) : (s.modAnn g).hep = s.hep := rfl
@[simp] theorem State.modAnn_apt (s : State) (g : Anneal → Anneal) : (s.modAnn g).apt = s.apt := rfl
@[simp] theorem State.modAnn_cru (s : State) (g : Anneal → Anneal) : (s.modAnn g).cru = s.cru := rfl
@[simp] theorem State.modAnn_gaf (s : State) (g : Anneal → Anneal) : (s.modAnn g).gaf = s.gaf := rfl
@[simp] theorem State.modAnn_net (s : State) (g : Anneal → Anneal) : (s.modAnn g).net = s.net := rfl
@[simp] theorem State.modAnn_mrv (s : State) (g : Anneal → Anneal) : (s.modAnn g).mrv = s.mrv := rfl
@[simp] theorem State.modAnn_tm (s : State) (g : Anneal → Anneal) : (s.modAnn g).tm = s.tm := rfl
@[simp] theorem State.modAnn_ten (s : State) (g : Anneal → Anneal) : (s.modAnn g).ten = s.ten := rfl
@[simp] theorem State.modAnn_ann (s : State) (g : Anneal → Anneal) : (s.modAnn g).ann = g s.ann := rfl
@[simp] theorem State.modAnn_leh (s : State) (g : Anneal → Anneal) : (s.modAnn g).leh = s.leh := rfl
@[simp] theorem State.modAnn_mem (s : State) (g : Anneal → Anneal) : (s.modAnn g).mem = s.mem := rfl
@[simp] theorem State.modAnn_rme (s : State) (g : Anneal → Anneal) : (s.modAnn g).rme = s.rme := rfl
@[simp] theorem State.modAnn_sto (s : State) (g : Anneal → Anneal) : (s.modAnn g).sto = s.sto := rfl
@[simp] theorem State.modAnn_out (s : State) (g : Anneal → Anneal) : (s.modAnn g).out = s.out := rfl
@[simp] theorem State.modAnn_freeCtr (s : State) (g : Anneal → Anneal) : (s.modAnn g).freeCtr = s.freeCtr := rfl
@[simp] theorem State.modAnn_pending (s : State) (g : Anneal → Anneal) : (s.modAnn g).pending = s.pending := rfl

/-! ## modLeh -/

@[simp] theorem State.modLeh_sup (s : State) (g : Lehr → Lehr) : (s.modLeh g).sup = s.sup := rfl
@[simp] theorem State.modLeh_pwr (s : State) (g : Lehr → Lehr) : (s.modLeh g).pwr = s.pwr := rfl
@[simp] theorem State.modLeh_tal (s : State) (g : Lehr → Lehr) : (s.modLeh g).tal = s.tal := rfl
@[simp] theorem State.modLeh_sb (s : State) (g : Lehr → Lehr) : (s.modLeh g).sb = s.sb := rfl
@[simp] theorem State.modLeh_tel (s : State) (g : Lehr → Lehr) : (s.modLeh g).tel = s.tel := rfl
@[simp] theorem State.modLeh_log (s : State) (g : Lehr → Lehr) : (s.modLeh g).log = s.log := rfl
@[simp] theorem State.modLeh_fl (s : State) (g : Lehr → Lehr) : (s.modLeh g).fl = s.fl := rfl
@[simp] theorem State.modLeh_boot (s : State) (g : Lehr → Lehr) : (s.modLeh g).boot = s.boot := rfl
@[simp] theorem State.modLeh_fab (s : State) (g : Lehr → Lehr) : (s.modLeh g).fab = s.fab := rfl
@[simp] theorem State.modLeh_con (s : State) (g : Lehr → Lehr) : (s.modLeh g).con = s.con := rfl
@[simp] theorem State.modLeh_hep (s : State) (g : Lehr → Lehr) : (s.modLeh g).hep = s.hep := rfl
@[simp] theorem State.modLeh_apt (s : State) (g : Lehr → Lehr) : (s.modLeh g).apt = s.apt := rfl
@[simp] theorem State.modLeh_cru (s : State) (g : Lehr → Lehr) : (s.modLeh g).cru = s.cru := rfl
@[simp] theorem State.modLeh_gaf (s : State) (g : Lehr → Lehr) : (s.modLeh g).gaf = s.gaf := rfl
@[simp] theorem State.modLeh_net (s : State) (g : Lehr → Lehr) : (s.modLeh g).net = s.net := rfl
@[simp] theorem State.modLeh_mrv (s : State) (g : Lehr → Lehr) : (s.modLeh g).mrv = s.mrv := rfl
@[simp] theorem State.modLeh_tm (s : State) (g : Lehr → Lehr) : (s.modLeh g).tm = s.tm := rfl
@[simp] theorem State.modLeh_ten (s : State) (g : Lehr → Lehr) : (s.modLeh g).ten = s.ten := rfl
@[simp] theorem State.modLeh_ann (s : State) (g : Lehr → Lehr) : (s.modLeh g).ann = s.ann := rfl
@[simp] theorem State.modLeh_leh (s : State) (g : Lehr → Lehr) : (s.modLeh g).leh = g s.leh := rfl
@[simp] theorem State.modLeh_mem (s : State) (g : Lehr → Lehr) : (s.modLeh g).mem = s.mem := rfl
@[simp] theorem State.modLeh_rme (s : State) (g : Lehr → Lehr) : (s.modLeh g).rme = s.rme := rfl
@[simp] theorem State.modLeh_sto (s : State) (g : Lehr → Lehr) : (s.modLeh g).sto = s.sto := rfl
@[simp] theorem State.modLeh_out (s : State) (g : Lehr → Lehr) : (s.modLeh g).out = s.out := rfl
@[simp] theorem State.modLeh_freeCtr (s : State) (g : Lehr → Lehr) : (s.modLeh g).freeCtr = s.freeCtr := rfl
@[simp] theorem State.modLeh_pending (s : State) (g : Lehr → Lehr) : (s.modLeh g).pending = s.pending := rfl

/-! ## modMem -/

@[simp] theorem State.modMem_sup (s : State) (g : Members → Members) : (s.modMem g).sup = s.sup := rfl
@[simp] theorem State.modMem_pwr (s : State) (g : Members → Members) : (s.modMem g).pwr = s.pwr := rfl
@[simp] theorem State.modMem_tal (s : State) (g : Members → Members) : (s.modMem g).tal = s.tal := rfl
@[simp] theorem State.modMem_sb (s : State) (g : Members → Members) : (s.modMem g).sb = s.sb := rfl
@[simp] theorem State.modMem_tel (s : State) (g : Members → Members) : (s.modMem g).tel = s.tel := rfl
@[simp] theorem State.modMem_log (s : State) (g : Members → Members) : (s.modMem g).log = s.log := rfl
@[simp] theorem State.modMem_fl (s : State) (g : Members → Members) : (s.modMem g).fl = s.fl := rfl
@[simp] theorem State.modMem_boot (s : State) (g : Members → Members) : (s.modMem g).boot = s.boot := rfl
@[simp] theorem State.modMem_fab (s : State) (g : Members → Members) : (s.modMem g).fab = s.fab := rfl
@[simp] theorem State.modMem_con (s : State) (g : Members → Members) : (s.modMem g).con = s.con := rfl
@[simp] theorem State.modMem_hep (s : State) (g : Members → Members) : (s.modMem g).hep = s.hep := rfl
@[simp] theorem State.modMem_apt (s : State) (g : Members → Members) : (s.modMem g).apt = s.apt := rfl
@[simp] theorem State.modMem_cru (s : State) (g : Members → Members) : (s.modMem g).cru = s.cru := rfl
@[simp] theorem State.modMem_gaf (s : State) (g : Members → Members) : (s.modMem g).gaf = s.gaf := rfl
@[simp] theorem State.modMem_net (s : State) (g : Members → Members) : (s.modMem g).net = s.net := rfl
@[simp] theorem State.modMem_mrv (s : State) (g : Members → Members) : (s.modMem g).mrv = s.mrv := rfl
@[simp] theorem State.modMem_tm (s : State) (g : Members → Members) : (s.modMem g).tm = s.tm := rfl
@[simp] theorem State.modMem_ten (s : State) (g : Members → Members) : (s.modMem g).ten = s.ten := rfl
@[simp] theorem State.modMem_ann (s : State) (g : Members → Members) : (s.modMem g).ann = s.ann := rfl
@[simp] theorem State.modMem_leh (s : State) (g : Members → Members) : (s.modMem g).leh = s.leh := rfl
@[simp] theorem State.modMem_mem (s : State) (g : Members → Members) : (s.modMem g).mem = g s.mem := rfl
@[simp] theorem State.modMem_rme (s : State) (g : Members → Members) : (s.modMem g).rme = s.rme := rfl
@[simp] theorem State.modMem_sto (s : State) (g : Members → Members) : (s.modMem g).sto = s.sto := rfl
@[simp] theorem State.modMem_out (s : State) (g : Members → Members) : (s.modMem g).out = s.out := rfl
@[simp] theorem State.modMem_freeCtr (s : State) (g : Members → Members) : (s.modMem g).freeCtr = s.freeCtr := rfl
@[simp] theorem State.modMem_pending (s : State) (g : Members → Members) : (s.modMem g).pending = s.pending := rfl

/-! ## modMrv -/

@[simp] theorem State.modMrv_sup (s : State) (g : Marver → Marver) : (s.modMrv g).sup = s.sup := rfl
@[simp] theorem State.modMrv_pwr (s : State) (g : Marver → Marver) : (s.modMrv g).pwr = s.pwr := rfl
@[simp] theorem State.modMrv_tal (s : State) (g : Marver → Marver) : (s.modMrv g).tal = s.tal := rfl
@[simp] theorem State.modMrv_sb (s : State) (g : Marver → Marver) : (s.modMrv g).sb = s.sb := rfl
@[simp] theorem State.modMrv_tel (s : State) (g : Marver → Marver) : (s.modMrv g).tel = s.tel := rfl
@[simp] theorem State.modMrv_log (s : State) (g : Marver → Marver) : (s.modMrv g).log = s.log := rfl
@[simp] theorem State.modMrv_fl (s : State) (g : Marver → Marver) : (s.modMrv g).fl = s.fl := rfl
@[simp] theorem State.modMrv_boot (s : State) (g : Marver → Marver) : (s.modMrv g).boot = s.boot := rfl
@[simp] theorem State.modMrv_fab (s : State) (g : Marver → Marver) : (s.modMrv g).fab = s.fab := rfl
@[simp] theorem State.modMrv_con (s : State) (g : Marver → Marver) : (s.modMrv g).con = s.con := rfl
@[simp] theorem State.modMrv_hep (s : State) (g : Marver → Marver) : (s.modMrv g).hep = s.hep := rfl
@[simp] theorem State.modMrv_apt (s : State) (g : Marver → Marver) : (s.modMrv g).apt = s.apt := rfl
@[simp] theorem State.modMrv_cru (s : State) (g : Marver → Marver) : (s.modMrv g).cru = s.cru := rfl
@[simp] theorem State.modMrv_gaf (s : State) (g : Marver → Marver) : (s.modMrv g).gaf = s.gaf := rfl
@[simp] theorem State.modMrv_net (s : State) (g : Marver → Marver) : (s.modMrv g).net = s.net := rfl
@[simp] theorem State.modMrv_mrv (s : State) (g : Marver → Marver) : (s.modMrv g).mrv = g s.mrv := rfl
@[simp] theorem State.modMrv_tm (s : State) (g : Marver → Marver) : (s.modMrv g).tm = s.tm := rfl
@[simp] theorem State.modMrv_ten (s : State) (g : Marver → Marver) : (s.modMrv g).ten = s.ten := rfl
@[simp] theorem State.modMrv_ann (s : State) (g : Marver → Marver) : (s.modMrv g).ann = s.ann := rfl
@[simp] theorem State.modMrv_leh (s : State) (g : Marver → Marver) : (s.modMrv g).leh = s.leh := rfl
@[simp] theorem State.modMrv_mem (s : State) (g : Marver → Marver) : (s.modMrv g).mem = s.mem := rfl
@[simp] theorem State.modMrv_rme (s : State) (g : Marver → Marver) : (s.modMrv g).rme = s.rme := rfl
@[simp] theorem State.modMrv_sto (s : State) (g : Marver → Marver) : (s.modMrv g).sto = s.sto := rfl
@[simp] theorem State.modMrv_out (s : State) (g : Marver → Marver) : (s.modMrv g).out = s.out := rfl
@[simp] theorem State.modMrv_freeCtr (s : State) (g : Marver → Marver) : (s.modMrv g).freeCtr = s.freeCtr := rfl
@[simp] theorem State.modMrv_pending (s : State) (g : Marver → Marver) : (s.modMrv g).pending = s.pending := rfl

/-! ## modRme -/

@[simp] theorem State.modRme_sup (s : State) (g : Rme → Rme) : (s.modRme g).sup = s.sup := rfl
@[simp] theorem State.modRme_pwr (s : State) (g : Rme → Rme) : (s.modRme g).pwr = s.pwr := rfl
@[simp] theorem State.modRme_tal (s : State) (g : Rme → Rme) : (s.modRme g).tal = s.tal := rfl
@[simp] theorem State.modRme_sb (s : State) (g : Rme → Rme) : (s.modRme g).sb = s.sb := rfl
@[simp] theorem State.modRme_tel (s : State) (g : Rme → Rme) : (s.modRme g).tel = s.tel := rfl
@[simp] theorem State.modRme_log (s : State) (g : Rme → Rme) : (s.modRme g).log = s.log := rfl
@[simp] theorem State.modRme_fl (s : State) (g : Rme → Rme) : (s.modRme g).fl = s.fl := rfl
@[simp] theorem State.modRme_boot (s : State) (g : Rme → Rme) : (s.modRme g).boot = s.boot := rfl
@[simp] theorem State.modRme_fab (s : State) (g : Rme → Rme) : (s.modRme g).fab = s.fab := rfl
@[simp] theorem State.modRme_con (s : State) (g : Rme → Rme) : (s.modRme g).con = s.con := rfl
@[simp] theorem State.modRme_hep (s : State) (g : Rme → Rme) : (s.modRme g).hep = s.hep := rfl
@[simp] theorem State.modRme_apt (s : State) (g : Rme → Rme) : (s.modRme g).apt = s.apt := rfl
@[simp] theorem State.modRme_cru (s : State) (g : Rme → Rme) : (s.modRme g).cru = s.cru := rfl
@[simp] theorem State.modRme_gaf (s : State) (g : Rme → Rme) : (s.modRme g).gaf = s.gaf := rfl
@[simp] theorem State.modRme_net (s : State) (g : Rme → Rme) : (s.modRme g).net = s.net := rfl
@[simp] theorem State.modRme_mrv (s : State) (g : Rme → Rme) : (s.modRme g).mrv = s.mrv := rfl
@[simp] theorem State.modRme_tm (s : State) (g : Rme → Rme) : (s.modRme g).tm = s.tm := rfl
@[simp] theorem State.modRme_ten (s : State) (g : Rme → Rme) : (s.modRme g).ten = s.ten := rfl
@[simp] theorem State.modRme_ann (s : State) (g : Rme → Rme) : (s.modRme g).ann = s.ann := rfl
@[simp] theorem State.modRme_leh (s : State) (g : Rme → Rme) : (s.modRme g).leh = s.leh := rfl
@[simp] theorem State.modRme_mem (s : State) (g : Rme → Rme) : (s.modRme g).mem = s.mem := rfl
@[simp] theorem State.modRme_rme (s : State) (g : Rme → Rme) : (s.modRme g).rme = g s.rme := rfl
@[simp] theorem State.modRme_sto (s : State) (g : Rme → Rme) : (s.modRme g).sto = s.sto := rfl
@[simp] theorem State.modRme_out (s : State) (g : Rme → Rme) : (s.modRme g).out = s.out := rfl
@[simp] theorem State.modRme_freeCtr (s : State) (g : Rme → Rme) : (s.modRme g).freeCtr = s.freeCtr := rfl
@[simp] theorem State.modRme_pending (s : State) (g : Rme → Rme) : (s.modRme g).pending = s.pending := rfl

/-! ## modSto -/

@[simp] theorem State.modSto_sup (s : State) (g : Storage → Storage) : (s.modSto g).sup = s.sup := rfl
@[simp] theorem State.modSto_pwr (s : State) (g : Storage → Storage) : (s.modSto g).pwr = s.pwr := rfl
@[simp] theorem State.modSto_tal (s : State) (g : Storage → Storage) : (s.modSto g).tal = s.tal := rfl
@[simp] theorem State.modSto_sb (s : State) (g : Storage → Storage) : (s.modSto g).sb = s.sb := rfl
@[simp] theorem State.modSto_tel (s : State) (g : Storage → Storage) : (s.modSto g).tel = s.tel := rfl
@[simp] theorem State.modSto_log (s : State) (g : Storage → Storage) : (s.modSto g).log = s.log := rfl
@[simp] theorem State.modSto_fl (s : State) (g : Storage → Storage) : (s.modSto g).fl = s.fl := rfl
@[simp] theorem State.modSto_boot (s : State) (g : Storage → Storage) : (s.modSto g).boot = s.boot := rfl
@[simp] theorem State.modSto_fab (s : State) (g : Storage → Storage) : (s.modSto g).fab = s.fab := rfl
@[simp] theorem State.modSto_con (s : State) (g : Storage → Storage) : (s.modSto g).con = s.con := rfl
@[simp] theorem State.modSto_hep (s : State) (g : Storage → Storage) : (s.modSto g).hep = s.hep := rfl
@[simp] theorem State.modSto_apt (s : State) (g : Storage → Storage) : (s.modSto g).apt = s.apt := rfl
@[simp] theorem State.modSto_cru (s : State) (g : Storage → Storage) : (s.modSto g).cru = s.cru := rfl
@[simp] theorem State.modSto_gaf (s : State) (g : Storage → Storage) : (s.modSto g).gaf = s.gaf := rfl
@[simp] theorem State.modSto_net (s : State) (g : Storage → Storage) : (s.modSto g).net = s.net := rfl
@[simp] theorem State.modSto_mrv (s : State) (g : Storage → Storage) : (s.modSto g).mrv = s.mrv := rfl
@[simp] theorem State.modSto_tm (s : State) (g : Storage → Storage) : (s.modSto g).tm = s.tm := rfl
@[simp] theorem State.modSto_ten (s : State) (g : Storage → Storage) : (s.modSto g).ten = s.ten := rfl
@[simp] theorem State.modSto_ann (s : State) (g : Storage → Storage) : (s.modSto g).ann = s.ann := rfl
@[simp] theorem State.modSto_leh (s : State) (g : Storage → Storage) : (s.modSto g).leh = s.leh := rfl
@[simp] theorem State.modSto_mem (s : State) (g : Storage → Storage) : (s.modSto g).mem = s.mem := rfl
@[simp] theorem State.modSto_rme (s : State) (g : Storage → Storage) : (s.modSto g).rme = s.rme := rfl
@[simp] theorem State.modSto_sto (s : State) (g : Storage → Storage) : (s.modSto g).sto = g s.sto := rfl
@[simp] theorem State.modSto_out (s : State) (g : Storage → Storage) : (s.modSto g).out = s.out := rfl
@[simp] theorem State.modSto_freeCtr (s : State) (g : Storage → Storage) : (s.modSto g).freeCtr = s.freeCtr := rfl
@[simp] theorem State.modSto_pending (s : State) (g : Storage → Storage) : (s.modSto g).pending = s.pending := rfl

/-! ## modTen -/

@[simp] theorem State.modTen_sup (s : State) (g : Tensor → Tensor) : (s.modTen g).sup = s.sup := rfl
@[simp] theorem State.modTen_pwr (s : State) (g : Tensor → Tensor) : (s.modTen g).pwr = s.pwr := rfl
@[simp] theorem State.modTen_tal (s : State) (g : Tensor → Tensor) : (s.modTen g).tal = s.tal := rfl
@[simp] theorem State.modTen_sb (s : State) (g : Tensor → Tensor) : (s.modTen g).sb = s.sb := rfl
@[simp] theorem State.modTen_tel (s : State) (g : Tensor → Tensor) : (s.modTen g).tel = s.tel := rfl
@[simp] theorem State.modTen_log (s : State) (g : Tensor → Tensor) : (s.modTen g).log = s.log := rfl
@[simp] theorem State.modTen_fl (s : State) (g : Tensor → Tensor) : (s.modTen g).fl = s.fl := rfl
@[simp] theorem State.modTen_boot (s : State) (g : Tensor → Tensor) : (s.modTen g).boot = s.boot := rfl
@[simp] theorem State.modTen_fab (s : State) (g : Tensor → Tensor) : (s.modTen g).fab = s.fab := rfl
@[simp] theorem State.modTen_con (s : State) (g : Tensor → Tensor) : (s.modTen g).con = s.con := rfl
@[simp] theorem State.modTen_hep (s : State) (g : Tensor → Tensor) : (s.modTen g).hep = s.hep := rfl
@[simp] theorem State.modTen_apt (s : State) (g : Tensor → Tensor) : (s.modTen g).apt = s.apt := rfl
@[simp] theorem State.modTen_cru (s : State) (g : Tensor → Tensor) : (s.modTen g).cru = s.cru := rfl
@[simp] theorem State.modTen_gaf (s : State) (g : Tensor → Tensor) : (s.modTen g).gaf = s.gaf := rfl
@[simp] theorem State.modTen_net (s : State) (g : Tensor → Tensor) : (s.modTen g).net = s.net := rfl
@[simp] theorem State.modTen_mrv (s : State) (g : Tensor → Tensor) : (s.modTen g).mrv = s.mrv := rfl
@[simp] theorem State.modTen_tm (s : State) (g : Tensor → Tensor) : (s.modTen g).tm = s.tm := rfl
@[simp] theorem State.modTen_ten (s : State) (g : Tensor → Tensor) : (s.modTen g).ten = g s.ten := rfl
@[simp] theorem State.modTen_ann (s : State) (g : Tensor → Tensor) : (s.modTen g).ann = s.ann := rfl
@[simp] theorem State.modTen_leh (s : State) (g : Tensor → Tensor) : (s.modTen g).leh = s.leh := rfl
@[simp] theorem State.modTen_mem (s : State) (g : Tensor → Tensor) : (s.modTen g).mem = s.mem := rfl
@[simp] theorem State.modTen_rme (s : State) (g : Tensor → Tensor) : (s.modTen g).rme = s.rme := rfl
@[simp] theorem State.modTen_sto (s : State) (g : Tensor → Tensor) : (s.modTen g).sto = s.sto := rfl
@[simp] theorem State.modTen_out (s : State) (g : Tensor → Tensor) : (s.modTen g).out = s.out := rfl
@[simp] theorem State.modTen_freeCtr (s : State) (g : Tensor → Tensor) : (s.modTen g).freeCtr = s.freeCtr := rfl
@[simp] theorem State.modTen_pending (s : State) (g : Tensor → Tensor) : (s.modTen g).pending = s.pending := rfl

/-! ## modTm -/

@[simp] theorem State.modTm_sup (s : State) (g : Tm → Tm) : (s.modTm g).sup = s.sup := rfl
@[simp] theorem State.modTm_pwr (s : State) (g : Tm → Tm) : (s.modTm g).pwr = s.pwr := rfl
@[simp] theorem State.modTm_tal (s : State) (g : Tm → Tm) : (s.modTm g).tal = s.tal := rfl
@[simp] theorem State.modTm_sb (s : State) (g : Tm → Tm) : (s.modTm g).sb = s.sb := rfl
@[simp] theorem State.modTm_tel (s : State) (g : Tm → Tm) : (s.modTm g).tel = s.tel := rfl
@[simp] theorem State.modTm_log (s : State) (g : Tm → Tm) : (s.modTm g).log = s.log := rfl
@[simp] theorem State.modTm_fl (s : State) (g : Tm → Tm) : (s.modTm g).fl = s.fl := rfl
@[simp] theorem State.modTm_boot (s : State) (g : Tm → Tm) : (s.modTm g).boot = s.boot := rfl
@[simp] theorem State.modTm_fab (s : State) (g : Tm → Tm) : (s.modTm g).fab = s.fab := rfl
@[simp] theorem State.modTm_con (s : State) (g : Tm → Tm) : (s.modTm g).con = s.con := rfl
@[simp] theorem State.modTm_hep (s : State) (g : Tm → Tm) : (s.modTm g).hep = s.hep := rfl
@[simp] theorem State.modTm_apt (s : State) (g : Tm → Tm) : (s.modTm g).apt = s.apt := rfl
@[simp] theorem State.modTm_cru (s : State) (g : Tm → Tm) : (s.modTm g).cru = s.cru := rfl
@[simp] theorem State.modTm_gaf (s : State) (g : Tm → Tm) : (s.modTm g).gaf = s.gaf := rfl
@[simp] theorem State.modTm_net (s : State) (g : Tm → Tm) : (s.modTm g).net = s.net := rfl
@[simp] theorem State.modTm_mrv (s : State) (g : Tm → Tm) : (s.modTm g).mrv = s.mrv := rfl
@[simp] theorem State.modTm_tm (s : State) (g : Tm → Tm) : (s.modTm g).tm = g s.tm := rfl
@[simp] theorem State.modTm_ten (s : State) (g : Tm → Tm) : (s.modTm g).ten = s.ten := rfl
@[simp] theorem State.modTm_ann (s : State) (g : Tm → Tm) : (s.modTm g).ann = s.ann := rfl
@[simp] theorem State.modTm_leh (s : State) (g : Tm → Tm) : (s.modTm g).leh = s.leh := rfl
@[simp] theorem State.modTm_mem (s : State) (g : Tm → Tm) : (s.modTm g).mem = s.mem := rfl
@[simp] theorem State.modTm_rme (s : State) (g : Tm → Tm) : (s.modTm g).rme = s.rme := rfl
@[simp] theorem State.modTm_sto (s : State) (g : Tm → Tm) : (s.modTm g).sto = s.sto := rfl
@[simp] theorem State.modTm_out (s : State) (g : Tm → Tm) : (s.modTm g).out = s.out := rfl
@[simp] theorem State.modTm_freeCtr (s : State) (g : Tm → Tm) : (s.modTm g).freeCtr = s.freeCtr := rfl
@[simp] theorem State.modTm_pending (s : State) (g : Tm → Tm) : (s.modTm g).pending = s.pending := rfl

/-! ## modQueue -/

@[simp] theorem State.modQueue_sup (s : State) (n q : Nat) (g : Queue → Queue) : (s.modQueue n q g).sup = s.sup := rfl
@[simp] theorem State.modQueue_pwr (s : State) (n q : Nat) (g : Queue → Queue) : (s.modQueue n q g).pwr = s.pwr := rfl
@[simp] theorem State.modQueue_tal (s : State) (n q : Nat) (g : Queue → Queue) : (s.modQueue n q g).tal = s.tal := rfl
@[simp] theorem State.modQueue_sb (s : State) (n q : Nat) (g : Queue → Queue) : (s.modQueue n q g).sb = s.sb := rfl
@[simp] theorem State.modQueue_tel (s : State) (n q : Nat) (g : Queue → Queue) : (s.modQueue n q g).tel = s.tel := rfl
@[simp] theorem State.modQueue_log (s : State) (n q : Nat) (g : Queue → Queue) : (s.modQueue n q g).log = s.log := rfl
@[simp] theorem State.modQueue_fl (s : State) (n q : Nat) (g : Queue → Queue) : (s.modQueue n q g).fl = s.fl := rfl
@[simp] theorem State.modQueue_boot (s : State) (n q : Nat) (g : Queue → Queue) : (s.modQueue n q g).boot = s.boot := rfl
@[simp] theorem State.modQueue_fab (s : State) (n q : Nat) (g : Queue → Queue) : (s.modQueue n q g).fab = s.fab := rfl
@[simp] theorem State.modQueue_hep (s : State) (n q : Nat) (g : Queue → Queue) : (s.modQueue n q g).hep = s.hep := rfl
@[simp] theorem State.modQueue_apt (s : State) (n q : Nat) (g : Queue → Queue) : (s.modQueue n q g).apt = s.apt := rfl
@[simp] theorem State.modQueue_cru (s : State) (n q : Nat) (g : Queue → Queue) : (s.modQueue n q g).cru = s.cru := rfl
@[simp] theorem State.modQueue_gaf (s : State) (n q : Nat) (g : Queue → Queue) : (s.modQueue n q g).gaf = s.gaf := rfl
@[simp] theorem State.modQueue_net (s : State) (n q : Nat) (g : Queue → Queue) : (s.modQueue n q g).net = s.net := rfl
@[simp] theorem State.modQueue_mrv (s : State) (n q : Nat) (g : Queue → Queue) : (s.modQueue n q g).mrv = s.mrv := rfl
@[simp] theorem State.modQueue_tm (s : State) (n q : Nat) (g : Queue → Queue) : (s.modQueue n q g).tm = s.tm := rfl
@[simp] theorem State.modQueue_ten (s : State) (n q : Nat) (g : Queue → Queue) : (s.modQueue n q g).ten = s.ten := rfl
@[simp] theorem State.modQueue_ann (s : State) (n q : Nat) (g : Queue → Queue) : (s.modQueue n q g).ann = s.ann := rfl
@[simp] theorem State.modQueue_leh (s : State) (n q : Nat) (g : Queue → Queue) : (s.modQueue n q g).leh = s.leh := rfl
@[simp] theorem State.modQueue_mem (s : State) (n q : Nat) (g : Queue → Queue) : (s.modQueue n q g).mem = s.mem := rfl
@[simp] theorem State.modQueue_rme (s : State) (n q : Nat) (g : Queue → Queue) : (s.modQueue n q g).rme = s.rme := rfl
@[simp] theorem State.modQueue_sto (s : State) (n q : Nat) (g : Queue → Queue) : (s.modQueue n q g).sto = s.sto := rfl
@[simp] theorem State.modQueue_out (s : State) (n q : Nat) (g : Queue → Queue) : (s.modQueue n q g).out = s.out := rfl
@[simp] theorem State.modQueue_freeCtr (s : State) (n q : Nat) (g : Queue → Queue) : (s.modQueue n q g).freeCtr = s.freeCtr := rfl
@[simp] theorem State.modQueue_pending (s : State) (n q : Nat) (g : Queue → Queue) : (s.modQueue n q g).pending = s.pending := rfl

/-! ## modCore -/

@[simp] theorem State.modCore_sup (s : State) (c : Nat) (g : Core → Core) : (s.modCore c g).sup = s.sup := rfl
@[simp] theorem State.modCore_pwr (s : State) (c : Nat) (g : Core → Core) : (s.modCore c g).pwr = s.pwr := rfl
@[simp] theorem State.modCore_tal (s : State) (c : Nat) (g : Core → Core) : (s.modCore c g).tal = s.tal := rfl
@[simp] theorem State.modCore_sb (s : State) (c : Nat) (g : Core → Core) : (s.modCore c g).sb = s.sb := rfl
@[simp] theorem State.modCore_tel (s : State) (c : Nat) (g : Core → Core) : (s.modCore c g).tel = s.tel := rfl
@[simp] theorem State.modCore_log (s : State) (c : Nat) (g : Core → Core) : (s.modCore c g).log = s.log := rfl
@[simp] theorem State.modCore_fl (s : State) (c : Nat) (g : Core → Core) : (s.modCore c g).fl = s.fl := rfl
@[simp] theorem State.modCore_boot (s : State) (c : Nat) (g : Core → Core) : (s.modCore c g).boot = s.boot := rfl
@[simp] theorem State.modCore_fab (s : State) (c : Nat) (g : Core → Core) : (s.modCore c g).fab = s.fab := rfl
@[simp] theorem State.modCore_con (s : State) (c : Nat) (g : Core → Core) : (s.modCore c g).con = s.con := rfl
@[simp] theorem State.modCore_hep (s : State) (c : Nat) (g : Core → Core) : (s.modCore c g).hep = s.hep := rfl
@[simp] theorem State.modCore_apt (s : State) (c : Nat) (g : Core → Core) : (s.modCore c g).apt = s.apt := rfl
@[simp] theorem State.modCore_cru (s : State) (c : Nat) (g : Core → Core) : (s.modCore c g).cru = s.cru := rfl
@[simp] theorem State.modCore_net (s : State) (c : Nat) (g : Core → Core) : (s.modCore c g).net = s.net := rfl
@[simp] theorem State.modCore_mrv (s : State) (c : Nat) (g : Core → Core) : (s.modCore c g).mrv = s.mrv := rfl
@[simp] theorem State.modCore_tm (s : State) (c : Nat) (g : Core → Core) : (s.modCore c g).tm = s.tm := rfl
@[simp] theorem State.modCore_ten (s : State) (c : Nat) (g : Core → Core) : (s.modCore c g).ten = s.ten := rfl
@[simp] theorem State.modCore_ann (s : State) (c : Nat) (g : Core → Core) : (s.modCore c g).ann = s.ann := rfl
@[simp] theorem State.modCore_leh (s : State) (c : Nat) (g : Core → Core) : (s.modCore c g).leh = s.leh := rfl
@[simp] theorem State.modCore_mem (s : State) (c : Nat) (g : Core → Core) : (s.modCore c g).mem = s.mem := rfl
@[simp] theorem State.modCore_rme (s : State) (c : Nat) (g : Core → Core) : (s.modCore c g).rme = s.rme := rfl
@[simp] theorem State.modCore_sto (s : State) (c : Nat) (g : Core → Core) : (s.modCore c g).sto = s.sto := rfl
@[simp] theorem State.modCore_out (s : State) (c : Nat) (g : Core → Core) : (s.modCore c g).out = s.out := rfl
@[simp] theorem State.modCore_freeCtr (s : State) (c : Nat) (g : Core → Core) : (s.modCore c g).freeCtr = s.freeCtr := rfl
@[simp] theorem State.modCore_pending (s : State) (c : Nat) (g : Core → Core) : (s.modCore c g).pending = s.pending := rfl

end Sys2Proof.Machine
end

