-- ==== Sys2Proof/WellFormed.lean ====
section
/-! DEFINITION. Which commands are well formed: each operand lies in the range the spec gives the thing it numbers. A sender can only form such commands; the meanings are total beyond them. -/

namespace Sys2Proof

open Sys2Proof.Machine

/-- A command reference names a function or member window, and a queue of it. -/
def refOk (r : CmdRef) : Bool := decide (r.fn < 19 ∧ r.q < 256)

/-- A message comes over the sideband or from a host function. -/
def msgOk : MsgSrc → Bool
  | .sideband => true
  | .vdm fn => decide (fn < 16)

/-- A master is one of the eight cores, a host function or the sideband. -/
def masterOk : Master → Bool
  | .core n => decide (n < 8)
  | .fn n => decide (n < 16)
  | .sideband => true

/-- Every operand of a command is in its range. -/
def Instr.wf : Instr → Bool
  | .inputSag _ => true
  | .railOutOfWindow _ _ => true
  | .undervoltageLockout _ => true
  | .lockoutEnd _ => true
  | .overvoltageCutOff _ => true
  | .cutOffEnd _ => true
  | .modEnFall => true
  | .modEnRise => true
  | .inhibitLift _ => true
  | .inputGlitch _ => true
  | .junctionThrottle _ => true
  | .throttleStep _ => true
  | .thermalTrip _ _ => true
  | .coreRailOvervoltage _ _ => true
  | .inputCurrentLimit _ => true
  | .aodLimitCtrlWrite _ => true
  | .aodPowerOn _ cohortId _ sbAddr _ => decide (cohortId < 4 ∧ sbAddr < 128)
  | .modRstNAssert => true
  | .orderlyPhaseEnd => true
  | .bootRomStart _ _ _ => true
  | .cohortMemberJoin port member _ _ _ _ => decide (port < 8 ∧ member < 4)
  | .memberWaitExpiry => true
  | .linkFlitReplay link _ => decide (link < 8)
  | .bridgeEntryOverflow domain => decide (domain < 248)
  | .patrolScrub ctrl _ => decide (ctrl < 8)
  | .paneErrorAgeOut ctrl pane => decide (ctrl < 8 ∧ pane < 2 ^ 23)
  | .paneWithdraw pane => decide (pane < 2 ^ 23)
  | .armedPaneWrite _ _ => true
  | .paneCopyDone pane _ _ _ => decide (pane < 2 ^ 23)
  | .selfRefreshEnter stack quadrant _ => decide (stack < 8 ∧ quadrant < 4)
  | .memCtrlWrite core offset _ => decide (core < 8 ∧ offset < 2 ^ 32)
  | .registerWrite who block offset _ => decide (block < 512 ∧ offset < 2 ^ 32) && masterOk who
  | .queueEnable fn q _ => decide (fn < 19 ∧ q < 256)
  | .queueDisable fn q => decide (fn < 19 ∧ q < 256)
  | .queueDoorbell fn q _ => decide (fn < 19 ∧ q < 256)
  | .cqHeadWrite fn q _ => decide (fn < 19 ∧ q < 256)
  | .commandFetch fn q => decide (fn < 19 ∧ q < 256)
  | .commandStart fn q => decide (fn < 19 ∧ q < 256)
  | .syncCounterWrite fn index _ => decide (fn < 19 ∧ index < 4096)
  | .copy r => refOk r
  | .fill r => refOk r
  | .copyTensor r => refOk r
  | .writeImm r => refOk r
  | .queryDevice r => refOk r
  | .placementQuery r => refOk r
  | .tenantSet r => refOk r
  | .tenantQuiesce r => refOk r
  | .tenantResume r => refOk r
  | .paneMap r => refOk r
  | .paneUnmap r => refOk r
  | .profileStage r => refOk r
  | .restart r => refOk r
  | .diagRead r => refOk r
  | .modelRegister r => refOk r
  | .modelLoad r => refOk r
  | .modelEvict r => refOk r
  | .modelRun r => refOk r
  | .matmul r => refOk r
  | .project r => refOk r
  | .workUnitGrant r quarter others k l _ _ => decide (quarter < 128 ∧ 1 ≤ k ∧ k ≤ 16 ∧ 1 ≤ l ∧ l ≤ 16) && others.all (fun q => decide (q < 128)) && refOk r
  | .workUnitDone quarter tile sram => decide (quarter < 128 ∧ tile < 16 ∧ sram < 8)
  | .quarterReassign quarter => decide (quarter < 128)
  | .modelFetchDone tenant id => decide (tenant < 16 ∧ id < 65536)
  | .residencyMigration tenant id _ => decide (tenant < 16 ∧ id < 65536)
  | .shardDefine r => refOk r
  | .bucketDefine r => refOk r
  | .ruleLoad r => refOk r
  | .groupMap r => refOk r
  | .start r => refOk r
  | .startBarrierDigest rank _ _ => decide (rank < 16384)
  | .startBarrierTimeout => true
  | .setConst r => refOk r
  | .retry r => refOk r
  | .stop r => refOk r
  | .query r => refOk r
  | .intakeToken contributor _ => decide (contributor < 32)
  | .intakeTimeout => true
  | .partialMessage imm _ => decide (imm < 65536)
  | .exchangeTimeout _ => true
  | .scalarMessage imm _ => decide (imm < 65536)
  | .groupUpdateDone _ => true
  | .gatherMessage imm _ => decide (imm < 65536)
  | .weightsReady _ => true
  | .abort _ step reason => decide (step < 2 ^ 48 ∧ reason < 256)
  | .epochTimerDue => true
  | .epochAnnounce gen epoch step _ => decide (gen < 2 ^ 32 ∧ epoch < 2 ^ 64 ∧ step < 2 ^ 48)
  | .announceAck gen _ epoch => decide (gen < 2 ^ 32 ∧ epoch < 2 ^ 64)
  | .segmentStage _ => true
  | .segmentReceive gen _ _ => decide (gen < 2 ^ 32)
  | .segmentAck gen buddy epoch _ _ => decide (gen < 2 ^ 32 ∧ buddy < 16384 ∧ epoch < 2 ^ 64)
  | .segmentRefused gen buddy epoch _ => decide (gen < 2 ^ 32 ∧ buddy < 16384 ∧ epoch < 2 ^ 64)
  | .shardReport gen epoch rank _ _ _ count _ _ _ => decide (gen < 2 ^ 32 ∧ epoch < 2 ^ 64 ∧ rank < 16384 ∧ count < 65536)
  | .manifestStore gen _ => decide (gen < 2 ^ 32)
  | .manifestAck gen epoch => decide (gen < 2 ^ 32 ∧ epoch < 2 ^ 64)
  | .commit gen _ => decide (gen < 2 ^ 32)
  | .discard gen epoch cause => decide (gen < 2 ^ 32 ∧ epoch < 2 ^ 64 ∧ cause < 256)
  | .onwardLegDone epoch _ _ _ => decide (epoch < 2 ^ 64)
  | .take ref => ref.all refOk
  | .policy r => refOk r
  | .epochQuery r => refOk r
  | .restore r _ _ => refOk r
  | .segmentPullDone _ rank _ _ => decide (rank < 16384)
  | .pullTimeout rank _ => decide (rank < 16384)
  | .paneRepair pane => decide (pane < 2 ^ 23)
  | .heartbeatSend => true
  | .heartbeat _ gen => decide (gen < 2 ^ 32)
  | .suspicionTimeout rank => decide (rank < 16384)
  | .suspicionLapse rank => decide (rank < 16384)
  | .suspectReport gen suspect watcher _ _ => decide (gen < 2 ^ 32 ∧ suspect < 16384 ∧ watcher < 16384)
  | .probe _ gen => decide (gen < 2 ^ 32)
  | .probeReply gen _ => decide (gen < 2 ^ 32)
  | .probeWindowExpiry suspect => decide (suspect < 16384)
  | .lost _ gen epoch root => decide (gen < 2 ^ 32 ∧ epoch < 2 ^ 64 ∧ root < 16384)
  | .selfFence => true
  | .withdraw rank gen => decide (rank < 16384 ∧ gen < 2 ^ 32)
  | .reshard ref status epoch _ _ _ _ => decide (status < 256 ∧ epoch < 2 ^ 64) && ref.all refOk
  | .reshardComplete _ _ => true
  | .dlActive port _ _ _ _ => decide (port < 8)
  | .peerCompletion port tag status _ => decide (port < 8 ∧ tag < 1024 ∧ status < 256)
  | .peerCompletionTimeout port tag => decide (port < 8 ∧ tag < 1024)
  | .peerTagQuarantineEnd port tag => decide (port < 8 ∧ tag < 1024)
  | .inboundWrite origin port addr _ _ =>
    decide (port < 8 ∧ addr < 2 ^ 64) &&
      match origin with
      | .accelerator => true
      | .forwarded m | .group m _ | .fault m => decide (m < 4)
      | .transit m d c => decide (m < 4 ∧ d < 4 ∧ c < 256)
      | .hostAccess m _ t => decide (m < 4 ∧ t < 1024)
      | .memory m n t => decide (m < 4 ∧ n < 16 ∧ t < 1024)
  | .slotPowerOn port _ => decide (port < 8)
  | .slotRefclkStart port => decide (port < 8)
  | .slotPerstRelease port => decide (port < 8)
  | .slotPowerOff port => decide (port < 8)
  | .attentionIndicatorSet port _ => decide (port < 8)
  | .powerIndicatorSet port _ => decide (port < 8)
  | .presenceChange port _ => decide (port < 8)
  | .attentionButton port => decide (port < 8)
  | .buttonWindowEnd port => decide (port < 8)
  | .powerFault port => decide (port < 8)
  | .surpriseDown port => decide (port < 8)
  | .linkTrainRetry port _ => decide (port < 8)
  | .cohortLinkDown port => decide (port < 8)
  | .bmeClear fn => decide (fn < 16)
  | .bmeSet fn => decide (fn < 16)
  | .interruptDisableWrite fn _ => decide (fn < 16)
  | .flr fn => decide (fn < 19)
  | .hotReset => true
  | .hostLinkDown => true
  | .fundamentalReset => true
  | .bar4Read fn _ _ => decide (fn < 16)
  | .bar4Write fn _ _ => decide (fn < 16)
  | .hostReadCompletion fn tag status _ => decide (fn < 16 ∧ tag < 1024 ∧ status < 256)
  | .hostReadTimeout fn tag => decide (fn < 16 ∧ tag < 1024)
  | .hostTagQuarantineEnd fn tag => decide (fn < 16 ∧ tag < 1024)
  | .hbCtrlWrite fn _ => decide (fn < 19)
  | .hepHeartbeat fn => decide (fn < 16)
  | .driverLossExpiry fn _ => decide (fn < 19)
  | .nvmeSqTailDoorbell fn q _ => decide (fn < 16 ∧ q < 256)
  | .nvmeCqHeadDoorbell fn q _ => decide (fn < 16 ∧ q < 256)
  | .accelPairDoorbell port _ _ => decide (port < 8)
  | .intmsWrite fn _ => decide (fn < 16)
  | .intmcWrite fn _ => decide (fn < 16)
  | .ccEnClear fn => decide (fn < 16)
  | .ccShnSet fn shn => decide (fn < 16 ∧ shn < 4)
  | .createIoSq fn => decide (fn < 16)
  | .createIoCq fn => decide (fn < 16)
  | .deleteIoSq fn => decide (fn < 16)
  | .deleteIoCq fn => decide (fn < 16)
  | .getLogPage fn => decide (fn < 16)
  | .identify fn => decide (fn < 16)
  | .nvmeAbort fn => decide (fn < 16)
  | .setFeatures fn => decide (fn < 16)
  | .getFeatures fn => decide (fn < 16)
  | .asynchronousEventRequest fn => decide (fn < 16)
  | .firmwareImageDownload fn => decide (fn < 16)
  | .firmwareCommit fn _ _ _ => decide (fn < 16)
  | .createAccelQueuePair fn => decide (fn < 16)
  | .deleteAccelQueuePair fn => decide (fn < 16)
  | .nvmeRead c q => decide ((c < 16 ∨ 256 ≤ c ∧ c < 264) ∧ q < 256)
  | .nvmeWrite c q => decide ((c < 16 ∨ 256 ≤ c ∧ c < 264) ∧ q < 256)
  | .nvmeFlush c q => decide ((c < 16 ∨ 256 ≤ c ∧ c < 264) ∧ q < 256)
  | .writeZeroes c q => decide ((c < 16 ∨ 256 ≤ c ∧ c < 264) ∧ q < 256)
  | .datasetManagement c q => decide ((c < 16 ∨ 256 ≤ c ∧ c < 264) ∧ q < 256)
  | .overlapRelease => true
  | .driveCompletion drive tag _ _ _ => decide (drive < 4 ∧ tag < 1024)
  | .driveTimeout drive tag => decide (drive < 4 ∧ tag < 1024)
  | .driveResetDone drive => decide (drive < 4)
  | .driveLost drive _ => decide (drive < 4)
  | .driveReinsert drive _ => decide (drive < 4)
  | .driveTrainRetry drive _ => decide (drive < 4)
  | .replicaAck _ tag status _ => decide (tag < 1024 ∧ status < 256)
  | .replicaTimeout _ tag => decide (tag < 1024)
  | .replicaWrite _ _ => true
  | .replicaRebuildDone tenant _ _ => decide (tenant < 16)
  | .frameReceive port _ _ _ _ => decide (port < 32)
  | .pfcRepeat port prio => decide (port < 32 ∧ prio < 8)
  | .pfcFrameReceive port _ _ => decide (port < 32)
  | .pauseExpiry port prio => decide (port < 32 ∧ prio < 8)
  | .pcsAlignmentLoss port => decide (port < 32)
  | .frameParse _ => true
  | .laneProcess lane _ => decide (lane < 64)
  | .reorderSkip port => decide (port < 8)
  | .fragmentTimeout _ => true
  | .leafEnqueue _ => true
  | .transmitStart port _ => decide (port < 32)
  | .shaperRefill _ => true
  | .hwmRead offset => decide (offset < 2 ^ 32)
  | .create tenant => decide (tenant < 16)
  | .connect tenant _ => decide (tenant < 16)
  | .destroy tenant => decide (tenant < 16)
  | .rdmaWrite qpn => decide (qpn < 2 ^ 24)
  | .rdmaWriteWithImmediate qpn => decide (qpn < 2 ^ 24)
  | .rdmaSend qpn => decide (qpn < 2 ^ 24)
  | .rdmaSendWithImmediate qpn => decide (qpn < 2 ^ 24)
  | .rdmaRead qpn => decide (qpn < 2 ^ 24)
  | .inboundPacket _ _ => true
  | .ackReceive => true
  | .nakReceive => true
  | .rnrNakReceive => true
  | .holeTimeout qpn => decide (qpn < 2 ^ 24)
  | .ackTimeout qpn => decide (qpn < 2 ^ 24)
  | .cnpReceive => true
  | .rateRecovery qpn => decide (qpn < 2 ^ 24)
  | .windowOpen r => refOk r
  | .windowRevoke r => refOk r
  | .drainLimit window => decide (window < 2 ^ 20)
  | .targetConnect _ _ _ => true
  | .saInstall r => refOk r
  | .saRemove r => refOk r
  | .nsCreate r => refOk r
  | .nsDelete r => refOk r
  | .nsFormat r => refOk r
  | .getNonce src => msgOk src
  | .getStatus src => msgOk src
  | .selfTest src _ => msgOk src
  | .getDtkCert src => msgOk src
  | .zeroize src level _ _ => decide (level < 4) && msgOk src
  | .ownerRelease src _ _ => msgOk src
  | .debugUnlock src _ _ _ => msgOk src
  | .nonceExpiry _ => true
  | .environmentZeroize => true
  | .entropyTestFail _ => true
  | .drbgReseed => true
  | .maskRekey => true
  | .periodicSelfTest _ => true
  | .getVersion src => msgOk src
  | .getCapabilities src => msgOk src
  | .negotiateAlgorithms src => msgOk src
  | .getDigests src => msgOk src
  | .getCertificate src _ offset _ => decide (offset < 2 ^ 32) && msgOk src
  | .challenge src _ _ => msgOk src
  | .getMeasurements src _ _ => msgOk src
  | .gafMbPush core fifo _ => decide (fifo < 512) && core.all (· < 8)
  | .gafMbPop core fifo => decide (fifo < 512) && core.all (· < 8)
  | .gafMbCtrlWrite core fifo _ => decide (core < 8 ∧ fifo < 512)
  | .gafWdtKick core => decide (core < 8)
  | .watchdogExpiry core outcome _ fifos => decide (core < 8 ∧ outcome < 3) && fifos.all (· < 512)
  | .machineCheck core outcome _ fifos => decide (core < 8 ∧ outcome < 3) && fifos.all (· < 512)
  | .programFault core => decide (core < 8)
  | .tallyRead core => decide (core < 8)
  | .timerSet core => decide (core < 8)
  | .wait core _ => decide (core < 8)
  | .kernelCopy core => decide (core < 8)
  | .pktRecv core => decide (core < 8)
  | .pktSend core => decide (core < 8)
  | .pktReinject core => decide (core < 8)
  | .kernelSaInstall core => decide (core < 8)
  | .kernelSaRemove core => decide (core < 8)
  | .log core => decide (core < 8)
  | .exit core => decide (core < 8)
  | .alarmInterrupt core => decide (core < 8)
  | .supervisorSignal core => decide (core < 8)
  | .add core rd ra rb => decide (core < 8 ∧ rd < 32 ∧ ra < 32 ∧ rb < 32)
  | .sub core rd ra rb => decide (core < 8 ∧ rd < 32 ∧ ra < 32 ∧ rb < 32)
  | .and core rd ra rb => decide (core < 8 ∧ rd < 32 ∧ ra < 32 ∧ rb < 32)
  | .or core rd ra rb => decide (core < 8 ∧ rd < 32 ∧ ra < 32 ∧ rb < 32)
  | .xor core rd ra rb => decide (core < 8 ∧ rd < 32 ∧ ra < 32 ∧ rb < 32)
  | .sll core rd ra rb => decide (core < 8 ∧ rd < 32 ∧ ra < 32 ∧ rb < 32)
  | .srl core rd ra rb => decide (core < 8 ∧ rd < 32 ∧ ra < 32 ∧ rb < 32)
  | .sra core rd ra rb => decide (core < 8 ∧ rd < 32 ∧ ra < 32 ∧ rb < 32)
  | .slt core rd ra rb => decide (core < 8 ∧ rd < 32 ∧ ra < 32 ∧ rb < 32)
  | .sltu core rd ra rb => decide (core < 8 ∧ rd < 32 ∧ ra < 32 ∧ rb < 32)
  | .clz core rd ra => decide (core < 8 ∧ rd < 32 ∧ ra < 32)
  | .permr core rd ra rb => decide (core < 8 ∧ rd < 32 ∧ ra < 32 ∧ rb < 32)
  | .mul core rd ra rb => decide (core < 8 ∧ rd < 32 ∧ ra < 32 ∧ rb < 32)
  | .mulhs core rd ra rb => decide (core < 8 ∧ rd < 32 ∧ ra < 32 ∧ rb < 32)
  | .mulhu core rd ra rb => decide (core < 8 ∧ rd < 32 ∧ ra < 32 ∧ rb < 32)
  | .div core rd ra rb => decide (core < 8 ∧ rd < 32 ∧ ra < 32 ∧ rb < 32)
  | .divu core rd ra rb => decide (core < 8 ∧ rd < 32 ∧ ra < 32 ∧ rb < 32)
  | .rem core rd ra rb => decide (core < 8 ∧ rd < 32 ∧ ra < 32 ∧ rb < 32)
  | .remu core rd ra rb => decide (core < 8 ∧ rd < 32 ∧ ra < 32 ∧ rb < 32)
  | .addi core rd ra imm => decide (core < 8 ∧ rd < 32 ∧ ra < 32 ∧ imm < 65536)
  | .andi core rd ra imm => decide (core < 8 ∧ rd < 32 ∧ ra < 32 ∧ imm < 65536)
  | .ori core rd ra imm => decide (core < 8 ∧ rd < 32 ∧ ra < 32 ∧ imm < 65536)
  | .xori core rd ra imm => decide (core < 8 ∧ rd < 32 ∧ ra < 32 ∧ imm < 65536)
  | .slti core rd ra imm => decide (core < 8 ∧ rd < 32 ∧ ra < 32 ∧ imm < 65536)
  | .sltiu core rd ra imm => decide (core < 8 ∧ rd < 32 ∧ ra < 32 ∧ imm < 65536)
  | .lui core rd imm => decide (core < 8 ∧ rd < 32 ∧ imm < 65536)
  | .slli core rd ra imm => decide (core < 8 ∧ rd < 32 ∧ ra < 32 ∧ imm < 32)
  | .srli core rd ra imm => decide (core < 8 ∧ rd < 32 ∧ ra < 32 ∧ imm < 32)
  | .srai core rd ra imm => decide (core < 8 ∧ rd < 32 ∧ ra < 32 ∧ imm < 32)
  | .lb core rd base imm => decide (core < 8 ∧ rd < 32 ∧ base < 32 ∧ imm < 65536)
  | .lbu core rd base imm => decide (core < 8 ∧ rd < 32 ∧ base < 32 ∧ imm < 65536)
  | .lh core rd base imm => decide (core < 8 ∧ rd < 32 ∧ base < 32 ∧ imm < 65536)
  | .lhu core rd base imm => decide (core < 8 ∧ rd < 32 ∧ base < 32 ∧ imm < 65536)
  | .lw core rd base imm => decide (core < 8 ∧ rd < 32 ∧ base < 32 ∧ imm < 65536)
  | .ldp core rd base imm => decide (core < 8 ∧ rd < 32 ∧ base < 32 ∧ imm < 65536)
  | .sb core rs base imm => decide (core < 8 ∧ rs < 32 ∧ base < 32 ∧ imm < 65536)
  | .sh core rs base imm => decide (core < 8 ∧ rs < 32 ∧ base < 32 ∧ imm < 65536)
  | .sw core rs base imm => decide (core < 8 ∧ rs < 32 ∧ base < 32 ∧ imm < 65536)
  | .stp core rs base imm => decide (core < 8 ∧ rs < 32 ∧ base < 32 ∧ imm < 65536)
  | .beq core ra rb imm => decide (core < 8 ∧ ra < 32 ∧ rb < 32 ∧ imm < 65536)
  | .bne core ra rb imm => decide (core < 8 ∧ ra < 32 ∧ rb < 32 ∧ imm < 65536)
  | .blt core ra rb imm => decide (core < 8 ∧ ra < 32 ∧ rb < 32 ∧ imm < 65536)
  | .bge core ra rb imm => decide (core < 8 ∧ ra < 32 ∧ rb < 32 ∧ imm < 65536)
  | .bltu core ra rb imm => decide (core < 8 ∧ ra < 32 ∧ rb < 32 ∧ imm < 65536)
  | .bgeu core ra rb imm => decide (core < 8 ∧ ra < 32 ∧ rb < 32 ∧ imm < 65536)
  | .j core imm => decide (core < 8 ∧ imm < 2 ^ 26)
  | .jal core imm => decide (core < 8 ∧ imm < 2 ^ 26)
  | .jalr core rd ra imm => decide (core < 8 ∧ rd < 32 ∧ ra < 32 ∧ imm < 65536)
  | .bfx core rd ra lsb width _ => decide (core < 8 ∧ rd < 32 ∧ ra < 32 ∧ lsb < 32 ∧ width < 33)
  | .bfi core rd ra lsb width => decide (core < 8 ∧ rd < 32 ∧ ra < 32 ∧ lsb < 32 ∧ width < 33)
  | .perm core rd ra sel => decide (core < 8 ∧ rd < 32 ∧ ra < 32 ∧ sel < 4096)
  | .rep core _ _ ra count => decide (core < 8 ∧ ra < 32 ∧ count < 65536)
  | .repi core _ _ ra count _ => decide (core < 8 ∧ ra < 32 ∧ count < 65536)
  | .trap core code => decide (core < 8 ∧ code < 65536)
  | .eret core => decide (core < 8)
  | .mfs core rd index => decide (core < 8 ∧ rd < 32 ∧ index < 32)
  | .mts core ra index => decide (core < 8 ∧ ra < 32 ∧ index < 32)
  | .fence core => decide (core < 8)
  | .waiti core => decide (core < 8)
  | .setPower src _ _ _ _ => msgOk src
  | .sleepCalibrationDone _ _ => true
  | .autoTrim => true
  | .p1WorkWake => true
  | .wakeNLow _ => true
  | .sidebandAddressMatch _ _ => true
  | .hostActivityWake _ => true
  | .sleepAlarm _ => true
  | .getPower src => msgOk src
  | .setAlarm src _ => msgOk src
  | .resetWarm src => msgOk src
  | .resetCold src => msgOk src
  | .tripClear src => msgOk src
  | .faultLogRead src offset => decide (offset < 2 ^ 32) && msgOk src
  | .telemetryRead src _ _ => msgOk src
  | .registerWindowRead offset => decide (offset < 2 ^ 32)
  | .registerWindowWrite offset _ _ => decide (offset < 2 ^ 32)
  | .entdaa _ => true
  | .setdasa _ => true
  | .rstdaa => true
  | .enec => true
  | .disec => true
  | .getpid => true
  | .getbcr => true
  | .getdcr => true
  | .getstatus => true
  | .setmwl _ => true
  | .getmwl => true
  | .setmrl _ => true
  | .getmrl => true
  | .alertResponseAddress => true
  | .clearUncertain core => decide (core < 8)
  | .paceControlTick _ => true
  | .tallyCalibration _ _ => true
  | .sensorSample _ => true
  | .sensorRecord => true
  | .counterSnapshot => true
  | .aodWatchdogExpiry _ => true
  | .imageBegin src bank _ => decide (bank < 2) && msgOk src
  | .imageData src offset _ => decide (offset < 2 ^ 32) && msgOk src
  | .imageEnd src => msgOk src
  | .imageActivate src bank _ _ => decide (bank < 2) && msgOk src
  | .fwStatus src => msgOk src
  | .fwActivate r _ _ _ => refOk r
  | .trialConfirm => true
  | .faultEntry => true
  | .portLinkUp port => decide (port < 32)
  | .hepPerstNRelease => true
  | .hostLinkUp => true
  | .modRstNRelease => true
  | .ccEnSet fn _ => decide (fn < 16)
  | .driveResetTimeout drive => decide (drive < 4)
  | .aodPowerLoss => true
  | .flashProgramOrEraseDone => true
  | .illegalInstruction core => decide (core < 8)
  | .jtagTckEdge _ _ _ => true
  | .reportUnanswered suspect => decide (suspect < 16384)
  | .rnrDelayExpiry qpn => decide (qpn < 2 ^ 24)
  | .pmStateWrite fn _ => decide (fn < 16)

end Sys2Proof
end

