-- ==== Sys2Proof/Tests/Slice0.lean ====
section
/-! SUPPORT. The package's own tests: ill-formed commands that WellFormed refuses, words of the worked examples of spec/18, single steps, and states that meet the hypotheses of the statements. -/

namespace Sys2Proof.Tests

open Sys2Proof Sys2Proof.Machine

/-! ## WellFormed: an ill-formed command for each kind of check -/

theorem test_wf_refuses_references : (Instr.copy ⟨19, 0, 0⟩).wf = false ∧ (Instr.copy ⟨0, 256, 0⟩).wf = false ∧
    (Instr.take (some ⟨19, 0, 0⟩)).wf = false ∧ (Instr.getNonce (.vdm 16)).wf = false ∧
    (Instr.registerWrite (.core 8) 0 0 0).wf = false ∧ (Instr.registerWrite (.fn 16) 0 0 0).wf = false := by decide

theorem test_wf_refuses_supply_and_fabric : (Instr.aodPowerOn 44000 4 0 0 0).wf = false ∧ (Instr.linkFlitReplay 8 true).wf = false ∧
    (Instr.bridgeEntryOverflow 248).wf = false ∧ (Instr.patrolScrub 8 []).wf = false ∧ (Instr.paneWithdraw (2 ^ 23)).wf = false ∧
    (Instr.selfRefreshEnter 0 4 true).wf = false ∧ (Instr.memCtrlWrite 8 0 0).wf = false := by decide

theorem test_wf_refuses_queues : (Instr.queueEnable 0 256 0).wf = false ∧ (Instr.syncCounterWrite 0 4096 0).wf = false ∧
    (Instr.workUnitDone 128 0 0).wf = false ∧ (Instr.modelFetchDone 0 65536).wf = false := by decide

theorem test_wf_refuses_job : (Instr.startBarrierDigest 16384 [] []).wf = false ∧ (Instr.intakeToken 32 []).wf = false ∧
    (Instr.manifestAck 0 (2 ^ 64)).wf = false ∧ (Instr.discard 0 0 256).wf = false ∧ (Instr.suspicionTimeout 16384).wf = false ∧
    (Instr.heartbeat 0 (2 ^ 32)).wf = false := by decide

theorem test_wf_refuses_ports : (Instr.powerFault 8).wf = false ∧ (Instr.hostReadTimeout 0 1024).wf = false ∧
    (Instr.ccShnSet 0 4).wf = false ∧ (Instr.nvmeRead 16 0).wf = false ∧ (Instr.driveResetDone 4).wf = false ∧
    (Instr.pauseExpiry 32 0).wf = false ∧ (Instr.pauseExpiry 0 8).wf = false ∧ (Instr.rnrDelayExpiry (2 ^ 24)).wf = false ∧
    (Instr.drainLimit (2 ^ 20)).wf = false := by decide

theorem test_wf_refuses_cores : (Instr.add 8 0 0 0).wf = false ∧ (Instr.add 0 32 0 0).wf = false ∧ (Instr.slli 0 1 1 32).wf = false ∧
    (Instr.addi 0 1 1 65536).wf = false ∧ (Instr.jal 0 (2 ^ 26)).wf = false ∧ (Instr.perm 0 1 1 4096).wf = false ∧
    (Instr.mfs 0 1 32).wf = false ∧ (Instr.gafMbPush (some 8) 0 0).wf = false ∧ (Instr.gafMbPush none 512 0).wf = false := by decide

/-! ## DV32: words written out in spec/18 -/

/-- The word of the first worked example of R484. -/
theorem test_bfx_word : Dv.decode 0xA0A642E0#32 = some (.bfx 5 6 8 12 true) := by decide

/-- The two words of the worked example of R489. -/
theorem test_repi_words : Dv.decode 0xC5004000#32 = some (.rep true false true 0 16384) ∧ Dv.decode 0x50090000#32 = some (.store .sw 0 9 0) := by decide

/-- R477: a nonzero field marked zero is no instruction. -/
theorem test_nonzero_field_refused : Dv.decode 0b111111_00000_00001_0000000000_000010#32 = none := by decide

/-! ## DV32: a core with one instruction at address 0, and single steps on the worked examples of R484 -/

/-- Core `c` runs, holds `g` in g5 to g7, and its SRAM holds the words from address 0. -/
def coreWith (c : Nat) (g : Tbl W32) (psr : W32) (ws : List W32) : State :=
  { gaf := { cores := [(c, Core.poke { running := true, g := g, psr := psr } 0 (ws.flatMap fun w => natLe w.toNat 4))] } }

/-- The state a command leaves; the given one where it leaves none. -/
def after (i : Instr) (s : State) : State := match exec i s with | .next t => t | _ => s

/-- Register `r` of core 6 after command `i`, which stands at its pc as `d`. -/
def regAfter (i : Instr) (d : Dv) (g : Tbl W32) (r : Nat) : W32 := ((after i (coreWith 6 g 0 [d.encode])).core 6).reg r

theorem test_bfx : regAfter (.bfx 6 5 6 8 12 true) (.bfx 5 6 8 12 true) [(6, 0x89ABCDEF#32)] 5 = 0xFFFFFBCD#32 := by decide
theorem test_bfi : regAfter (.bfi 6 7 6 4 8) (.bfi 7 6 4 8) [(6, 0x89ABCDEF#32), (7, 0xFFFFFFFF#32)] 7 = 0xFFFFFEFF#32 := by decide
theorem test_clz : regAfter (.clz 6 8 5) (.reg .clz 8 5 0) [(5, 0x00000BCD#32)] 8 = 20#32 := by decide
theorem test_perm : regAfter (.perm 6 5 6 0x053) (.perm 5 6 0x053) [(6, 0x89ABCDEF#32)] 5 = 0xEFCDAB89#32 := by decide
theorem test_perm_join : regAfter (.perm 6 5 6 0xB08) (.perm 5 6 0xB08) [(5, 0x11223344#32), (6, 0x89ABCDEF#32)] 5 = 0x3344CDEF#32 := by decide
theorem test_div_by_zero : regAfter (.div 6 5 6 7) (.reg .div 5 6 7) [(6, 9#32)] 5 = 0xFFFFFFFF#32 := by decide
theorem test_div_overflow : regAfter (.div 6 5 6 7) (.reg .div 5 6 7) [(6, 0x80000000#32), (7, 0xFFFFFFFF#32)] 5 = 0x80000000#32 := by decide

/-! ## The hypotheses of the statements are met -/

/-- RegisterInstructions: every instruction it names can stand at the pc of a running core. -/
theorem witness_register_instructions : ∀ d ∈ [Dv.reg .add 5 6 7, .reg .sub 5 6 7, .reg .and 5 6 7, .reg .or 5 6 7, .reg .xor 5 6 7,
    .reg .sll 5 6 7, .reg .srl 5 6 7, .reg .sra 5 6 7, .reg .slt 5 6 7, .reg .sltu 5 6 7, .reg .clz 5 6 0, .reg .permr 5 6 7,
    .bfx 5 6 31 1 false, .bfx 5 6 0 32 true, .bfi 5 6 0 32, .perm 5 6 4095], Runs (coreWith 0 [(6, 9#32)] 0 [d.encode]) 0 d := by
  unfold Runs; decide

/-- MultiplyDivide. -/
theorem witness_multiply_divide : ∀ d ∈ [Dv.reg .mul 5 6 7, .reg .mulhs 5 6 7, .reg .mulhu 5 6 7, .reg .div 5 6 7, .reg .divu 5 6 7,
    .reg .rem 5 6 7, .reg .remu 5 6 7], Runs (coreWith 7 [(6, 9#32)] 0 [d.encode]) 7 d := by
  unfold Runs; decide

/-- ImmediateAndControl, its jump to an aligned and to a misaligned address among them. -/
theorem witness_immediate_and_control : (∀ d ∈ [Dv.imm .addi 5 6 65535, .imm .andi 5 6 1, .imm .ori 5 6 1, .imm .xori 5 6 1,
    .imm .slti 5 6 1, .imm .sltiu 5 6 1, .imm .slli 5 6 31, .imm .srli 5 6 31, .imm .srai 5 6 31, .imm .lui 5 0 1, .br .beq 5 6 1,
    .br .bne 5 6 1, .br .blt 5 6 1, .br .bge 5 6 1, .br .bltu 5 6 1, .br .bgeu 5 6 1, .j 1, .jal 1, .jalr 5 6 0, .jalr 5 6 1],
      Runs (coreWith 0 [(6, 8#32)] 0 [d.encode]) 0 d) ∧
    (8#32 + (BitVec.ofNat 16 0).signExtend 32).toNat % 4 = 0 ∧ (8#32 + (BitVec.ofNat 16 1).signExtend 32).toNat % 4 ≠ 0 := by
  unfold Runs; decide

/-- SramAccess: loads and stores that may act, at the top of SRAM; a misaligned word and pair; an address outside every range. -/
theorem witness_sram_access :
    (∀ f ∈ [Ld.lb, .lbu, .lh, .lhu, .lw, .ldp], let s := coreWith 0 [(6, 0x3FFF8#32)] 0 [(Dv.load f 4 6 0).encode]
      Runs s 0 (.load f 4 6 0) ∧ s.dataCheck 0 false 0x3FFF8 f.size = 0) ∧
    (∀ f ∈ [St.sb, .sh, .sw, .stp], let s := coreWith 0 [(6, 0x3FFF8#32)] 0 [(Dv.store f 4 6 0).encode]
      Runs s 0 (.store f 4 6 0) ∧ s.dataCheck 0 true 0x3FFF8 f.size = 0) ∧
    (let s := coreWith 0 [(6, 2#32)] 0 [(Dv.load .lw 4 6 0).encode]; Runs s 0 (.load .lw 4 6 0) ∧ s.dataCheck 0 false 2 4 = 3) ∧
    (let s := coreWith 0 [(6, 4#32)] 0 [(Dv.store .stp 4 6 0).encode]; Runs s 0 (.store .stp 4 6 0) ∧ s.dataCheck 0 true 4 8 = 3) ∧
    (let s := coreWith 0 [(6, 0x40000#32)] 0 [(Dv.load .lb 4 6 0).encode]; Runs s 0 (.load .lb 4 6 0) ∧ s.dataCheck 0 false 0x40000 1 = 7) := by
  unfold Runs; decide

/-- RepeatPrefixes: REP and REPI before ADDI, without an interrupt and with a pending alarm. -/
theorem witness_repeat_prefixes : ∀ t ∈ [true, false],
    (let s := coreWith 0 [(5, 1#32)] 0 [(Dv.rep t false false 0 3).encode, (Dv.imm .addi 5 5 2).encode];
      Runs s 0 (.rep t false false 0 3) ∧ (s.core 0).afterEret = false ∧ s.fetchCheck 0 ((s.core 0).pc + 4#32) = 0 ∧
      Dv.decode ((s.core 0).word ((s.core 0).pc + 4#32)) = some (.imm .addi 5 5 2) ∧ (s.core 0).pendingCause = none) ∧
    (let s := (coreWith 0 [(5, 1#32)] 2 [(Dv.rep t false false 0 3).encode, (Dv.imm .addi 5 5 2).encode]).modCore 0 (fun k => { k with alarmPend := true });
      Runs s 0 (.rep t false false 0 3) ∧ (s.core 0).alarmPend = true ∧ (s.core 0).ie = true ∧
      Dv.decode ((s.core 0).word ((s.core 0).pc + 4#32)) = some (.imm .addi 5 5 2)) := by
  unfold Runs; decide

/-- SystemAndInterrupts: kernel mode, user mode where the MPU lets the fetch through (a core without MPU), and an illegal word. -/
theorem witness_system_and_interrupts :
    (∀ d ∈ [Dv.trap 7, .eret, .mfs 5 7, .mts 5 5, .fence, .waiti], Runs (coreWith 0 [] 0 [d.encode]) 0 d) ∧
    (∀ d ∈ [Dv.eret, .waiti, .mts 5 5], Runs (coreWith 0 [] 1 [d.encode]) 0 d ∧ ((coreWith 0 [] 1 [d.encode]).core 0).user = true) ∧
    Runs (coreWith 0 [] 0 [(Dv.mfs 5 8).encode]) 0 (.mfs 5 8) ∧
    (let s := coreWith 0 [] 2 [0xFC000007#32]; (s.core 0).live = true ∧ s.fetchCheck 0 0 = 0 ∧ dvRegion 0 0 ≠ 2 ∧
      Dv.decode ((s.core 0).word 0) = none ∧ (s.core 0).ie = true) := by
  unfold Runs; decide

/-- MailboxFifos: an empty FIFO, and a full one of core 0. -/
theorem witness_mailbox_fifos : reachesFifo 0 0 = true ∧ (({} : State).fifo 0).entries = [] ∧ mayCtrl 0 0 = true ∧
    32 ≤ ((({} : State).modFifo 0 (fun x => { x with entries := List.replicate 32 1 })).fifo 0).entries.length := by decide

/-- A device whose input has risen with MOD_EN high. -/
def powered : State := after (.aodPowerOn 44000 0 1 0 0) { sup := { modEn := true } }

/-- InhibitCauses, ThermalProtection, LimitsOnlyFall, SidebandCommands and PowerOnAndResets: the AOD and the main rails are up. -/
theorem witness_powered : powered.sup.aodUp = true ∧ powered.sup.pwrgd = true ∧ (powered.sup.rails.getD 8 {}).on = true ∧
    powered.sup.tripLatched = false ∧ powered.sup.inhibit = true ∧ powered.sup.railsOk = true ∧ powered.heard .sideband = true ∧
    State.reset.sup.aodUp = false := by decide

/-- SupplyRecovery: a lockout and a cut-off in force with MOD_EN high, and MOD_EN low. -/
theorem witness_supply_recovery : (after (.undervoltageLockout 34000) powered).sup.lockout = true ∧
    (after (.undervoltageLockout 34000) powered).sup.cutoff = false ∧ (after (.overvoltageCutOff 56001) powered).sup.cutoff = true ∧
    (after (.overvoltageCutOff 56001) powered).sup.lockout = false ∧ (after .modEnFall powered).sup.modEn = false := by decide

/-- ThermalProtection: throttling under way. -/
theorem witness_throttling : (after (.junctionThrottle 105) powered).sup.throttling = true ∧
    (after (.junctionThrottle 105) powered).sup.lowering = true := by decide

/-- LimitsOnlyFall: a value that lowers every field, in range. -/
theorem witness_lower_limits : let v := w32 (pack [(0, 100), (8, 110), (16, 800), (26, 30)])
    field v 0 8 = 100 ∧ field v 8 8 = 110 ∧ field v 16 10 = 800 ∧ field v 26 6 = 30 ∧
    (after (.aodLimitCtrlWrite v) powered).sup.limitCtrl = v := by decide

/-- HostAwake, of QueueControl, HostWindows and HostDriverAndResets: PF0 with memory space enabled on a link that is up. -/
theorem witness_host_awake : HostAwake { hep := { released := true, linkUp := true, fns := [(0, { mse := true })] } } 0 := by
  unfold HostAwake; decide

/-- FaultLogEntries: a report on its way while the supervisor runs. -/
theorem witness_fault_entry : let s : State := { boot := { supervisor := true }, log := { reports := [{ source := 0x10, severity := 2 }] } }
    s.log.reports = [{ source := 0x10, severity := 2 }] ∧ s.coreRestarting 0 = false ∧ s.boot.supervisor = true := by decide

/-- MemoryCanonical: the state after reset meets its premise, and a step from it answers a next state. -/
theorem witness_memory_canonical : Mem.wf 0 State.reset.fab.hbm = true ∧ Mem.wf 0xFF State.reset.fl.mem = true ∧
    Mem.wf 0 (State.reset.core 0).sram = true := by decide

/-- A lockout takes the main rails down and asserts the inhibit (R16, R22). -/
theorem test_lockout : (after (.undervoltageLockout 34000) powered).sup.pwrgd = false ∧
    (after (.undervoltageLockout 34000) powered).sup.inhibit = true := by decide

/-! ## The hypotheses of the statements about the units are met -/

/-- A body with the fields (offset, bytes, value). -/
def body (fs : List (Nat × Nat × Nat)) : Bytes :=
  (seqFrom 0 64).map fun i => BitVec.ofNat 8 (((fs.find? fun f => decide (f.1 ≤ i ∧ i < f.1 + f.2.1)).map fun f => f.2.2 / 256 ^ (i - f.1)).getD 0)

/-- The command with handle 7, an opcode and body fields. -/
def cmdOf (op : Nat) (fs : List (Nat × Nat × Nat)) : Cmd := { handle := 7, bytes := body ((0, 1, op) :: fs) }

/-- Where that command runs: queue 0 of PF0. -/
def ref0 : CmdRef := ⟨0, 0, 7⟩

/-- The command runs on queue 0 of PF0, a queue of the engine with rings of 64. -/
def running (e : Nat) (c : Cmd) (s : State) : State :=
  s.modQueue 0 0 fun u => { u with ctrl := w32 (pack [(0, 1), (1, e), (4, 6), (9, 6)]), state := .running, running := [c] }

/-- A profile of one section with its records of 4 bytes (key, value). -/
def profileOf (typ inst : Nat) (recs : List (Nat × Nat)) : Bytes :=
  zeros 0x34 ++ natLe 0x40 4 ++ natLe 1 2 ++ zeros 6 ++ natLe typ 2 ++ natLe inst 2 ++ natLe 0x50 4 ++ natLe (8 * recs.length) 4 ++ zeros 4 ++
    recs.flatMap fun r => natLe r.1 2 ++ natLe 4 2 ++ natLe r.2 4

/-- The state with that profile applied. -/
def withProfile (typ inst : Nat) (recs : List (Nat × Nat)) (s : State) : State :=
  { s with boot := { s.boot with profile := profileOf typ inst recs } }

/-- A state in which the start sequence is over and the host link is up. -/
def awake : State :=
  { sup := { aodUp := true, modEn := true, pwrgd := true }, boot := { supervisor := true },
    hep := { released := true, linkUp := true, perstLow := false, fns := [(0, { mse := true, bme := true })] } }

/-- Offset 0 of tenant 0 lies in pane 5, with both rights. -/
def mapped0 : Fabric := { panes := [(0, [(0, { phys := 5, read := true, write := true })])], placed := [(5, 0)] }

/-- BootAndFormation: a start with a failed self-test and one with FLASH_RECOVER; a member of two that waits, and a lead. -/
theorem witness_boot_and_formation :
    (({ boot := { pendingStart := true } } : State).boot.pendingStart = true) ∧
    (({ sup := { straps := { recover := 1 } } } : State).sup.straps.recover = 1) ∧
    (let s := withProfile 2 0 [(1, 4)] { boot := { supervisor := true, memberWait := true }, apt := { ports := [(3, { cohort := true })] } };
      (s.port 3).cohort = true ∧ s.prof 2 0 1 1 = 4 ∧ 3 ≠ s.sup.straps.cohortId ∧ s.sup.straps.cohortId = 0 ∧ s.boot.members.contains 3 = false) ∧
    (let s : State := { sup := { straps := { cohortId := 1 } }, boot := { supervisor := true, memberWait := true }, apt := { ports := [(3, { cohort := true })] } };
      s.sup.straps.cohortId ≠ 0 ∧ (s.port 3).cohort = true) := by decide

/-- FabricAndScrub: the last lane of a powered device, a powered and an unpowered domain, and a scrub of an erroneous block. -/
theorem witness_fabric_and_scrub :
    (awake.fab.linkRun.getD 7 0 ≠ 15) ∧ awake.domainPowered 0 = true ∧ awake.domainPowered 16 = false ∧
    (let v := w32 (pack [(0, 168), (8, 1)]); 6 ≤ field v 0 8 ∧ field v 0 8 ≤ 168 ∧ field v 9 23 = 0) ∧
    (let s : State := { fab := { ctrls := [(7, { trained := true })], bad := [7 * 1073741824] } };
      bitOf s.fab.scrubCtrl 8 = true ∧ (s.fab.ctrl 7).trained = true ∧ s.pwr.state ≠ .p2 ∧ (s.fab.ctrl 7).scrubNext + 1 < 1073741824 ∧
      s.fab.bad.contains (7 * 68719476736 / 64) = true) := by decide

/-- WithdrawalAndSnapshotHooks: a candidate nothing owns, a write below the end of memory, and one on an armed pane. -/
theorem witness_withdrawal_and_snapshot_hooks :
    (let s : State := { sup := { inhibit := true }, fab := { candidates := [9] } };
      s.fab.candidates.contains 9 = true ∧ s.fab.armed 9 = false ∧ s.fab.scope.contains 9 = false ∧ s.fab.placed.find? 9 = none) ∧
    (let s : State := {};
      s.pwr.state ≠ .p2 ∧ (s.fab.ctrl (stackOf 549755813887)).held.length < 256 ∧ s.fab.armed (paneOf 549755813887) = false ∧
      s.fab.badPartial 549755813887 1 = false) ∧
    (let s : State := { fab := { scope := [0], parity := true } }; s.fab.armed (paneOf 0) = true ∧ (s.fab.ctrl (stackOf 0)).held.length < 256) := by decide

/-- RecordsAndFlow: a running command, a slot to fetch, a command that may start, and one with an unknown opcode. -/
theorem witness_records_and_flow :
    (running 4 (cmdOf 1 []) awake).cmd? ref0 = some (cmdOf 1 []) ∧ awake.ioRuns = true ∧ awake.asleep = false ∧ awake.pwr.state = .p0 ∧
    (let s := (running 4 (cmdOf 1 []) { awake with fab := mapped0 }).modQueue 0 0 fun u => { u with tail := 1, sqBase := 0x2000000000000000 };
      s.fetchable 0 0 = true) ∧
    (let s := (running 4 (cmdOf 2 []) awake).modQueue 0 0 fun u => { u with fetched := [cmdOf 1 []], running := [] };
      (cmdOf 1 []).fences (s.queue 0 0).engine = false ∧ (cmdOf 1 []).waits = false ∧
      headerBad (s.queue 0 0).engine (field s.con.fnContract 0 8) (cmdOf 1 []) = none ∧ s.alone = false ∧
      (opcodes (s.queue 0 0).engine).any (fun o => o.1 = (cmdOf 0xFF []).opcode) = false) := by decide

/-- QueueControl: queues disabled, running and idle, with tails at the edges of the doorbell's range. -/
theorem witness_queue_control : (awake.queue 0 255).state = .disabled ∧
    (let u := ((running 4 (cmdOf 1 []) awake).modQueue 0 0 fun u => { u with running := [] }).queue 0 0;
      u.state = .running ∧ u.fetched = [] ∧ u.running = [] ∧ (64 + 4294967296 - u.sqHead) % 4294967296 ≤ 2 ^ u.sqLog ∧
      2 ^ u.sqLog < (65 + 4294967296 - u.sqHead) % 4294967296) ∧
    awake.log.waiters = [] ∧ awake.recordWaits 0 0 = false ∧ HostAwake awake 0 := by
  unfold HostAwake; decide

/-- HostReads: a read that a command awaits, one the gate discards, and a tag in quarantine. -/
theorem witness_host_reads : awake.cfgLive 0 = true ∧
    (let x : ExtRead := { tag := 1, fn := 0, owner := .cmd 0 0 7, addr := 64, len := 4 };
      let s := running 4 (cmdOf 1 []) { awake with hep := { awake.hep with reads := [x] } };
      s.hep.read? 0 1 = some x ∧ x.discard = false ∧ s.awaits x.owner = true) ∧
    (let x : ExtRead := { tag := 1, fn := 0, owner := .unit 0, addr := 64, len := 4, discard := true };
      let s : State := { awake with hep := { awake.hep with reads := [x] } };
      s.hep.read? 0 1 = some x ∧ x.discard = true) ∧
    (let s : State := { awake with hep := { awake.hep with quarantine := [(1, 0)] } };
      s.hep.read? 0 1 = none ∧ s.hep.quarantine.contains (1, 0) = true) := by decide

/-- ImageCommands: the sideband is heard, no transfer runs; and one runs in order. -/
theorem witness_image_commands : let s : State := { awake with sup := { awake.sup with aodUp := true } }
    s.imageHeard .sideband = true ∧ s.imageHost = true ∧ 1 ≠ s.lockedBank ∧ s.boot.transfer = none ∧ s.boot.activation = none ∧
    (let x : Transfer := { bank := 1, next := 0, total := some 4, manifestOk := false, path := 1, image := [] };
      let v : State := { s with boot := { s.boot with transfer := some x } };
      v.sbTransfer = some x ∧ v.fl.idle = true) := by decide

/-- FirmwareActivation: bank B in trial and bad, named by a running FW_ACTIVATE for the next start; a trial under way. -/
theorem witness_firmware_activation :
    (let c := cmdOf 0x41 [(0x10, 1, 1), (0x11, 1, 2)];
      Started (running 5 c awake) ref0 5 0x41 [(0x10, 1), (0x11, 1), (0x14, 4), (0x18, 8)] c ∧ c.byte 0x10 = 1 ∧ c.byte 0x11 = 2 ∧
      c.fld 0x14 4 = 0 ∧ c.fld 0x18 8 = 0 ∧ c.prog = []) ∧
    (∀ b ∈ [BankState.trial, .valid, .empty, .bad], ({ bankB := b } : Dir).bank 1 = b) := by
  unfold Started; decide

/-- TalliesAndSensors: core 5 restarting and not. -/
theorem witness_tallies_and_sensors : tallySources.contains 0x10 = true ∧ awake.coreRestarting 5 = false ∧ awake.sup.aodUp = true ∧
    (let s : State := { gaf := { cores := [(5, { restarting := true })] } }; s.coreRestarting 5 = true) := by decide

/-- KernelServices: a program of core 6 at a kernel call, in user mode with a data region. -/
theorem witness_kernel_services : ∀ n ∈ [0x01, 0x02, 0x03, 0x10, 0x20, 0x21, 0x22, 0x30, 0x31, 0x40, 0x50],
    let s := (coreWith 6 [] 1 [(Dv.kcall n).encode]).modCore 6 fun k =>
      { k with
        program := true, g := [(2, 0x100#32), (3, 64#32)], mpuBase := [(0, 0)], mpuLimit := [(0, 0x1000)], mpuAttr := [(0, 0xF)] }
    s.atKcall 6 n = true ∧ (s.core 6).buffer true 0x100 64 = true ∧ (withProfile 0xC 0 [(7, 0)] s).prof 0xC 0 7 1 ≠ 1 := by decide

/-- Started: a command of each engine as it runs, with nothing in its body. -/
theorem witness_started : ∀ x ∈ [(1, 4), (2, 4), (3, 1), (4, 1), (5, 0x5F)],
    Started (running x.1 (cmdOf x.2 []) awake) ref0 x.1 x.2 [] (cmdOf x.2 []) := by
  unfold Started; decide

/-- ServiceSettings: a tenant setting with a bad field; a range of one pane that is not mapped, and one that is; a write to mapped memory. -/
theorem witness_service_settings : awake.settingGoesOn ref0 = false ∧ (awake.tenantSetBad (cmdOf 0x10 [(0x11, 1, 1), (0x18, 8, 5)])).isSome = true ∧
    (let s : State := { awake with fab := mapped0 };
      (s.paneArgs 0 (cmdOf 0x13 [(0x18, 8, 65536), (0x20, 8, 65536)])).toOption = some (0, 65536, 1) ∧ s.fab.mappedIn 0 65536 1 = [] ∧
      s.fitsQuota 0 65536 = true ∧ s.fab.noneHeld = true ∧ (s.fab.mappedIn 0 0 1).any (·.forJob) = false ∧ (s.writeC 0 0 (zeros 64)).toBool = true) := by decide

/-- ServiceDiagnostics: a register and a FIFO read, a wait for an entry that has not come, an entry read, telemetry at its cursor. -/
theorem witness_service_diagnostics :
    (let s : State := { awake with fab := mapped0 };
      s.regRead 0x4 4 = some 0 ∧ s.regRead 0xF 4 = none ∧ (s.writeC 0 0 (natLe 0 4)).toBool = true ∧ s.log.waiters.contains ref0 = false ∧
      (cmdOf 0x50 [(0x28, 4, 64)]).fld 0x20 8 = s.log.count ∧ s.tel.oldest ≤ 0 ∧ 0 ≤ s.tel.cursor ∧ s.coreRestarting 0 = false) ∧
    (let s : State := { log := { count := 1, entries := [zeros 64] } }; s.log.entries.getLast? = some (zeros 64) ∧ s.log.entries.length ≤ s.log.count) ∧
    (awake.tenantArg 0 0x10 (cmdOf 0x23 [])).toOption = some 0 ∧
    (let s : State := { mrv := { saIn := [(3, { tenant := 0, spi := 1, flags := 0, dst := [], handle := 1 })] } }; (s.mrv.saIn.find? 3).map (·.tenant) = some 0) := by
  decide

/-- RegistersAndRestarts: a running core, a live function's registers. -/
theorem witness_registers_and_restarts : awake.ioRuns = true ∧ awake.fnLive 0 = true ∧
    (let s : State := { gaf := { cores := [(5, { running := true })] } };
      (s.core 5).running = true ∧ (s.core 5).halted = false ∧ (s.core 5).restarting = false ∧ s.coreRestarting 5 = false) := by decide

/-- MoverCommands: the last byte and the whole of a mapped pane. -/
theorem witness_mover_commands : let s : State := { awake with fab := mapped0 }
    65535 % 65536 + 1 ≤ 65536 ∧ (s.fab.translate 0 65535 true).toOption = some (6 * 65536 - 1) ∧ (s.fab.translate 0 0 true).toOption = some (5 * 65536) ∧
    s.fab.bad = [] ∧ (s.fab.ctrl (stackOf (5 * 65536))).held.length < 256 ∧ s.fab.armed 5 = false := by decide

/-- A model of 16 granules resident in quarter 3. -/
def model1 : Model := { tenant := 0, id := 1, bytes := 4096, granules := 16, seats := [(3, 16)], bench := [0] }

/-- ModelResidency: a tenant with and without quarters, a resident model, one in its fetch, seats to migrate to, a quarter that changes owner. -/
theorem witness_model_residency : awake.quartersOf 0 ≠ [] ∧ awake.quartersOf 1 = [] ∧ awake.model? 0 1 = none ∧ awake.fitsQuota 0 65536 = true ∧
    (let s : State := { ten := { models := [model1] } };
      s.model? 0 1 = some model1 ∧ model1.resident = true ∧ model1.evicts = [] ∧ model1.fetching = false ∧ s.modelUnits 0 1 = false ∧ s.modelRuns 0 1 = false ∧
      s.fetchWaiters 0 1 = [] ∧ (([(4, 16)] : List (Nat × Nat)).map (·.2)).sum = model1.granules ∧ Profile.distinct [4] = true ∧
      s.granulesIn 4 - model1.inQuarter 4 + 16 ≤ 16 ∧ (s.quarter 4).owner = 0 ∧ (s.quarter 4).moving = none) ∧
    (let s : State := { ten := { quarters := [(9, { moving := some 2 })] } };
      (s.quarter 9).moving = some 2 ∧ (s.quarter 9).work = none ∧ (s.quarter 9).helps = none) := by decide

/-- TensorRuns: a checked product that may run on quarters 0 and 1 of a ready die, alone and as a gang. -/
theorem witness_tensor_runs : let c : Cmd := { cmdOf 0x10 [] with prog := [1, 8, 0, 0, 0] }
    let s := { running 1 c awake with ten := { ready := 1 } }
    s.cmd? ref0 = some c ∧ (s.queue 0 0).engine = 1 ∧ c.opcode ≠ 4 ∧ s.mayRun ref0 c 0 = true ∧ s.mayRun ref0 c 1 = true ∧ s.turnOf ref0 0 = true ∧
    s.takenRows ref0 c = [] ∧ s.quartersOf 0 ≠ [] := by decide

/-- A member table of `n` ranks, generation 1, recorder 0 and standby 1, each rank eligible and in a failure domain of its own. -/
def tableOf (n : Nat) : Bytes :=
  ascii "RMBT" ++ natLe 1 2 ++ natLe 64 2 ++ natLe n 4 ++ natLe 1 4 ++ natLe 0 4 ++ natLe 1 4 ++ zeros 40 ++
    (seqFrom 0 n).flatMap fun r => natLe (r + 1) 16 ++ natLe (r + 1) 16 ++ natLe (r + 1) 4 ++ natLe (r + 1) 4 ++ natLe (r + 1) 4 ++ natLe (r + 1) 4 ++
      natLe r 4 ++ [1] ++ zeros 11

/-- A member of rank `r` of a job of four that runs, of 1,024 parameters, with bucket 2 of contributor 0 and layer group 5. -/
def member (r : Nat) : State :=
  { awake with
    ann := { state := .running, shard := natLe 1024 8 ++ zeros 8 ++ natLe 0 8 ++ natLe 64 8 ++ natLe r 4 ++ natLe 4 4 ++ natLe 1 4 ++ [8, 20, 0, 0],
             buckets := [{ id := 2, body := natLe 2 2 ++ [2, 0] ++ natLe 1 4 ++ natLe 0 8 ++ natLe 1024 4 ++ zeros 28 }],
             groups := [(5, { id := 5, fmt := 2, flags := 0, mask := 1, first := 0, count := 1024, acc := 0, flagOff := 0 })], rule := { code := 1 } }
    mem := { table := tableOf 4, joined := true, rank := r, recorder := 0, standby := 1, gen := 1 } }

/-- AnnealCommands: a job that is configured, one that runs and is held, an open barrier. -/
theorem witness_anneal_commands :
    (let a := (member 2).ann; a.state = .running ∧ a.start = none ∧ a.stopping = none ∧ a.hold = none ∧ (a.bucket? 2).isSome = true ∧ a.bucket? 3 = none ∧
      (∀ b ∈ a.buckets, contributors b.mask ≠ []) ∧ (member 2).isRecorder = false ∧ (member 2).others ≠ []) ∧
    (({ state := .configured, buckets := [] } : Anneal).state = .configured) ∧
    (({ (member 2).ann with hold := some 0x20 } : Anneal).wrote = false) ∧
    (let s : State := { awake with fab := mapped0 }; (s.writeC 0 0 (zeros 64)).toBool = true) := by decide

/-- AnnealSteps: a token in order of contributor 0, a member's messages, an update whose groups are sent, a group whose flags are due. -/
theorem witness_anneal_steps :
    (let s := member 2;
      let tok := leNat (natLe 0 6 ++ natLe 2 2 ++ natLe 0 4 ++ [0, 0, 0, 0xA5]);
      s.ann.mask / 2 ^ 0 % 2 = 1 ∧ tok / 2 ^ 120 % 256 = 0xA5 ∧ tok / 2 ^ 96 % 256 = 0 ∧ tok / 2 ^ 64 % 2 ^ 32 = 0 ∧ 0 < (s.ann.rings.getD 0 {}).credit + s.ann.depth ∧
      tok % 2 ^ 48 = s.ann.step ∧ tok / 2 ^ 48 % 65536 = 2 ∧ s.ann.live = true ∧ s.jobN = 4 ∧ s.jobRank = 2 ∧ (s.ann.groups.find? 5).isSome = true ∧
      (treeKids 16 (member 0).jobN (member 0).jobRank).contains 3 = true) ∧
    (∀ k ∈ (member 2).others, (member 2).peerDown k = false) := by decide

/-- LehrEpochs and LehrSegments: the recorder and another member hear a message of generation 1; an epoch in each state; buddies and served ranks. -/
theorem witness_lehr : (member 0).isRecorder = true ∧ (member 2).isRecorder = false ∧ (member 1).isStandby = true ∧ (member 2).mem.fenced = false ∧
    (member 2).mem.gen ≤ 1 ∧
    (let s := withProfile 3 0 [(6, 0), (7, 1000)] (member 0); s.epochTimer ≠ 0 ∧ s.stepCause = false) ∧ (member 2).leh.cur = none ∧
    (member 2).buddies ≠ [] ∧ (member 2).servedRanks ≠ [] ∧ (∀ k ∈ (member 2).buddies, (member 2).peerDown k = false) := by decide

/-- Recovery: a pull under way and one that is not, a fill that waits for its members, a pane that asks for its repair. -/
theorem witness_recovery :
    (let p : Pull := { epoch := 3, rank := 1, seg := some 0, holder := 2, rest := [3] };
      let s := { member 2 with leh := { pulls := [p], fill := some { ref := some ref0, reshard := false, epoch := 3, manifest := [], table := tableOf 4, flags := 0 } } };
      s.pullAt 1 (some 0) = some p ∧ s.pullAt 1 (some 1) = none ∧ p.pane = none) ∧
    (let s := { member 2 with ann := { (member 2).ann with repair := [7] } }; s.ann.repair.contains 7 = true ∧ s.leh.cur = none ∧ s.leh.pulls = []) ∧
    (member 2).heldManifest 0 = none ∧ (member 2).leh.waiting = none := by decide

/-- Membership: a member others watch, a suspicion, a confirmer that probes, the premises of a declared loss at the recorder. -/
theorem witness_membership :
    (member 2).suspectOf 3 = false ∧ ((member 2).watchOf 2).contains 3 = true ∧ 3 < tableN (member 2).mem.table ∧
    (let s := { member 0 with mem := { (member 0).mem with probing := [(3, 2)] } };
      tableOk s.mem.table = true ∧ s.rme.qps = [] ∧ (withProfile 5 0 [(3, 1)] s).prof 5 0 3 0 = 1 ∧ s.confirms 3 = true ∧ s.mem.confirmed = [] ∧
      s.mem.rank = s.mem.recorder) ∧
    (let s := { member 2 with mem := { (member 2).mem with suspects := [{ rank := 0, confirmer := 1 }, { rank := 1, confirmer := 1 }] } };
      s.suspectOf 0 = true ∧ s.candidate9 = some 2) := by decide +kernel

/-- Membership: a job QP whose oldest packet may go out again. -/
theorem witness_ack_timeout :
    (let q : Qp := { tenant := 0, state := 3, retryCnt := 1, sent := [⟨5, []⟩], timeout := 8 };
      let s : State := { rme := { qps := [(0x40000, q)] } }; (s.qp? 0x40000).isSome = true ∧ q.state = 3 ∧ q.rnrWait = false ∧ (if q.failPsn = 5 then q.fails + 1 else 1) ≤ q.retryCnt) := by
  decide

/-- AccelSlots and AccelLinks: a slot under each policy and in each state; a port that may train; a read outstanding and a tag in quarantine. -/
theorem witness_accel :
    (let on := fun (p : Port) => ({ awake with apt := { ports := [(7, p)] } } : State);
      (on {}).rootPort 7 = true ∧ bitOf ((on {}).port 7).ctrl 5 = false ∧ bitOf ((on { ctrl := 0x3F#32 }).port 7).ctrl 5 = true ∧
      (on { cohort := true }).rootPort 7 = false ∧ (on {}).servesJob 7 = false ∧ (on {}).boot.conflicts.contains 7 = false ∧
      ((on { slot := .on, dl := true }).port 7).live = true ∧ ((on { slot := .on, dl := true }).port 7).reachable = true) ∧
    ((member 2).servesJob 0 = true) := by decide

/-- StorageQueues: a queue with room, its last free slot among the tails; a namespace whose keys are kept in plain; a command of which nothing is known. -/
theorem witness_storage_queues :
    (let x : NvSq := { base := 0, size := 4, cq := 1 };
      3 < x.size ∧ (3 + x.size - x.tail) % x.size ≤ x.size - 1 - (x.tail + x.size - x.head) % x.size ∧ awake.pwr.transition = false) ∧
    (let s : State := { sto := { ctrls := [(0, { rdy := true, sqs := [(1, { base := 0, size := 4, cq := 1 })], fetched := [(1, zeros 64)] })] } };
      (s.nvCtrl 0).fetched.find? 1 = some (zeros 64) ∧ (s.nvCtrl 0).aers = [] ∧ (s.nvCtrl 0).rdy = true ∧ s.space 0 0 = none ∧ fieldAt (zeros 64) 0 1 = 0) ∧
    awake.sto.cmds = [] ∧ (∀ d < 4, (awake.sdrive d).ready = false) := by decide

/-- StorageDrives: a part at a drive and at a remote target, a drive that may train, a replica answer that is late. -/
theorem witness_storage_drives :
    (let n : NvCmd := { id := 0, ctrl := 0, sq := 1, cid := 5, op := 1, tenant := 0, nsids := [1], ranges := [], stage := .handed,
                        parts := [{ drive := 1, tag := 9, off := 0, len := 0 }, { drive := 256, tag := 9, off := 0, len := 0 }] };
      let s : State := { sto := { cmds := [n], lateTags := [(0, 8)], drives := [(1, { present := true, ready := true })] } };
      (s.partAt 1 9).map (·.1) = some n ∧ (s.partAt 256 9).map (·.1) = some n ∧ s.partAt 2 9 = none ∧ s.sto.lateTags.contains (0, 8) = true ∧
      (s.sdrive 1).ready = true ∧ (s.sdrive 1).resetting = false) ∧
    awake.mayTrain 3 = true ∧ awake.target 0 = none := by decide

/-- AdminCommands: each admin command fetched; a queue pair of an accelerator that is on. -/
theorem witness_admin_commands :
    (∀ op ∈ [0x00, 0x01, 0x02, 0x04, 0x05, 0x06, 0x08, 0x09, 0x0A, 0x0C, 0x10, 0x11, 0xC1, 0xC2],
      let b := body [(0, 1, op)];
      let s : State := { sto := { ctrls := [(0, { fetched := [(0, b)] })] } };
      (s.nvCtrl 0).fetched.find? 0 = some b ∧ fieldAt b 0 1 = op ∧ op ∈ adminOps) ∧
    fieldAt (body [(0, 1, 0xFF)]) 0 1 ∉ adminOps ∧
    (let s : State := { boot := { transfer := some { bank := 1, next := 65536, total := none, manifestOk := true, path := 0, image := zeros 65536 } } };
      (s.nvTransfer).isSome = true ∧ s.fl.idle = true) := by decide

/-- NetworkReceive and PacketPipeline: a port that is up, a frame of the least size, PAUSE and PFC frames, the oldest packet of a lane. -/
theorem witness_network :
    (let s : State := { awake with net := { ports := [(0, { linkUp := true, inbox := [{ bytes := zeros 60 }] })] }, mrv := { lanes := [(63, [{ bytes := zeros 60 }])] } };
      0 < s.netPorts ∧ s.ioRuns = true ∧ (s.netPort 0).linkUp = true ∧ 60 + 4 ≤ s.maxFrame ∧ s.fits 0 (s.framePrio (zeros 60)) (cellsOf (zeros 60)) = true ∧
      s.nextPort = some 0 ∧ s.reorderHeld < 8192 ∧ (s.mrv.lanes.getD 63 []).isEmpty = false ∧
      isMacCtrl (zeros 12 ++ [0x88, 0x08, 0x00, 0x01] ++ zeros 44) 0x0001 = true ∧ isMacCtrl (zeros 12 ++ [0x88, 0x08, 0x01, 0x01] ++ zeros 44) 0x0101 = true) := by
  decide

/-- TrafficQueues: a device leaf with room for a frame of the device, and a leaf no node has. -/
theorem witness_traffic_queues : let f : TxFrame := { bytes := zeros 60, tenant := 16 }
    (awake.node 65280).isSome = true ∧ (awake.path 65280).isSome = true ∧ awake.leafTenant 65280 = some f.tenant ∧ awake.node 5 = none ∧
    (awake.leaf 65280).cells + cellsOf f.bytes ≤ nodeMaxCells ((awake.node 65280).getD []) ∧ awake.poolUse + cellsOf f.bytes ≤ awake.egressCells ∧
    4096 ≤ nodePolicer ((awake.node 65280).getD []) := by decide

/-- QueuePairs and RemotePackets: contexts in RTS and ERROR, a window that is open, one that drains, room for a window. -/
theorem witness_queue_pairs :
    (let s : State := { awake with rme := { qps := [(0x40000, { tenant := 0, state := 3, rnrWait := true, msgs := [⟨0, 1, 1, 0, 4⟩] })],
                                            windows := [(0, { isOpen := true }), (1, {})] } };
      (s.qp? 0x40000).isSome = true ∧ s.qp? 0x40001 = none ∧ (s.rme.windows.getD 0 {}).isOpen = true ∧ (s.rme.windows.getD 1 {}).isOpen = false ∧
      s.rme.inFlight 1 = true ∧ s.rme.inFlight 0 = false ∧ s.rme.windowsOf 0 < s.rmeKey 0x120 4096 ∧ s.handing 2 = false) ∧
    roceOf (zeros 60) = none := by decide

/-- CrucibleServices and AttestationAndTap: services that reach Crucible in and outside its operational state; pins that are driven and not. -/
theorem witness_crucible :
    (∀ k ∈ [1, 2], let s : State := { awake with cru := { state := k, nonces := [zeros 16] } };
      s.cruHeard .sideband = true ∧ s.cru.state = k ∧ s.cru.nonces.contains (zeros 16) = true ∧ s.cru.fuses.active = none) ∧
    awake.ioDriven = !awake.sup.ioReleased ∧ (State.reset).ioDriven = false := by decide

/-- PowerStates: P0 with no transition and a wake source enabled, P2, and an entry to P2 under way. -/
theorem witness_power_states :
    (awake.pwr.state = .p0 ∧ awake.pwr.transition = false ∧ awake.mayEnter .p2 = true ∧ awake.mayEnter .p3 = true ∧ awake.jobRunning = false ∧
      awake.noneRunning = true ∧ awake.hep.heldReqs = []) ∧
    (let s : State := { awake with pwr := { state := .p0, transition := true, target := .p2, committed := true, wakeEn := 1#32 } };
      s.pwr.transition = true ∧ s.pwr.wakeSeen = false ∧ bitOf s.pwr.wakeEn 0 = true) := by decide

/-- SidebandCommands: a device that is heard, on I3C and on SMBus. -/
theorem witness_sideband : awake.heard .sideband = true ∧ (awake.onI3c = true) ∧ ({ awake with sb := { protocol := 0 } } : State).onI3c = false ∧
    awake.aodRead 0x100 ≠ none ∧ awake.aodRead 0x7FC = none := by decide

/-- SupplyRecovery, FabricAndScrub, WithdrawalAndSnapshotHooks: a cut-off with MOD_EN low; the sixteenth failed replay, a lane of a network port; a full hold buffer. -/
theorem witness_edges_of_supply_and_fabric :
    (let s := after (.overvoltageCutOff 56001) (after .modEnFall powered); s.sup.cutoff = true ∧ s.sup.modEn = false) ∧
    (let s : State := { awake with fab := { linkRun := [(7, 15)] } };
      s.fab.linkRun.getD 7 0 = 15 ∧ s.boot.supervisor = true ∧ s.pwr.state = .p0 ∧ s.coreRestarting 0 = false) ∧
    awake.domainPowered 160 = true ∧ awake.domainPowered 191 = true ∧
    (let s : State := { fab := { ctrls := [(0, { held := List.replicate 256 ⟨0, [0]⟩ })] } }; 256 ≤ (s.fab.ctrl (stackOf 0)).held.length) := by decide +kernel

/-- HostDriverAndResets and FaultLogEntries: the lead of a member without host port, with a frozen function and no stopping queue. -/
theorem witness_lead_of_a_member : let s : State := { awake with
      hep := { awake.hep with fns := [(0, { mse := true, bme := true, hbArmed := true, frozen := true })] }
      apt := { present := [1], memberInfo := [(1, (0, 1))] } }
    (s.hostFn 0).frozen = true ∧ (s.hostFn 0).held = [] ∧ (∀ x ∈ (s.con.fn 0).queues, x.2.state ≠ .stopping) ∧ s.carriedBy = false ∧
    s.sup.straps.cohortId = 0 ∧ s.apt.present = [1] ∧ (s.apt.memberInfo.getD 1 (0, 0)).1 = 0 := by decide

/-- AnnealCommands and AnnealSteps: a late digest is due, a job whose scalars are exchanged, a re-shard to step 9. -/
theorem witness_late_digest_and_reshard :
    (let s : State := { ann := { state := .configured, lateDigests := [1] } }; s.ann.lateDigests.contains 1 = true ∧ s.resharding = none) ∧
    (let s := { member 2 with ann := { (member 2).ann with phase := .scalars } }; s.ann.live = true ∧ s.ann.phase = .scalars ∧ s.ann.hold = none) ∧
    (let s := { member 2 with leh := { fill := some { ref := none, reshard := true, epoch := 9, manifest := [], table := tableOf 4, flags := 0 } } };
      s.resharding.isSome = true) := by decide

/-- LehrSegments and Membership: a segment of an epoch that is not yet current; a probe that has expired, and the recorder silent to the report of another. -/
theorem witness_early_segment_and_expired_probe :
    ((member 2).servedRanks.contains 1 = true ∨ (member 2).servedRanks ≠ []) ∧ (member 2).leh.early ((member 2).leh.lastEpoch + 1) = true ∧
    (let s := { member 2 with mem := { (member 2).mem with expired := [3] } }; s.mem.expired.contains 3 = true ∧ s.mem.confirmed.contains 3 = false) := by decide

/-- AccelSlots and AccelLinks: a slot in FAULT whose window runs, a port whose link is up, and the lead with two members on cohort ports. -/
theorem witness_accel_edges :
    (let p : Port := { slot := .fault, window := true }; p.refusing = false ∧ p.window = true) ∧
    (let s : State := { awake with apt := { present := [1, 2], ports := [(0, { cohort := true, partner := some 1, dl := true }), (1, { cohort := true, partner := some 2, dl := true }),
                                                                          (7, { slot := .on, dl := true, enabled := true })] } };
      s.rootPort 7 = true ∧ (s.port 7).linked = true ∧ s.apt.present.contains 1 = true ∧ s.apt.present.contains 3 = false ∧ (s.route 2).isSome = true ∧ s.pwr.state ≠ .p1) ∧
    (let s : State := { awake with apt := { present := [1] }, fab := mapped0 }; (s.fab.writeDev 0 65535 [0]).toOption.isSome = true) := by decide

/-- NumberFormats: the greatest finite encoding of a format, and values that overflow it. -/
theorem witness_number_formats : fp16.top % 2 ^ (fp16.bits - 1) ≤ fp16.top ∧ fp16.top < 2 ^ fp16.bits ∧ e4m3.top < e4m3.enc 1 100 .rne 0 ∧
    e5m2.top < e5m2.enc 1 100 .rtz 0 := by decide

end Sys2Proof.Tests
end

/-! # Proofs: the instruction set (spec/18) -/

namespace Sys2Proof.Machine

open Sys2Proof

/-! ## Running one DV32 instruction -/

/-- Two changes of a core that agree on the core as it stands leave the same state. -/
theorem State.modCore_congr {s : State} {c : Nat} {f g : Core → Core} (h : f (s.core c) = g (s.core c)) :
    s.modCore c f = s.modCore c g := by
  unfold State.core at h
  simp only [State.modCore, State.modGaf, Tbl.upd, h]

/-- A register write changes the list of general registers alone. -/
theorem Core.setReg_eq_with_g (k : Core) (n : Nat) (v : W32) : k.setReg n v = { k with g := (k.setReg n v).g } := by
  unfold Core.setReg; split <;> rfl

/-- The gates of `dvStep` are open for an instruction that runs. -/
theorem Runs.dvStep_eq {s : State} {c : Nat} {d : Dv} (h : Runs s c d) (run : State → State) : s.dvStep c d run = run s := by
  obtain ⟨hc, hlive, hhand, hfetch, hwf, hword⟩ := h
  have hgate : ¬ (8 ≤ c ∨ ¬ (s.core c).live ∨ (6 ≤ c ∧ s.handing 6)) := by
    rintro (h8 | hdead | ⟨h6, hh⟩)
    · omega
    · exact hdead hlive
    · simp [hhand h6] at hh
  simp only [State.dvStep, if_neg hgate, hfetch, hwf, hword, ne_eq, not_true_eq_false, if_false, and_self, if_true]

/-- A write of `v` to register `rd` gives what `regsAfter` says, whatever an earlier ERET left in REPCNT. -/
theorem Core.reg_setReg_settleEret (s : State) (c rd : Nat) (v : W32) (n : Nat) :
    ((s.core c).settleEret.setReg rd v).reg n = regsAfter s c rd v n := by
  rw [Core.reg_setReg, Core.settleEret_reg, regsAfter]
  by_cases hn : n = rd
  · subst hn
    by_cases h0 : n = 0
    · simp [h0, Core.reg_zero]
    · simp [h0]
  · simp [hn]

section

variable {s : State} {c rd ra rb l w sel : Nat} {v : W32}

/-- An instruction that runs and whose effect is a register write leaves just that: the value in rd, and the next instruction (R473, R489). -/
theorem Runs.coreWrote {d : Dv} (h : Runs s c d)
    (hset : (s.modCore c Core.settleEret).dvOne c d = (s.modCore c Core.settleEret).dvSet c rd v) :
    CoreWrote s (s.dvExec c d) c rd v := by
  have hexec : s.dvExec c d = s.modCore c fun k => { k.settleEret.setReg rd v with pc := k.pc + 4#32 } := by
    rw [State.dvExec, h.dvStep_eq]
    simp [State.dvRun, hset, State.dvSet]
  rw [hexec]
  refine ⟨fun n => ?_, State.modCore_congr ?_⟩
  · rw [State.core_modCore]
    exact Core.reg_setReg_settleEret s c rd v n
  · rw [State.core_modCore, Core.setReg_eq_with_g]

theorem Runs.coreWrote_reg {f : Alu} (h : Runs s c (.reg f rd ra rb))
    (hv : f.val ((s.core c).reg ra) ((s.core c).reg rb) ((s.core c).reg rd) = v) :
    CoreWrote s (s.dvExec c (.reg f rd ra rb)) c rd v :=
  h.coreWrote (by simp [State.dvOne, hv])

theorem Runs.coreWrote_bfx {sx : Bool} (h : Runs s c (.bfx rd ra l w sx)) :
    CoreWrote s (s.dvExec c (.bfx rd ra l w sx)) c rd (bfxVal ((s.core c).reg ra) l w sx) :=
  h.coreWrote (by simp [State.dvOne])

theorem Runs.coreWrote_bfi (h : Runs s c (.bfi rd ra l w)) :
    CoreWrote s (s.dvExec c (.bfi rd ra l w)) c rd (bfiVal ((s.core c).reg rd) ((s.core c).reg ra) l w) :=
  h.coreWrote (by simp [State.dvOne])

theorem Runs.coreWrote_perm (h : Runs s c (.perm rd ra sel)) :
    CoreWrote s (s.dvExec c (.perm rd ra sel)) c rd (permute ((s.core c).reg ra) ((s.core c).reg rd) sel) :=
  h.coreWrote (by simp [State.dvOne])

/-- A BFX that runs has a field of at least one bit that lies in the register (R481). -/
theorem Runs.bfx_field {sx : Bool} (h : Runs s c (.bfx rd ra l w sx)) : 1 ≤ w ∧ l + w ≤ 32 := by
  obtain ⟨-, -, -, -, hwf, -⟩ := h
  simp only [Dv.wf, decide_eq_true_eq] at hwf
  omega

end

/-! ## The values of the register instructions -/

theorem flag_decide (p : Prop) [Decidable p] : flag (decide p) = if p then 1#32 else 0#32 := by
  simp [flag]

theorem Alu.val_sll (a b d : W32) : Alu.sll.val a b d = BitVec.ofNat 32 (a.toNat * 2 ^ (b.toNat % 32)) := by
  apply BitVec.eq_of_toNat_eq
  simp [Alu.val, Nat.shiftLeft_eq]

theorem Alu.val_srl (a b d : W32) : Alu.srl.val a b d = BitVec.ofNat 32 (a.toNat / 2 ^ (b.toNat % 32)) := by
  have hlt : a.toNat / 2 ^ (b.toNat % 32) < 2 ^ 32 := (Nat.div_le_self _ _).trans_lt a.isLt
  apply BitVec.eq_of_toNat_eq
  rw [BitVec.toNat_ofNat, Nat.mod_eq_of_lt hlt, Alu.val, BitVec.toNat_ushiftRight, Nat.shiftRight_eq_div_pow]

theorem Alu.val_sra (a b d : W32) : Alu.sra.val a b d = BitVec.ofInt 32 (a.toInt / 2 ^ (b.toNat % 32)) := by
  rw [Alu.val, BitVec.sshiftRight_eq, Int.shiftRight_eq_div_pow, Nat.cast_pow, Nat.cast_ofNat]

theorem Alu.val_slt (a b d : W32) : Alu.slt.val a b d = if a.toInt < b.toInt then 1#32 else 0#32 := by
  rw [Alu.val, BitVec.slt_eq_decide, flag_decide]

theorem Alu.val_sltu (a b d : W32) : Alu.sltu.val a b d = if a.toNat < b.toNat then 1#32 else 0#32 :=
  flag_decide _

theorem Alu.val_mul (a b d : W32) : Alu.mul.val a b d = BitVec.ofNat 32 (a.toNat * b.toNat) := by
  rw [Alu.val, BitVec.ofNat_mul, BitVec.ofNat_toNat, BitVec.ofNat_toNat, BitVec.setWidth_eq, BitVec.setWidth_eq]

/-- The one quotient that overflows, −2^31 by −1, wraps to −2^31 (R480). -/
theorem Alu.val_div (a b d : W32) : Alu.div.val a b d =
    if b = 0#32 then 0xFFFFFFFF#32 else if a = 0x80000000#32 ∧ b = 0xFFFFFFFF#32 then 0x80000000#32
    else BitVec.ofInt 32 (a.toInt.tdiv b.toInt) := by
  by_cases h : a = 0x80000000#32 ∧ b = 0xFFFFFFFF#32
  · obtain ⟨rfl, rfl⟩ := h; rfl
  · rw [if_neg h]; rfl

/-- The remainder of the quotient that overflows is 0 (R480). -/
theorem Alu.val_rem (a b d : W32) : Alu.rem.val a b d =
    if b = 0#32 then a else if a = 0x80000000#32 ∧ b = 0xFFFFFFFF#32 then 0#32
    else BitVec.ofInt 32 (a.toInt.tmod b.toInt) := by
  by_cases h : a = 0x80000000#32 ∧ b = 0xFFFFFFFF#32
  · obtain ⟨rfl, rfl⟩ := h; rfl
  · rw [if_neg h]; rfl

/-! ### Leading zeros (R483) -/

theorem clzN_le (w : W32) (n : Nat) : clzN w n ≤ n := by
  induction n with
  | zero => simp [clzN]
  | succ n ih => simp only [clzN]; split <;> omega

/-- The lowest `n + 1` bits by their top one. -/
theorem toNat_mod_two_pow_succ (w : W32) (n : Nat) :
    w.toNat % 2 ^ (n + 1) = w.toNat % 2 ^ n + if w.getLsbD n then 2 ^ n else 0 := by
  rw [Nat.mod_pow_succ, ← BitVec.testBit_toNat, Nat.testBit_eq_decide_div_mod_eq]
  rcases Nat.mod_two_eq_zero_or_one (w.toNat / 2 ^ n) with h | h <;> simp [h]

/-- No bit is set above the leading zeros. -/
theorem mod_two_pow_lt_of_clzN (w : W32) (n : Nat) : w.toNat % 2 ^ n < 2 ^ (n - clzN w n) := by
  induction n with
  | zero => simp [clzN, Nat.mod_one]
  | succ n ih =>
    by_cases hbit : w.getLsbD n
    · simpa [clzN, hbit] using Nat.mod_lt _ (Nat.two_pow_pos (n + 1))
    · rw [toNat_mod_two_pow_succ]
      simpa [clzN, hbit, Nat.add_comm 1] using ih

/-- The bit below the leading zeros is set. -/
theorem two_pow_le_of_clzN_lt (w : W32) (n : Nat) (h : clzN w n < n) : 2 ^ (n - 1 - clzN w n) ≤ w.toNat % 2 ^ n := by
  induction n with
  | zero => omega
  | succ n ih =>
    rw [toNat_mod_two_pow_succ]
    by_cases hbit : w.getLsbD n
    · simp [clzN, hbit]
    · simp only [clzN, hbit, Bool.false_eq_true, if_false] at h ⊢
      have hlow := ih (by omega)
      rwa [Nat.add_zero, Nat.add_sub_cancel, Nat.sub_add_eq]

/-! ### Byte permutes (R484) -/

/-- Byte `i` of a word packed from four bytes. -/
theorem byte_pack (src : Nat → Nat) (hsrc : ∀ k, src k < 256) {i : Nat} (hi : i < 4) :
    (w32 (pack ((seqFrom 0 4).map fun i => (8 * i, src i)))).toNat / 2 ^ (8 * i) % 256 = src i := by
  have h0 := hsrc 0
  have h1 := hsrc 1
  have h2 := hsrc 2
  have h3 := hsrc 3
  simp only [w32, seqFrom, List.map, pack, BitVec.toNat_ofNat, Nat.zero_add, Nat.reduceAdd]
  interval_cases i <;> omega

/-- Byte `k` of the eight a permute reads: ra, then rd as it was before (R484). -/
def sourceByte (a d : W32) (k : Nat) : Nat := if k < 4 then byteOf a k else byteOf d (k - 4)

theorem byteOf_lt (w : W32) (i : Nat) : byteOf w i < 256 := Nat.mod_lt _ (by decide)

theorem sourceByte_lt (a d : W32) (k : Nat) : sourceByte a d k < 256 := by
  unfold sourceByte; split <;> exact byteOf_lt _ _

theorem permute_eq_pack_sourceByte (a d : W32) (sel : Nat) :
    permute a d sel = w32 (pack ((seqFrom 0 4).map fun i => (8 * i, sourceByte a d (sel / 2 ^ (3 * i) % 8)))) := rfl

/-- Byte `i` of a permute is the source byte its selector names. -/
theorem byte_permute (a d : W32) (sel : Nat) {i : Nat} (hi : i < 4) :
    (permute a d sel).toNat / 2 ^ (8 * i) % 256 =
      if sel / 2 ^ (3 * i) % 8 < 4 then a.toNat / 2 ^ (8 * (sel / 2 ^ (3 * i) % 8)) % 256
      else d.toNat / 2 ^ (8 * (sel / 2 ^ (3 * i) % 8 - 4)) % 256 := by
  rw [permute_eq_pack_sourceByte, byte_pack _ (fun _ => sourceByte_lt a d _) hi]
  rfl

/-- The four selectors of three bits lie in the lowest 12 bits. -/
theorem selector_mod_4096 (n : Nat) {i : Nat} (hi : i < 4) : n % 4096 / 2 ^ (3 * i) % 8 = n / 2 ^ (3 * i) % 8 := by
  interval_cases i <;> omega

/-! ### Bit fields (R482) -/

theorem testBit_field (w : W32) (lo n i : Nat) : (field w lo n).testBit i = (decide (i < n) && w.getLsbD (lo + i)) := by
  rw [field, Nat.testBit_mod_two_pow, Nat.testBit_div_two_pow, BitVec.testBit_toNat, Nat.add_comm]

/-- Sign extension of the model is that of bit vectors. -/
theorem sext_eq_signExtend {n : Nat} (hn : n ≤ 32) (v : Nat) : sext n v = (BitVec.ofNat n v).signExtend 32 := by
  have hle : 2 ^ n ≤ 2 ^ 32 := Nat.pow_le_pow_right (by decide) hn
  have hlt : v % 2 ^ n < 2 ^ 32 := (Nat.mod_lt v (Nat.two_pow_pos n)).trans_le hle
  have hmod : v % 2 ^ n % 2 ^ 32 = v % 2 ^ n := Nat.mod_eq_of_lt hlt
  apply BitVec.eq_of_toNat_eq
  rw [BitVec.toNat_signExtend, BitVec.msb_eq_decide, BitVec.toNat_setWidth, BitVec.toNat_ofNat, hmod]
  by_cases hs : 2 ^ (n - 1) ≤ v % 2 ^ n
  · have hv : v % 2 ^ n < 2 ^ n := Nat.mod_lt v (Nat.two_pow_pos n)
    simp only [sext, hs, w32, if_true, decide_true, BitVec.toNat_ofNat]
    exact Nat.mod_eq_of_lt (by omega)
  · rw [sext, if_neg hs, w32, BitVec.toNat_ofNat, hmod]
    simp [hs]

theorem getLsbD_bfxVal_signed (a : W32) {l w i : Nat} (hw : 1 ≤ w) (hlw : l + w ≤ 32) (hi : i < 32) :
    (bfxVal a l w true).getLsbD i = a.getLsbD (l + if i < w then i else w - 1) := by
  have hbit {j : Nat} (hj : j < w) : (BitVec.ofNat w (field a l w)).getLsbD j = a.getLsbD (l + j) := by
    rw [BitVec.getLsbD_ofNat, testBit_field, decide_eq_true hj, Bool.true_and, Bool.true_and]
  rw [bfxVal, if_pos rfl, sext_eq_signExtend (by omega), BitVec.getLsbD_signExtend, BitVec.msb_eq_getLsbD_last,
    decide_eq_true hi, Bool.true_and]
  split
  next hiw => exact hbit hiw
  next => exact hbit (by omega)

theorem getLsbD_bfiVal (d a : W32) (l w : Nat) {i : Nat} (hi : i < 32) :
    (bfiVal d a l w).getLsbD i = if l ≤ i ∧ i < l + w then a.getLsbD (i - l) else d.getLsbD i := by
  have hlow : d.toNat % 2 ^ l < 2 ^ l := Nat.mod_lt _ (Nat.two_pow_pos l)
  have hmid : a.toNat % 2 ^ w < 2 ^ w := Nat.mod_lt _ (Nat.two_pow_pos w)
  have hparts : d.toNat % 2 ^ l + a.toNat % 2 ^ w * 2 ^ l + d.toNat / 2 ^ (l + w) * 2 ^ (l + w) =
      2 ^ l * (2 ^ w * (d.toNat / 2 ^ (l + w)) + a.toNat % 2 ^ w) + d.toNat % 2 ^ l := by ring
  rw [bfiVal, hparts, w32, BitVec.getLsbD_ofNat, Nat.testBit_two_pow_mul_add _ hlow, Nat.testBit_two_pow_mul_add _ hmid,
    Nat.testBit_mod_two_pow, Nat.testBit_mod_two_pow, Nat.testBit_div_two_pow]
  simp only [BitVec.testBit_toNat, hi, decide_true, Bool.true_and]
  rcases lt_or_ge i l with hil | hil
  · simp [hil, Nat.not_le.mpr hil]
  · rcases lt_or_ge i (l + w) with hiw | hiw
    · have hsub : i - l < w := by omega
      simp [hil, hiw, hsub, Nat.not_lt.mpr hil]
    · have hsub : ¬ i - l < w := by omega
      have hpos : i - l - w + (l + w) = i := by omega
      simp [hsub, hpos, Nat.not_lt.mpr hil, Nat.not_lt.mpr hiw]

/-! ## The obligations -/

/-- Settles O1: every instruction writes the value its rule gives (R479, R482 to R484) and goes on. -/
theorem registerInstructions : Obligations.RegisterInstructions := by
  intro s c rd ra rb lsb width sel a b d n
  refine ⟨fun h => ⟨_, rfl, h.coreWrote_reg rfl⟩, fun h => ⟨_, rfl, h.coreWrote_reg rfl⟩, fun h => ⟨_, rfl, h.coreWrote_reg rfl⟩,
    fun h => ⟨_, rfl, h.coreWrote_reg rfl⟩, fun h => ⟨_, rfl, h.coreWrote_reg rfl⟩,
    fun h => ⟨_, rfl, h.coreWrote_reg (Alu.val_sll a b d)⟩, fun h => ⟨_, rfl, h.coreWrote_reg (Alu.val_srl a b d)⟩,
    fun h => ⟨_, rfl, h.coreWrote_reg (Alu.val_sra a b d)⟩, fun h => ⟨_, rfl, h.coreWrote_reg (Alu.val_slt a b d)⟩,
    fun h => ⟨_, rfl, h.coreWrote_reg (Alu.val_sltu a b d)⟩, ?clz, ?permr,
    fun h => ⟨_, rfl, h.coreWrote_bfx⟩, ?bfxSigned, ?bfi, ?perm⟩
  case clz =>
    intro h
    have hmod : a.toNat % 2 ^ 32 = a.toNat := Nat.mod_eq_of_lt a.isLt
    exact ⟨_, rfl, clzN a 32, clzN_le a 32, h.coreWrote_reg rfl, hmod ▸ mod_two_pow_lt_of_clzN a 32,
      fun hz => hmod ▸ two_pow_le_of_clzN_lt a 32 hz⟩
  case permr =>
    intro h
    refine ⟨_, rfl, _, h.coreWrote_reg rfl, fun i hi => ?_⟩
    have hbyte := byte_permute a d (b.toNat % 4096) hi
    rwa [selector_mod_4096 b.toNat hi] at hbyte
  case bfxSigned =>
    intro h
    obtain ⟨hw, hlw⟩ := h.bfx_field
    exact ⟨_, rfl, _, h.coreWrote_bfx, fun i hi => getLsbD_bfxVal_signed a hw hlw hi⟩
  case bfi => exact fun h => ⟨_, rfl, _, h.coreWrote_bfi, fun i hi => getLsbD_bfiVal d a lsb width hi⟩
  case perm => exact fun h => ⟨_, rfl, _, h.coreWrote_perm, fun i hi => byte_permute a d sel hi⟩

/-- Settles O2: products, quotients and remainders are those of R479, the exceptions those of R480. -/
theorem multiplyDivide : Obligations.MultiplyDivide := by
  intro s c rd ra rb a b
  let d := (s.core c).reg rd
  exact ⟨fun h => ⟨_, rfl, h.coreWrote_reg (Alu.val_mul a b d)⟩, fun h => ⟨_, rfl, h.coreWrote_reg rfl⟩,
    fun h => ⟨_, rfl, h.coreWrote_reg rfl⟩, fun h => ⟨_, rfl, h.coreWrote_reg (Alu.val_div a b d)⟩,
    fun h => ⟨_, rfl, h.coreWrote_reg rfl⟩, fun h => ⟨_, rfl, h.coreWrote_reg (Alu.val_rem a b d)⟩,
    fun h => ⟨_, rfl, h.coreWrote_reg rfl⟩⟩

end Sys2Proof.Machine
